-- ==== Sys2Proof/Word.lean ====
section
/-!
DEFINITION. The plainest arithmetic of the model: byte type, masks, signed readings, ceiling and rounding division.
-/
namespace Sys2Proof

/-- One byte. -/
abbrev Byte := BitVec 8

/-- `v` cut to `w` bits. -/
abbrev cut (w v : Nat) : Nat := v % 2 ^ w

/-- Bits `[lo+w-1:lo]` of `v`. -/
abbrev bits (v lo w : Nat) : Nat := v / 2 ^ lo % 2 ^ w

/-- Bit `n` of `v`. -/
abbrev bit (v n : Nat) : Bool := v / 2 ^ n % 2 == 1

/-- 1 for true, 0 for false. -/
abbrev b2n (b : Bool) : Nat := if b then 1 else 0

/-- A `w`-bit pattern read as two's complement. -/
abbrev toInt (w v : Nat) : Int := if cut w v < 2 ^ (w - 1) then (cut w v : Int) else (cut w v : Int) - 2 ^ w

/-- The `w`-bit pattern of an integer. -/
abbrev ofInt (w : Nat) (x : Int) : Nat := (x % (2 ^ w : Int)).toNat

/-- Division rounded up. -/
abbrev ceilDiv (a b : Nat) : Nat := (a + b - 1) / b

/-- Division rounded to nearest, halves up. -/
abbrev roundDiv (a b : Nat) : Nat := if b = 0 then 0 else (2 * a + b) / (2 * b)

end Sys2Proof
end

