-- ==== Sys2Proof/Machine/Map.lean ====
section
/-!
DEFINITION. The two containers of the state. A finite map with a default value, held as an association list in one
canonical form (keys rising by a given order, no entry equal to its default), and memory, the same thing over byte
addresses with `Host.Cell` entries. A byte no entry lists reads as 0xFF in NOR, where it is erased, and as zero
elsewhere.
-/
namespace Sys2Proof.Machine

/-- A finite map as an association list. -/
abbrev AMap (κ α : Type) := List (κ × α)

namespace AMap
variable {κ α : Type} [DecidableEq κ] [DecidableEq α]

/-- The value at `k`, `d` where no entry lists it. -/
def get (d : α) : AMap κ α → κ → α
  | [], _ => d
  | (k', v) :: r, k => if k' = k then v else get d r k

/-- The map without the key `k`. -/
def erase : AMap κ α → κ → AMap κ α
  | [], _ => []
  | (k', v) :: r, k => if k' = k then erase r k else (k', v) :: erase r k

/-- `(k, v)` put before the first entry of a greater key. -/
def place (ord : κ → Nat) (k : κ) (v : α) : AMap κ α → AMap κ α
  | [] => [(k, v)]
  | (k', v') :: r => if ord k < ord k' then (k, v) :: (k', v') :: r else (k', v') :: place ord k v r

/-- The map with `v` at `k`; a default value removes the entry. -/
def set (ord : κ → Nat) (d : α) (m : AMap κ α) (k : κ) (v : α) : AMap κ α :=
  if v = d then erase m k else place ord k v (erase m k)

/-- The canonical form: keys strictly rising, no entry equal to its default. -/
def wf (ord : κ → Nat) (d : κ → α) : AMap κ α → Bool
  | [] => true
  | [(k, v)] => v ≠ d k
  | (k, v) :: (k', v') :: r => v ≠ d k && ord k < ord k' && wf ord d ((k', v') :: r)

end AMap

/-- A map from numbers. -/
abbrev NMap (α : Type) := AMap Nat α

/-- The value at number `k` of a map whose default is `d`. -/
abbrev NMap.at {α : Type} (d : α) (m : NMap α) (k : Nat) : α := AMap.get d m k

/-- The map with `v` at number `k`. -/
abbrev NMap.put {α : Type} [DecidableEq α] (d : α) (m : NMap α) (k : Nat) (v : α) : NMap α := AMap.set id d m k v

/-- The `n` little-endian bytes of `v` (R10). -/
def leBytes : Nat → Nat → List Nat
  | 0, _ => []
  | n + 1, v => v % 256 :: leBytes n (v / 256)

/-- Memory: (address, byte) pairs, addresses strictly rising, no byte listed that reads so unlisted. -/
abbrev Memory := AMap Nat Byte

namespace Memory

/-- What a byte that nothing has written reads as (DESIGN CHOICE, log entry 2): the erased value in the NOR window of
R335, zero elsewhere. -/
def base (a : Nat) : Byte := if 0x30000000 ≤ a && a < 0x40000000 then 0xFF else 0

/-- The byte at `a`. -/
def rd8 (m : Memory) (a : Nat) : Nat := (AMap.get (base a) m a).toNat

/-- Memory with byte `v` at `a`. -/
def wr8 (m : Memory) (a v : Nat) : Memory := AMap.set id (base a) m a (BitVec.ofNat 8 v)

/-- `n` bytes from `a`, lowest address first. -/
def rdBytes (m : Memory) (a : Nat) : Nat → List Nat
  | 0 => []
  | n + 1 => rd8 m a :: rdBytes m (a + 1) n

/-- The listed cells of a block of bytes from `a` on. -/
def cells (a : Nat) : List Nat → Memory
  | [] => []
  | b :: r => if BitVec.ofNat 8 b = base a then cells (a + 1) r else (a, BitVec.ofNat 8 b) :: cells (a + 1) r

/-- Memory with the bytes of a list from `a` on. -/
def wrBytes (m : Memory) (a : Nat) (l : List Nat) : Memory :=
  m.filter (fun e => e.1 < a) ++ (cells a l ++ m.filter (fun e => a + l.length ≤ e.1))

/-- Memory with the `n` bytes from `a` on as though nothing had written them: zero, or erased. -/
def wipe (m : Memory) (a n : Nat) : Memory := m.filter fun e => e.1 < a || a + n ≤ e.1

/-- An `n`-byte little-endian value at `a` (R10). -/
def rdN (m : Memory) (a : Nat) : Nat → Nat
  | 0 => 0
  | n + 1 => rd8 m a + 256 * rdN m (a + 1) n

/-- A 32-bit word. -/
def rd32 (m : Memory) (a : Nat) : Nat := rdN m a 4

/-- Memory with a 32-bit word written. -/
def wr32 (m : Memory) (a v : Nat) : Memory := wrBytes m a (leBytes 4 v)

/-- The canonical form of memory. -/
def wf (m : Memory) : Bool := AMap.wf id base m

end Memory

/-- The value of little-endian bytes. -/
def leVal : List Nat → Nat
  | [] => 0
  | b :: r => b + 256 * leVal r

/-- The `n` big-endian bytes of `v` (network byte order). -/
def beBytes (n v : Nat) : List Nat := (leBytes n v).reverse

/-- The value of big-endian bytes. -/
def beVal (l : List Nat) : Nat := leVal l.reverse

/-- `l` cut or padded with zeros to `n` bytes. -/
def padTo (n : Nat) (l : List Nat) : List Nat := (l ++ List.replicate n 0).take n

end Sys2Proof.Machine
end

