-- ==== Sys2Proof/Machine/Basic.lean ====
section
/-!
DEFINITION. The small types that commands, responses and state share: worlds, initiators, responses, event log
records.
-/
namespace Sys2Proof.Machine

/-- The three worlds of R379. -/
inductive World where
  | normal | safety | secure
  deriving DecidableEq, Repr

/-- The codes of R379. -/
def World.code : World → Nat
  | .normal => 0
  | .safety => 1
  | .secure => 2

/-- The world of a code; code 0b11 is refused wherever it is written, so no field holds it. -/
def World.ofCode (c : Nat) : World := if c % 4 = 0 then .normal else if c % 4 = 1 then .safety else .secure

/-- Who sends a command: a master number of R326, and the world it acts in where R326 says that the master's world
varies (Millrace dispatcher, Weir, host port, object engine, debug module). -/
structure Initiator where
  master : Nat
  claim : World
  deriving DecidableEq, Repr

/-- The initiator of a command that no bus master sends (the hardware itself). -/
def Initiator.hw : Initiator := ⟨0xFF, .normal⟩

/-! ## Abort codes (R424) -/

abbrev abortToggle : Nat := 0x05030000
abbrev abortTimeout : Nat := 0x05040000
abbrev abortCommand : Nat := 0x05040001
abbrev abortRights : Nat := 0x06010000
abbrev abortWriteOnly : Nat := 0x06010001
abbrev abortReadOnly : Nat := 0x06010002
abbrev abortNoObject : Nat := 0x06020000
abbrev abortLength : Nat := 0x06070010
abbrev abortNoSub : Nat := 0x06090011
abbrev abortValue : Nat := 0x06090030
abbrev abortGeneral : Nat := 0x08000000
abbrev abortLocked : Nat := 0x08000021
abbrev abortActive : Nat := 0x08000022
abbrev abortSecure : Nat := 0x08800001
abbrev abortStale : Nat := 0x08800002
abbrev abortBusy : Nat := 0x08800003
abbrev abortParts : Nat := 0x08800004

/-- What the last command gave back to its sender. -/
inductive Resp where
  | none                            -- nothing is returned
  | value (v : Nat)                 -- a register value
  | data (bytes : List Nat)         -- a block of bytes
  | accessFault                     -- an access fault (R335, R337, R344)
  | abort (code : Nat)              -- an object access aborts with this code (R410)
  | status (code : Nat)             -- a monitor call's status (R384)
  | statusData (code : Nat) (bytes : List Nat)
  | noAnswer                        -- the request is not answered
  deriving DecidableEq, Repr

/-- An event log record of R427 (ESEQ, stamp, block, event, initiator, data bytes). -/
structure LogRec where
  stamp : Nat
  eseq : Nat
  src : Nat
  evt : Nat
  master : Nat
  world : Nat
  data : List Nat
  deriving DecidableEq, Repr

/-- The 32 bytes of a record (R427). -/
def LogRec.bytes (r : LogRec) : List Nat :=
  leBytes 8 r.stamp ++ leBytes 4 r.eseq ++ [r.src % 256, r.evt % 256, r.master % 256, r.world % 4] ++ padTo 16 r.data

/-- The record that stands for "no record": all zero. -/
def LogRec.zero : LogRec := ⟨0, 0, 0, 0, 0, 0, []⟩

end Sys2Proof.Machine
end

