-- ==== Sys2Proof/Machine/Parts.lean ====
section
/-!
DEFINITION. The parts of the state that no register shows, block by block: plain data, each with the value it has
after reset as its default value.
-/
namespace Sys2Proof.Machine

/-- Millrace (R53 to R78): what the loop, the boundary and the always-on domain hold. -/
structure Millrace where
  turn : Nat := 0              -- turn number
  frozen : Nat := 0            -- angle while phase time does not run (OFF, ACQUIRE)
  boundary : Nat := 0          -- time of the last turn boundary (angle 0), 10 ns units
  rate : Nat := 0              -- frequency in force for this turn, 2^-16 Hz
  slew : Int := 0              -- angle units this turn removes of the phase error (positive shortens it)
  err : Int := 0               -- phase error e still to remove in RELOCK
  good : Nat := 0              -- consecutive crossings below 5 us (ACQUIRE) or qualifying (HOLDOVER)
  bad : Nat := 0               -- consecutive turns with an error above 5 us (LOCKED)
  locked1 : Bool := false      -- has locked for the first time since the last reset, wake or enable
  bound : Bool := false        -- a change of source is being followed (R62)
  dispTick : Nat := 0          -- tick of the last dispatch, and the entries it took (R73)
  dispatched : List Nat := []
  hold : List (Nat × Nat) := []   -- (entry, first tick at which it may dispatch): late commits and repeats already past (R70, R72)
  sent : Nat := 0              -- bit k: the previous turn's reference frame was sent on channel k
  sofPrev : List Nat := List.replicate 16 0xFFFFFF
  refAngles : List (Nat × Nat × Nat) := [] -- (channel, turn, angle) of the SOF of reference frames sent, newest first, 64 kept (R93)
  aonValid : Bool := false     -- the always-on values survive from before
  aonTurn : Nat := 0
  aonFreq : Nat := 0
  aonTime : Nat := 0           -- time of the last boundary Millrace reached
  assocValid : Bool := false   -- an association exists since power-on
  accept : Bool := false       -- an accepted step waits for the boundary
  assocW : Int := 0            -- A_n in nanoseconds
  modes : Nat := 0             -- bits 0 HOLDOVER, 1 RELOCK, 2 INT during this turn
  recent : List (Nat × Nat) := []  -- (entry time, die or 4) of entries dispatched, for the counts of R71
  deriving DecidableEq, Repr

/-- Maps in force or accepted (R82, R83): valid cell entries, 24 string and 24 source entries. -/
structure Maps where
  cells : List (Nat × Nat) := []
  strs : List Nat := []
  srcs : List Nat := []
  idle : List (Nat × Nat) := [] -- accepted maps: cell entries that are not valid and not 0
  deriving DecidableEq, Repr

/-- A turn that Gauge acquires: what is kept beside its half of the buffer. -/
structure GTurn where
  turn : Nat := 0
  isOpen : Bool := false
  maps : Maps := {}            -- the maps in force when it opened (R84)
  mapNew : Bool := false       -- the maps took effect at its opening
  plans : Nat := 0             -- MR_PLAN during the turn before (R85)
  angle0 : Nat := 0            -- MR_ANGLE0 during the turn before
  modes : Nat := 0             -- bits 0 HOLDOVER, 1 RELOCK, 2 INT during the turn
  keys : List (Nat × List Nat × List Nat) := [] -- frames entered: (key, data field, cells filled; 0x2000 + source)
  temps : List Nat := []       -- temperature positions written
  len : Nat := 0               -- length of the turn, MILL ticks
  prevLen : Nat := 0
  deriving DecidableEq, Repr

/-- What Gauge keeps of a cell from pass to pass (R108 to R118). -/
structure GCell where
  place : Nat := 0             -- map entry and string + 1 at the last pass; 0 while it was not valid
  soc : Nat := 0               -- state of charge, 2^-48
  va : Int := 0
  vb : Int := 0
  test : Int := 0              -- thermal estimate
  zf : Bool := false
  zfr : Int := 0
  zfi : Int := 0
  initLeft : Nat := 0
  again : Bool := false        -- initialisation is repeated, or was ordered (R111)
  cnt : List Nat := List.replicate 8 0
  raised : Nat := 0
  deriving DecidableEq, Repr

/-- What Gauge keeps of a string. -/
structure GStr where
  lastI : Int := 0             -- last mean current
  miss : Nat := 0              -- consecutive turns without current
  gone : Nat := 0              -- consecutive closed turns whose source had no entered frame (R97, R119)
  src : Nat := 0               -- 1 more than the source of those turns
  low : Nat := 0               -- consecutive turns of R119, NORIPPLE
  raised : Nat := 0            -- bits 9 and 10: checks 9 and 10
  cfg : Nat := 0               -- capacity and profile of the last pass
  deriving DecidableEq, Repr

/-- Gauge (R81 to R128), beside its registers and its SRAM. -/
structure Gauge where
  turns : List GTurn := [{}, {}]  -- by half
  pend : Option Maps := none   -- accepted maps that wait for the boundary (R84)
  geomNew : Bool := false      -- the geometry was copied at the last boundary
  cells : List (Nat × GCell) := []
  strs : List (Nat × GStr) := []
  sens : List (Nat × (Int × Nat)) := []  -- sensor table: last reading and its age (R112)
  lastPassed : Option Nat := none
  passed : List (List Nat × List Nat) := [([], []), ([], [])] -- valid cells and strings of the results in each half (R125, R369)
  all : Bool := false          -- all cells are to be initialised
  wait : Option Nat := none    -- closed turn whose pass may start
  running : Option (Nat × Nat × Nat × Nat) := none -- pass under way: (half, valid cells, cells with impedance, events)
  fstep : Bool := false        -- length step of the turn passed
  silent : List Nat := []      -- boards silent (128 * channel + node)
  silentUp : List Nat := []    -- boards with check 8 raised (R119)
  deriving DecidableEq, Repr

/-- A valid entry of the event table (R68): its four words. -/
structure EvtEntry where
  w0 : Nat := 0
  w1 : Nat := 0
  w2 : Nat := 0
  w3 : Nat := 0
  jseq : Nat := 0              -- journal sequence of its acceptance
  deriving DecidableEq, Repr

/-- A CAN frame, classic, FD or XL (R221), with its stamps where it was received. -/
structure CanFrame where
  id : Nat := 0
  ide : Bool := false
  rtr : Bool := false
  fmt : Nat := 0               -- 0 classic; 1 FD; 2 XL
  brs : Bool := false
  esi : Bool := false
  sec : Bool := false
  sdt : Nat := 0
  vcid : Nat := 0
  af : Nat := 0
  len : Nat := 0
  dlc : Nat := 0
  data : List Nat := []
  sof : Nat := 0               -- SOFSTAMP
  eof : Nat := 0               -- EOFSTAMP
  deriving DecidableEq, Repr

/-- A transmit element in a level (R221, R222). -/
structure CanElem where
  frame : CanFrame := {}
  hold : Bool := false
  tag : Nat := 0
  attempts : Nat := 0
  origin : Nat := 0            -- 0 software; 1 Weir; 2 object engine; 3 a sleep frame of Weir (R252)
  proxy : Bool := false        -- moved from the partner (R300)
  jseq : Nat := 0              -- journal sequence of its acceptance; 0 for none
  gen : Nat := 0               -- routing generation under which Weir forwarded it
  srcCh : Nat := 0             -- channel on which Weir received it
  revoke : Bool := false       -- that entry had REVOKE
  route : Nat := 0             -- routing entry that forwarded it (origin 1); TYPE (origin 3)
  slot : Nat := 0              -- its element of the transmit pool (R220)
  onBus : Bool := false        -- under transmission
  deriving DecidableEq, Repr

/-- What a CAN controller offers or sends. -/
inductive TxSlot where
  | reference
  | presence
  | level (l : Nat)
  deriving DecidableEq, Repr

/-- A CAN channel, beside its registers and message RAM. -/
structure CanCh where
  levels : List (List CanElem) := List.replicate 8 []
  refFrame : Option CanFrame := none   -- the reference frame element (R226)
  presence : Bool := false             -- a presence frame waits (R296)
  tx : Option TxSlot := none           -- the frame under transmission
  stage : List CanFrame := []          -- receive staging elements (R227)
  ringLost : List Bool := [false, false, false, false]
  ringNext : List (Option Nat) := [none, none, none, none] -- write index beyond the one software sees (R305)
  doneWait : List (List Nat) := []     -- completion records that wait for room (R225)
  pendCmd : Option (Nat × Nat × Nat × Nat × Nat) := none  -- (op, level, dest, dlevel, stamp) of a cancel or move behind a head under transmission
  leaving : Bool := false              -- the claim was lost during a transmission (R214)
  seen : List (Nat × CanFrame) := []   -- (time, frame) observed completing, kept 8 ms (R299)
  deriving DecidableEq, Repr

/-- A routing entry (R239): its four words. -/
structure RouteEntry where
  w0 : Nat := 0
  w1 : Nat := 0
  w2 : Nat := 0
  w3 : Nat := 0
  deriving DecidableEq, Repr

/-- A stream entry (R246): its 32 bytes as eight words, and what runs beside them. -/
structure Stream where
  words : List Nat := List.replicate 8 0
  seq : Nat := 0                       -- egress: sequence_num of the next PDU
  gathered : List (Nat × List Nat × Option (Nat × CanFrame)) := [] -- egress: (generation, ACF message, channel and frame where its entry revokes), oldest first
  last : Option Nat := none            -- ingress: sequence_num of the last PDU
  deriving DecidableEq, Repr

/-- A segment (R247, R251), beside its registers. -/
structure Seg where
  phase : Nat := 0                     -- 0 no round; 1 intent queued; 2 vote window; 3 commit queued; 4 commit window; 5 retry
  unsent : Nat := 0                    -- bit k: the round's frame on channel k is not yet sent
  agreed : List Nat := []              -- nodes that agreed, and that held, in this round (last vote stands)
  heldBy : List Nat := []
  deriving DecidableEq, Repr

/-- An entry of the MAC table (R268, R269). -/
structure MacEntry where
  mac : Nat
  vid : Nat
  mask : Nat
  static : Bool
  world : Nat
  last : Nat                   -- time of the last refresh of a learned entry
  deriving DecidableEq, Repr

/-- A frame in an egress queue. -/
structure EthFrame where
  id : Nat                     -- one number for each frame stored, whatever its number of queues (R278)
  bytes : List Nat             -- without FCS and without tag
  vid : Nat                    -- 0 for a frame sent as it stands
  pcp : Nat
  gen : Nat                    -- generation of the lookup (R273)
  inPort : Nat
  revoke : Bool                -- decided by a revoking rule (R274)
  desc : Option (Nat × Nat)    -- host queue and descriptor to which the egress stamps return (R275)
  len : Nat                    -- length as it stands in the buffer, from destination address to FCS (R278)
  untag : Nat := 0             -- bit p: the decision sends it untagged on port p (R267, R273)
  host : List Nat := []        -- host queues that P8 gives it to (R271, R275)
  stamp : Nat := 0             -- ingress phase-time and PTP stamps (R275, R285)
  ptp : Nat := 0
  deriving DecidableEq, Repr

/-- A Confluence port, beside its registers. -/
structure Port where
  queues : List (List EthFrame) := List.replicate 8 []
  bc : Nat := 0                -- flood frames in this 1 ms window (R282)
  uu : Nat := 0
  mc : Nat := 0
  deficit : Nat := 0           -- what the policer's bucket lacks, in 1/800 byte (R281)
  polAt : Nat := 0             -- time of its last filling
  seen : Nat := 0              -- frames seen by the sampler; SSEQ is its low 32 bits (R283)
  deriving DecidableEq, Repr

/-- Confluence (R261 to R286), beside its registers. -/
structure Conf where
  mac : List MacEntry := []
  vlan : NMap Nat := [(1, 2 ^ 31 + 0x1FF * 1024 + 0x1FF)]
  acl : NMap (List Nat) := []
  nextId : Nat := 1
  ptp : Nat := 0               -- PTP clock in ns at `ptpAt`
  ptpAt : Nat := 0
  ptpKept : Nat := 0           -- time of the last write of CF_PTP_ADJ or CF_PTP_CTL.SYNC
  hqNext : NMap (Option Nat) := [] -- head beyond the one software sees (R305)
  deriving DecidableEq, Repr

/-- Where the answer to an object request goes. -/
inductive OdRoute where
  | none                       -- nowhere: applied from the journal or for the partner
  | dop (p : Nat) (head : List Nat) -- port 0 to 7, 8 the service port, 9 the partner's service port; the request's frame
                               -- up to its DOP header
  | sdo (k : Nat) (toggle : Option Bool) -- control channel; the toggle of the last segment of a segmented download
  | eddy (e addr len : Nat)    -- endpoint, buffer and its size
  deriving DecidableEq, Repr

/-- A request to the object engine (R408), as every path brings it. -/
structure OdReq where
  route : OdRoute := .none
  cls : Nat := 3               -- class of R7: 0 P, 1 E, 2 S, 3 B, 4 I; 5 no rights (R8)
  path : Nat := 0x40           -- control channel k; 0x20 + Eddy endpoint; 0x40 partner; 0x100 + DOP source address
  world : Nat := 0             -- world of the endpoint, for class I (R419)
  index : Nat := 0
  sub : Nat := 0
  write : Bool := false
  value : List Nat := []
  offset : Nat := 0
  wsn : Nat := 0
  alone : Bool := false        -- carried out by this unit itself, without ordering (R416)
  deriving DecidableEq, Repr

/-- Accepted work (R310), by what carries it out. -/
inductive Work where
  | canPush (k level : Nat) (e : CanElem)
  | canMove (k op level dest dlevel : Nat) (elems : List CanElem)
  | evt (idx : Nat) (e : EvtEntry) (cancel : Bool)
  | delta (q idx : Nat) (desc : List Nat)
  | obj (r : OdReq)
  deriving DecidableEq, Repr

/-- A journal entry that is open, or that waits for its acceptance (R309, R310). -/
structure JEntry where
  jseq : Nat
  kind : Nat
  ref : Nat
  size : Nat
  work : Work
  bseq : Nat                   -- SEQ of the record that carried it
  deriving DecidableEq, Repr

/-- What a heartbeat frame carries (R295, R314). -/
structure Heartbeat where
  state : Nat := 0
  seated : Bool := false
  yield : Bool := false
  swap : Bool := false
  fencing : Bool := false
  test : Bool := false
  confgen : Nat := 0
  confsum : Nat := 0
  health : Nat := 0
  turn : Nat := 0
  aseq : Nat := 0
  epoch : Nat := 0
  mirfmt : Nat := 0
  seq : Nat := 0               -- last SEQ sent
  deriving DecidableEq, Repr

/-- What a turn boundary record carries (R302). -/
structure TurnRec where
  turn : Nat := 0
  period : Nat := 0            -- MR_PERIOD
  freq : Nat := 0
  rate : Nat := 0
  slew : Int := 0
  state : Nat := 0
  intref : Bool := false
  assocValid : Bool := false
  assocW : Int := 0
  deriving DecidableEq, Repr

/-- The hardware state that resynchronisation copies (R321). -/
structure HwState where
  turn : Nat := 0
  evt : NMap EvtEntry := []
  levels : List (Nat × List (List CanElem)) := []
  segs : List (Nat × Nat) := []        -- segment and its state
  maps : Maps := {}
  gauge : Gauge := {}
  gaugeMem : List (Nat × List Nat) := [] -- parameter banks and geometry: address and bytes
  jopen : List JEntry := []
  done : List (Nat × Nat × Nat) := []  -- outcomes stored with them (R423)
  jseq : Nat := 1
  deriving DecidableEq, Repr

/-- The records that the active unit sends with a SEQ (R302, R307, R310, R321), by content. -/
inductive BraidRec where
  | can (k : Nat) (f : CanFrame)                        -- a frame handed to Weir or to the object engine
  | edge (g chan : Nat) (bytes : List Nat)              -- an edge record of R198
  | eth (hq p : Nat) (bytes : List Nat) (stamp ptp : Nat) -- a frame for a host queue, or (hq 16) the object engine
  | request (r : OdReq)                                 -- an object request
  | stream (g : Nat) (bytes : List Nat)                 -- a stream record of R147
  | turnAvg (g n : Nat) (bytes : List Nat)              -- a turn record of R148
  | dieEvent (evt : Nat) (data : List Nat)              -- an event of R185
  | segment (n st round result : Nat)
  | turn (r : TurnRec)
  | close (turn frames : Nat)
  | journal (e : JEntry)
  | decision (kind crc : Nat)
  | config (index sub : Nat) (value : List Nat)         -- step 2 of R321
  | hardware (h : HwState)                              -- step 3 of R321
  | region (w : Nat) (bytes : List Nat)                 -- step 4 of R321
  | update (status result mseq : Nat)                   -- the partner's update state record (R461)
  | sent (k jseq : Nat) (bytes : List Nat)              -- a proxy entry has left (R300): its completion record
  | proxyCancel (k op level : Nat)                      -- OP 1 or OP 2 for the proxy entries of a level (R300)
  deriving DecidableEq, Repr

/-- TYPE of a record (R314). -/
def BraidRec.type : BraidRec → Nat
  | .turn _ | .close _ _ => 0x07
  | .journal _ => 0x03
  | .sent _ _ _ => 0x06
  | .decision _ _ => 0x05
  | .config _ _ _ | .hardware _ | .region _ _ | .update _ _ _ => 0x09
  | _ => 0x02

/-- An input that software sees once its record is acknowledged (R305). -/
inductive Release where
  | canRing (k r wr : Nat) (world : Nat)
  | sdo (k : Nat) (data : List Nat)
  | edgeRing (g wr chan : Nat)
  | hostQueue (q head : Nat)
  | gaugeClose (turn : Nat)
  | request (r : OdReq)
  | dop (p : Nat) (bytes : List Nat)
  deriving DecidableEq, Repr

/-- The state of a pair (R289 to R321) and of the journal, beside the Braid registers. -/
structure Braid where
  latch : Bool := false        -- the claim latch
  window : Bool := false       -- the confirm window is open
  cause : Nat := 0             -- why the latch was set (BR_TKO_CAUSE)
  relAt : Option Nat := some 0 -- since when ACT_CLAIM_IN reads released
  bothAt : Option Nat := some 0 -- since when both heartbeat paths are present
  kept : Bool := false         -- BR_KEEP within the last 2 ms
  p9Miss : Nat := 0            -- consecutive misses
  hbMiss : Nat := 0
  presenceAt : Option Nat := none -- time of the last presence frame received (R296)
  swapWait : Bool := false     -- a planned swap waits for the boundary
  syncDue : Bool := false      -- the snapshot for a partner in SYNC waits for the boundary (R321)
  pulse : Option Nat := none   -- time of the last pulse on HBEAT_OUT (R294)
  yieldSeen : Nat := 0         -- the partner's heartbeat carried YIELD: 2 yield; 3 swap
  agree : Nat := 0             -- turns the partner has stood by without divergence
  jseq : Nat := 1              -- next journal sequence
  jopen : List JEntry := []    -- open entries, oldest first
  waiting : List JEntry := []  -- entries whose acceptance waits for an acknowledgement
  held : List (Nat × Nat × Work) := [] -- (kind, ref, work) not yet journaled: no room, or a standby's own request
  ring : List (Nat × Nat × Nat) := []  -- (jseq, size, MRAM offset) of the entries in the ring, oldest first
  wrOff : Nat := 0x2000        -- MRAM offset of the next entry
  ctlSeq : Nat := 0            -- sequence of the last control block
  out : List (Nat × List Nat) := [] -- frames of the mirror class that wait for P9: (TYPE, frame without FCS), newest first (R280)
  sent : List (Nat × BraidRec) := [] -- retransmit buffer, by SEQ, newest first
  entering : Bool := false     -- a change to single mode waits for its claim (R289)
  gave : Nat := 0              -- the unit has released its claim: 1; in a planned swap: 2 (R295)
  mark : Option Nat := none    -- MRAM offset of the last epoch mark (R317)
  clash : Option (Nat × Nat × Nat) := none -- own request and the active unit's entry differ: kind and both CRCs (R310)
  sealed : List (Bool × BraidRec) := [] -- records that a unit in SYNC buffers, oldest first: true where its software does not act yet (R321)
  resent : List (Nat × BraidRec) := [] -- what the last replay sent again, in order
  rxSeq : Nat := 0             -- last SEQ received without a gap
  gap : Bool := false          -- a replay is awaited
  acked : Nat := 0             -- last SEQ the standby has acknowledged
  releases : List (Nat × Release) := [] -- inputs that wait for their acknowledgement
  arrived : List JEntry := []  -- a standby's entries from the active unit that its own request has not met yet
  mine : List (Nat × Nat × Nat) := []  -- own decisions: (kind, CRC, turn)
  theirs : List (Nat × Nat × Nat) := [] -- the active unit's decisions
  own : List (Nat × List Nat × Nat) := [] -- own copies of inputs, for comparison: (kind, content, stamp)
  regions : Nat := 0           -- bit w: world w's state region is copied
  synced : Nat := 0            -- parts of a resynchronisation done (R321): 1 configuration, 2 hardware state
  testTurns : List Nat := List.replicate 16 0 -- turns of the last runs of tests 0 to 15
  done : List (Nat × Nat × Nat) := [] -- (WSN, outcome, JSEQ) of journaled object writes (R313, R422)
  restored : Bool := false     -- the open entries have been restored, or came with a resynchronisation
  deriving DecidableEq, Repr

/-- A load channel (R137 to R173), beside its registers. -/
structure Chan where
  cmdOn : Bool := false        -- commanded state
  onAct : Nat := 1             -- ACTION of the last applied on-command
  onDuty : Nat := 0            -- its duty
  cond : Bool := false         -- the switch conducts (unless reverse-blocked)
  ramping : Bool := false      -- a slew ramp regulates the output
  duty : Nat := 0              -- duty of the present PWM period
  nextDuty : Option Nat := none
  inrPend : Bool := false      -- the window opens at the first on edge
  pauseMs : Nat := 0           -- dip pauses of the present window, ms
  retryDue : Bool := false     -- the interval has run out and a veto holds
  buckets : List Nat := []     -- clamp energy per 100 ms bucket, present bucket first
  lockSum : Bool := false      -- SPLOCK set because the sum reached the budget
  rev : Bool := false          -- reverse blocking acts now
  olCount : Nat := 0           -- consecutive ms values below SL_OLTHR
  deriving DecidableEq, Repr

/-- One EEPROM copy of the fail-safe tables (R184, R205). -/
structure EeCopy where
  seq : Nat := 0
  chan : List Nat := List.replicate 8 0
  io : Nat := 0
  whole : Bool := true
  deriving DecidableEq, Repr

/-- An edge waiting in a die FIFO or fetched by a poll (R197, R198). -/
structure Edge where
  stamp : Nat
  chan : Nat
  level : Bool
  lost : Bool
  seq : Nat
  deriving DecidableEq, Repr

/-- A Lalos die and its Ferry link, beside their registers. -/
structure Die where
  up : Bool := true            -- the feed is above 8 V
  linkDown : Bool := false     -- three retrains have failed
  missed : Nat := 0            -- consecutive unanswered polls
  retrains : Nat := 0          -- consecutive failed retrains
  crcRun : Nat := 0            -- consecutive packet failures
  pairFlag : Bool := false
  pollClaim : Bool := false    -- claim at the last status poll
  lastServe : Nat := 0         -- 0 none; 1 the value 0x005AA5; 2 the value 0x00A55A
  serves : Nat := 0            -- serves counted since fail-safe entry
  overMs : Nat := 0            -- consecutive ms over budget
  seq : Nat := 0               -- millisecond record number
  msVals : List Int := List.replicate 8 0
  msFine : Nat := 0
  prevFine : Nat := 0          -- SL_CFG.FINE during the turn just ended
  fovr : Nat := 0              -- fine range saturated during this turn
  prevFovr : Nat := 0
  eeA : EeCopy := {}
  eeB : EeCopy := {}
  staged : Option EeCopy := none  -- the table being written
  lockLatched : Bool := false  -- Floodgate arming lock latched (R444)
  fifo : List Edge := []
  polled : List Edge := []
  edgeSeq : Nat := 0
  edgeNext : Option Nat := none   -- write index of the edge ring beyond the one software sees (R305)
  upAt : Nat := 0              -- when the feed passed 8 V (R434)
  news : List (Nat × Bool × Nat × Bool) := [] -- edges that no status poll has carried yet: channel, level, stamp, not written (R197)
  low : Bool := false          -- the feed is below the dip level (R168)
  barred : Bool := false       -- the feed is there, and the image has not started for the die's trim (R449)
  deriving DecidableEq, Repr

/-- A report that die `die` has not given yet: when it arose, its code and DATA, the world it interrupts (R185, R343). -/
structure DieReport where
  die : Nat
  stamp : Nat
  evt : Nat
  data : List Nat
  world : World
  deriving DecidableEq, Repr

/-- A posted write to a die that the Ferry master takes for unacknowledged; `bad` where the die has found no register at its offset
(R345). -/
structure PostedWrite where
  die : Nat
  offset : Nat
  who : Initiator
  bad : Bool := false
  deriving DecidableEq, Repr

/-- The Ferry links: the reports that wait for a poll, oldest first, the posted writes, and the dies that have reset since their last
answer (R343, R345). -/
structure Ferry where
  reports : List DieReport := []
  writes : List PostedWrite := []
  rebooted : List Nat := []
  deriving DecidableEq, Repr

/-- What an action changes of a load channel: the channel, the values of its fields, and BUDGET of its die. -/
structure ChanImage where
  chan : Chan
  vals : List Nat
  budget : Nat
  deriving DecidableEq, Repr

/-- Floodgate, beside its registers: the MILL tick of the latest firing, the entries fired in it, and the channels acted on in it, each
as it stood before and after (R177). -/
structure Gate where
  tick : Nat := 0
  hits : List Nat := []
  acts : List (Nat × ChanImage × ChanImage) := []
  deriving DecidableEq, Repr

/-- A field channel (R195 to R202), beside its registers. -/
structure Io where
  comp : Bool := false         -- comparator level
  pend : Bool := false         -- a debounce run is under way
  start : Nat := 0             -- stamp of its start
  cmdOn : Bool := false
  lost : Bool := false         -- an edge found the die FIFO full since the last one queued
  ringLost : Bool := false     -- an edge found the ring full since the last record
  hot : Bool := false          -- the junction is above 160 °C, or has not fallen below 140 °C since
  hold : Bool := false         -- the readback comparison is held
  deriving DecidableEq, Repr

/-- An Eddy channel (R348, R349): its FIFO of up to four 64-bit words and whether its timer runs. -/
structure EddyCh where
  words : List Nat := []
  timer : Bool := false
  deriving DecidableEq, Repr

/-- A lock register (R351): its owner's master number, and ORPHAN. -/
structure LockReg where
  owner : Option Nat := none
  orphan : Bool := false
  deriving DecidableEq, Repr

/-- A Delta operation in flight (R366 to R372). -/
structure DeltaOp where
  desc : List Nat := []        -- the descriptor's 64 bytes
  idx : Nat := 0               -- its ring index
  jseq : Nat := 0              -- journal sequence of its acceptance
  unit : Nat := 0              -- engine: 0 to 3 movers; 4, 5 cipher; 6 hash and signature; 7 export
  started : Bool := false      -- its engine has begun it
  fate : Option Nat := none    -- status settled at dispatch or at its start
  key : List Nat := []         -- key delivered by Headwater, as two shares (R395)
  mask : List Nat := []
  slot : Option Nat := none    -- its slot, while the operation holds the key
  stop : Option Nat := none    -- status of an abort that waits for the next block boundary (R400, R402, R404)
  turn : Nat := 0              -- export: turn to take, and DONE as first read (R369)
  done0 : Nat := 0
  deriving DecidableEq, Repr

/-- A Delta queue (R362 to R374), beside its registers. -/
structure DeltaQ where
  ring : List (Nat × List Nat × Nat) := [] -- pending descriptors not in flight, in order: index, bytes as accepted, JSEQ
  fly : Option DeltaOp := none
  offer : Option (Nat × Nat) := none       -- a doorbell under way: new tail, number of descriptors
  got : List (Nat × List Nat × Nat) := []  -- those of them that the journal holds
  credit : Int := 0
  deriving DecidableEq, Repr

/-- The engines of Delta (R361, R366). -/
structure Delta where
  stage : List (List Nat) := List.replicate 8 [] -- queues whose operation each engine holds, the executing one first
  last : List Nat := [63, 63, 63, 63]            -- queue last served, by class
  deriving DecidableEq, Repr

/-- A slot of the key store (R394, R398): the key as two shares whose XOR it is. -/
structure KeySlot where
  a : List Nat := []
  b : List Nat := []
  gen : Nat := 0
  lift : Nat := 0              -- how far restarts alone have advanced the generation (R392)
  attr : Nat := 0
  deriving DecidableEq, Repr

/-- Headwater (R379 to R406), beside its registers. -/
structure Headwater where
  slots : NMap KeySlot := []
  last : Nat := 3                          -- hart whose call was last served (R385)
  callSeq : List Nat := [0, 0, 0, 0]       -- CALLSEQ of each hart
  calling : List (Option Nat) := [none, none, none, none] -- the outstanding call of each hart
  unsent : NMap (List Nat) := []           -- the message of a hart's call that waits for room on its channel (R348, R384)
  challenge : Option (Nat × List Nat) := none -- time and bytes of the latest challenge (R389)
  quoteWait : Option (List Nat) := none    -- nonce of a quote being made (R406)
  quote : List Nat := []
  measure : List (List Nat) := List.replicate 6 (List.replicate 48 0) -- measurement registers (R390)
  fuses : Nat := 0                         -- fuses programmed in the zeroise row (R402)
  latched : List (Nat × Nat × Nat) := []   -- raised in Standby or Sleep: source, class, stamp (R403)
  debugOk : Bool := false                  -- the image declares debug permitted (R388)
  token : Nat := 0                         -- enables that a token has set (R389)
  halted : Bool := false                   -- halted by debug: it answers no call (R442)
  deriving DecidableEq, Repr

/-- A hart of the application cluster, as far as SCRET and debug act on it (R386). -/
structure Hart where
  x : List Nat := List.replicate 32 0
  f : List Nat := List.replicate 32 0
  fflags : Nat := 0
  frm : Nat := 0
  pc : Nat := 0
  mode : Nat := 3              -- 0 U; 1 S; 3 M
  virt : Bool := false
  mie : Bool := false          -- mstatus fields
  mpie : Bool := false
  mpp : Nat := 0
  mpv : Bool := false
  mprv : Bool := false
  mepc : Nat := 0
  mcause : Nat := 0
  mtval : Nat := 0
  mtvec : Nat := 0
  halted : Bool := false       -- halted by debug (R46)
  deriving DecidableEq, Repr

/-- A microSD card in the slot (R47, R449): its manifest file, and its other files under DOLOP by 12-byte name. -/
structure Card where
  fits : Bool := true          -- it is one that R47 takes
  mft : Option (List Nat) := none
  files : List (List Nat × List Nat) := []
  deriving DecidableEq, Repr

/-- Field update (R449 to R464), beside its registers. -/
structure Updater where
  card : Option Card := none
  copying : Option (List Nat) := none  -- manifest of the copy under way
  confirmAt : Option Nat := none       -- deadline of R458
  baseSet : Bool := true               -- the left bank holds the base image set of R19
  factoryRec : Bool := true            -- record copy A stands as the factory wrote it
  trimOut : List Nat := []             -- dies whose trim the Lalos image in force does not permit (R449)
  deriving DecidableEq, Repr

/-- What the entry into Standby or Sleep copies into the always-on domain (R438 step 4); the turn number and frequency
stand in `Millrace`. -/
structure Held where
  confsum : Nat := 0
  confgen : Nat := 0
  epoch : Nat := 0
  measlog : List Nat := []     -- HW_MEASLOG, twelve words
  deriving DecidableEq, Repr

/-- Power, resets and the pins that the always-on domain watches (R433 to R448, R26, R41, R45). -/
structure Power where
  t0 : Nat := 0                -- t0 of the present start (R476)
  target : Nat := 0            -- state that an entry under way leads to: 3, 4; 0 none
  world : Nat := 0             -- world with which it was requested
  atTurn : Option (Nat × Nat) := none      -- pair mode: accepted request and its world, applied at the next boundary (R437)
  waitUse : Option (Nat × Nat × Nat) := none -- request that waits for HW_USE: request, world, deadline (R437)
  held : Option Held := none
  events : List (Nat × Nat × Nat) := []    -- events held while Molgar is off, oldest first: stamp, event of block 0x01, level
  eventsLost : Nat := 0
  due : Nat := 0               -- cause of a full reset that has been ordered; 0 none
  woken : Bool := false        -- a wake source has come in Standby or Sleep
  wokenSegs : List Nat := []   -- the segments that wake sources have named there (R250)
  off : Bool := false          -- no logic supply
  strap : Nat := 0             -- BRAID_ID as the pin reads (R41)
  key : Bool := false          -- SERVICE_KEY (R45)
  logicIn : Bool := true       -- LOGIC_IN and LOGIC_ALT present (R26)
  logicAlt : Bool := false
  deriving DecidableEq, Repr

/-- A segmented SDO transfer on a control channel (R412). -/
structure SdoXfer where
  download : Bool
  index : Nat
  sub : Nat
  data : List Nat              -- download: bytes received; upload: bytes still to send
  size : Option Nat            -- download: size indicated
  toggle : Bool
  at' : Nat                    -- time of the last segment
  wsn : Nat                    -- download: WSN given before it (R421)
  deriving DecidableEq, Repr

/-- The staging buffer of WRITE_PART messages of a source (R414): parts by offset. -/
structure Staging where
  index : Nat
  sub : Nat
  parts : List (Nat × List Nat)
  at' : Nat                    -- time of the last part
  deriving DecidableEq, Repr

/-- What the object engine keeps for a path: a control node, a DOP source address, an Eddy endpoint. -/
structure OdPath where
  readPos : Nat := 0                   -- 0x2E00.02
  snap : List Nat := []                -- snapshot buffer (R425); empty: zero
  wsn : Option (Nat × Nat) := none     -- WSN for the next download, and the time it was given (R421)
  xfer : Option SdoXfer := none
  stage : Option Staging := none
  deriving DecidableEq, Repr

/-- A request that the object engine answers later. -/
structure OdWait where
  req : OdReq
  kind : Nat                   -- what it waits for: 0 the outcome of its WSN; 1 a fail-safe commit; 2 a CAN queue command;
                               -- 3 a function reset; 4 a quote; 5 a power request that waits for HW_USE
  jseq : Nat                   -- journal sequence of its acceptance; 0 for none
  deriving DecidableEq, Repr

/-- The object engine (R407 to R426), beside its registers. -/
structure Od where
  paths : NMap OdPath := []
  last : NMap Nat := []                -- last SEQ accepted, by CLIENT, plus one; 0 none (R420)
  addr : NMap Nat := []                -- addresses written: 3 p + 0 address, 1 mask, 2 gateway, plus one (R430)
  soundings : Nat := 0
  waits : List OdWait := []
  latest : Nat := 0                    -- latest WSN accepted from any client (R426)
  sdoOut : NMap (List CanFrame) := []  -- SDO responses that wait for a pool element (R233)
  idxEvt : Nat := 0                    -- 0x2110.01
  idxCell : Nat := 0                   -- 0x2704.01
  selWe : Nat := 0                     -- 0x2511.01
  selCf : Nat := 0                     -- 0x2611.01
  service : List (List Nat) := []      -- frames that have left on the service port, newest first, 64 kept
  memError : Bool := false             -- an uncorrectable error has met an access of the engine (R424)
  partner : Nat × Nat × Nat := (0, 0, 0) -- 0x2B10: status, result, manifest sequence of the partner's state record (R461)
  deriving DecidableEq, Repr

/-- A request on the test access port or the debug transport behind it (R46, R442). -/
inductive TapOp where
  | bypass
  | idcode
  | haltCore (h : Nat)
  | resumeCore (h : Nat)
  | stepCore (h : Nat)
  | readCore (h i : Nat)
  | writeCore (h i v : Nat)
  | haltSafety (p : Nat)
  | haltHead
  | resumeHead
  | busRead (w : World) (addr : Nat)
  | busWrite (w : World) (addr value : Nat)
  | trace (w : World)
  | other
  deriving DecidableEq, Repr

/-- What is fixed at manufacture (R15 to R18): the module's own address block and its identity. -/
structure Factory where
  mac : Nat := 0
  serial : Nat := 0
  revision : Nat := 0
  hwVersion : List Nat := [0x30, 0x2E, 0x30, 0x20, 0x20, 0x20, 0x20, 0x20]
  romOk : Bool := true         -- the digest of the boot ROM is the one fixed in Headwater's private ROM (R336)
  deriving DecidableEq, Repr

/-- The base of the module's block of 16 MAC addresses: bits [3:0] are zero (R16). -/
def Factory.base (f : Factory) : Nat := f.mac % 2 ^ 48 / 16 * 16

end Sys2Proof.Machine
end

