-- ==== Sys2Proof/Syntax.lean ====
section
/-!
DEFINITION. The commands of the block: one constructor for each row of the opcode table, in its order, each with the
rule that gives it its meaning. `who` is the sender; other operands say what the outside world delivers with the event
(an index, a frame, a measured value). What each operand stands for is said at the command's meaning.
-/
namespace Sys2Proof
open Sys2Proof.Machine

/-- A command. -/
inductive Instr where
  | registerWrite (who : Initiator) (addr value : Nat) -- R477
  | readClear (who : Initiator) (addr : Nat) (arrived : List Nat) -- R4
  | phaseTimeRead -- R79
  | millraceEnable -- R58
  | millraceDisable -- R78
  | zeroCrossing (dt freq oks : Nat) (rev settled : Bool) -- R56
  | senseLost (oks : Nat) (range : Bool) -- R59
  | turnBoundary -- R73
  | associationAccept -- R76
  | referenceFrameWithdraw -- R65
  | eventCommit (who : Initiator) (index : Nat) -- R70
  | eventCancel (who : Initiator) (index : Nat) -- R70
  | eventDispatch -- R71
  | gaugeTurnClose -- R94
  | mapCommit -- R84
  | gaugePassStart -- R123
  | gaugePassDone -- R128
  | geometryCommit -- R113
  | reinitCell (c : Nat) -- R111
  | reinitAll -- R111
  | channelOff (who : Initiator) (k : Nat) -- R137
  | channelOn (who : Initiator) (k : Nat) -- R137
  | channelOnHard (who : Initiator) (k : Nat) -- R139
  | channelPwm (who : Initiator) (k duty : Nat) -- R137
  | rampComplete (k : Nat) -- R140
  | inrushWindowEnd (k : Nat) -- R141
  | pwmEdge (k : Nat) (rise : Bool) -- R142
  | millisecondMean (g : Nat) (coarse fine onPhase : List Int) (feed : Int) (tj : List Int) -- R147
  | streamRecordDeposit (g : Nat) -- R147
  | turnRecordDeposit (g count : Nat) (sums : List Int) -- R148
  | openLoadOff (k mv : Nat) -- R149
  | extvChange (k mv : Nat) -- R149
  | openLoadOn (k : Nat) -- R150
  | reverseBlock (k : Nat) -- R151
  | reverseResume (k : Nat) -- R151
  | sheddingRoundStart (g : Nat) -- R154
  | shedStep (g : Nat) -- R154
  | currentLimitEngage (k : Nat) (on : Bool) -- R479
  | shortTrip (k : Nat) -- R160
  | limitTrip (k : Nat) -- R161
  | thermalShutdown (k : Nat) (tj : Int) -- R162
  | thermalLatchRelease (k : Nat) (tj : Int) -- R162
  | thermalLatchClear (who : Initiator) (k : Nat) -- R162
  | retryAttempt (k : Nat) -- R164
  | retryCountReset (k : Nat) -- R165
  | protectionClear (who : Initiator) (k : Nat) -- R166
  | spillwayUnlock (who : Initiator) (k : Nat) -- R173
  | clampPulseEnd (k energy : Nat) -- R173
  | spillwayBucket (g : Nat) -- R171
  | feedUndervoltage (g : Nat) -- R167
  | undervoltageRestart (g : Nat) -- R167
  | feedDip (g : Nat) (below : Bool) -- R168
  | dieReset (g : Nat) -- R167
  | dieStart (g : Nat) -- R182
  | floodgateSoftwareTrigger (who : Initiator) (mask : Nat) -- R174
  | floodgateOffAndLatch (k : Nat) -- R178
  | watchdogServe (who : Initiator) (g value : Nat) -- R181
  | watchdogExpire (g : Nat) -- R183
  | failsafeResume (who : Initiator) (g : Nat) -- R183
  | failsafeCommit (who : Initiator) (g : Nat) -- R184
  | failsafeCommitDone (g : Nat) (okA okB : Bool) -- R184
  | fieldInputChange (k : Nat) (comp : Bool) -- R195
  | debounceAccept (k : Nat) -- R195
  | edgeRecordWrite (g : Nat) -- R197
  | fieldOutputOff (who : Initiator) (k : Nat) -- R201
  | fieldOutputOn (who : Initiator) (k : Nat) -- R201
  | readbackHoldEnd (k : Nat) -- R202
  | fieldOutputOvertemp (k : Nat) -- R200
  | fieldOutputOtpRecover (k : Nat) -- R200
  | canEnable (who : Initiator) (k : Nat) -- R213
  | canDisable (who : Initiator) (k : Nat) -- R213
  | canIntegrationDone (k : Nat) -- R213
  | canTxPush (who : Initiator) (k l : Nat) -- R222
  | canFrameOffer (k : Nat) -- R223
  | canArbitrationLost (k : Nat) -- R223
  | canFrameSent (k sof delay : Nat) -- R224
  | canTxError (k code : Nat) (dataPhase exempt : Bool) -- R230
  | canRxError (k code : Nat) (dataPhase heavy xl : Bool) -- R230
  | canProtocolException (k : Nat) -- R211
  | canFrameReceived (k : Nat) (f : CanFrame) -- R227
  | canRecover (who : Initiator) (k : Nat) -- R231
  | canRecoveryDone (k : Nat) -- R231
  | canRelease (who : Initiator) (k l : Nat) -- R223
  | canCancelHead (who : Initiator) (k l : Nat) -- R225
  | canCancelLevel (who : Initiator) (k l : Nat) -- R225
  | canMoveChannel (who : Initiator) (k l dest dlevel : Nat) -- R225
  | canMovePartner (who : Initiator) (k l dlevel : Nat) -- R300
  | canCompletionDeferred (k : Nat) -- R225
  | frameRoute -- R238
  | routeEntryCommit (who : Initiator) (table index : Nat) -- R241
  | routeEntryClear (who : Initiator) (table index : Nat) -- R241
  | ethCanIngress (pdu : List Nat) -- R245
  | bundleTimeout (n : Nat) -- R244
  | sleepRequest (who : Initiator) (n : Nat) -- R251
  | intentSendTimeout (n : Nat) -- R251
  | voteWindowEnd (n : Nat) -- R251
  | commitWindowEnd (n : Nat) -- R251
  | commitAbort (n src : Nat) -- R255
  | sleepRetry (n : Nat) -- R251
  | segmentWakeRequest (n : Nat) -- R250
  | segmentAwake (n : Nat) -- R250
  | wakeUpPattern (k : Nat) -- R248
  | wakeLinePulse (n : Nat) -- R33
  | ethFrameReceive (p : Nat) (bytes : List Nat) (good : Bool) -- R266
  | ethFrameTransmit (p : Nat) -- R279
  | mirrorFrameStart (bad : Bool) -- R280
  | hostQueueDoorbell (who : Initiator) (q tail : Nat) -- R275
  | cfTableCommit (who : Initiator) (table index : Nat) -- R272
  | cfTableRemove (who : Initiator) (table index : Nat) -- R272
  | macAgeing (mac vid : Nat) -- R268
  | stormWindow (p : Nat) -- R282
  | linkDown (p : Nat) -- R284
  | linkUp (p : Nat) -- R284
  | ptpClockSet (who : Initiator) -- R286
  | ptpClockStep (who : Initiator) (step : Nat) -- R286
  | ptpSyncExpire -- R286
  | ptpClockRead -- R287
  | heartbeatSend -- R294
  | heartbeatReceive (h : Option Heartbeat) -- R295
  | heartbeatMiss (path : Nat) -- R294
  | claimConfirm (partner : Bool) -- R291
  | partnerClaimReleased -- R42
  | claimConflict -- R291
  | keepalive (who : Initiator) -- R292
  | keepaliveExpire -- R292
  | claimRelease (who : Initiator) -- R292
  | plannedSwap (who : Initiator) -- R301
  | adopt (who : Initiator) -- R320
  | resyncStart (who : Initiator) -- R321
  | stateRegionReady (who : Initiator) (w : Nat) -- R321
  | presenceFrameSend -- R296
  | braidRecordProcess (seq lag : Nat) (rec' : BraidRec) -- R302
  | braidAcknowledgement (seq : Nat) -- R310
  | replayRequest (seq : Nat) -- R315
  | journalControlWrite -- R309
  | startAlone -- R319
  | bloopChange (seated : Bool) -- R43
  | standbySelfTest (test : Nat) (fail : Bool) -- R316
  | lockstepError (p cause pc : Nat) -- R331
  | pairRestart (who : Initiator) (p : Nat) -- R331
  | pairSelftest (who : Initiator) (p : Nat) (fail : Bool) -- R332
  | debugHalt (p : Nat) -- R333
  | bothPairsFrozen -- R433
  | uncorrectableError (who : Initiator) (addr mem : Nat) -- R337
  | ferryPoll (g : Nat) -- R343
  | ferryPollResponse (g : Nat) (fails : List (Nat × Nat × Nat × Nat)) -- R343
  | diePollTimeout (g : Nat) -- R293
  | ferryCrcError (g : Nat) -- R344
  | ferryRetrain (g : Nat) (ok : Bool) -- R344
  | ferryReadTimeout -- R344
  | eddyPush (who : Initiator) (e r hi : Nat) -- R348
  | eddyDoorbell (who : Initiator) (e r : Nat) -- R348
  | eddyPop (who : Initiator) (r e : Nat) -- R348
  | eddyTimeout (e r : Nat) -- R349
  | lockAcquire (who : Initiator) (n : Nat) -- R351
  | lockRelease (who : Initiator) (n : Nat) -- R352
  | deltaDoorbell (who : Initiator) (q tail : Nat) -- R365
  | deltaDispatch (e : Nat) -- R366
  | deltaOperationComplete (q : Nat) (ecc emmc : Bool) -- R371
  | deltaShareWrite (who : Initiator) (q share : Nat) -- R367
  | functionReset (n : Nat) -- R373
  | drainTimeout (n : Nat) -- R373
  | functionResetDone (n : Nat) -- R374
  | queueEnable (who : Initiator) (q : Nat) -- R374
  | monitorCall (h part service a0 a1 a2 : Nat) (permitted : Bool) -- R384
  | monitorCallTimeout (h : Nat) -- R384
  | scret (h : Nat) -- R386
  | random -- R387
  | keyDerive -- R396
  | keyDestroy -- R400
  | keyInfo -- R387
  | keyExport -- R397
  | keyImport -- R397
  | keyPublic -- R387
  | measureRead -- R390
  | debugChallenge (cls : Nat) -- R389
  | debugToken (cls : Nat) (token : List Nat) -- R389
  | headwaterRestart (who : Initiator) -- R392
  | headwaterWatchdogExpire -- R391
  | remaskRound -- R398
  | trngHealthFail -- R399
  | tamperRaise (src : Nat) (still : Bool) -- R402
  | zeroiseClear (cls : Nat) -- R402
  | attestationNonce (nonce : List Nat) -- R406
  | attestationQuoteReady -- R406
  | lostBlock (b : Nat) -- R404
  | worldAssign (who : Initiator) (r v : Nat) -- R380
  | dopRead (p : Nat) (svc : List Nat) -- R414
  | dopWrite (p : Nat) (svc : List Nat) -- R414
  | dopWritePart (p : Nat) (svc : List Nat) -- R414
  | partStagingTimeout (ip : Nat) -- R414
  | arpRequest (p : Nat) (frame : List Nat) -- R413
  | icmpEcho (p : Nat) (frame : List Nat) -- R413
  | sdoDownloadInitiate (k : Nat) -- R412
  | sdoDownloadSegment (k : Nat) -- R412
  | sdoUploadInitiate (k : Nat) -- R412
  | sdoUploadSegment (k : Nat) -- R412
  | sdoTimeout (k : Nat) -- R412
  | odEddyRead (e : Nat) -- R418
  | odEddyWrite (e : Nat) -- R418
  | wsnExpire (path : Nat) -- R421
  | sounding (cls path value : Nat) -- R425
  | serviceKeyChange (level : Bool) -- R45
  | braidIdChange (level : Bool) -- R41
  | cardRemoved -- R47
  | powerOnReset -- R476
  | fullReset (who : Initiator) -- R433
  | startLate -- R435
  | powerRequestRun (who : Initiator) -- R437
  | powerRequestTrim (who : Initiator) -- R437
  | powerRequestStandby (who : Initiator) -- R438
  | powerRequestSleep (who : Initiator) -- R438
  | powerEntryContinue -- R438
  | sleepEntryTimeout -- R438
  | wakeFromStandby -- R433
  | wakeFromSleep -- R433
  | wakeCheck (who : Initiator) -- R439
  | wakeCheckTimeout -- R439
  | lockSet (who : Initiator) (mask : Nat) -- R443
  | logicSupplyLoss -- R440
  | updateCopy (who : Initiator) (unit : Nat) -- R454
  | copyDone (code : Nat) -- R454
  | updateAbort (who : Initiator) (unit : Nat) -- R455
  | updateActivate (who : Initiator) (unit : Nat) -- R456
  | updateActivateReset (who : Initiator) (unit : Nat) -- R456
  | updateConfirm (who : Initiator) (unit : Nat) -- R458
  | confirmTimeout -- R458
  | transceiverFault (k : Nat) -- R259
  | claimLineFault -- R42
  | trngHealthRecover -- R399
  | cardInserted (card : Card) -- R459
  | logicInputChange (main alt : Bool) -- R26
  | tapDebugAccess (op : TapOp) -- R46
  deriving DecidableEq, Repr

end Sys2Proof
end

