-- ==== Sys2Proof/Decode.lean ====
section
/-!
DEFINITION. The command that a word spells. The block takes commands and no instruction words: no row of the opcode table
gives any bits, so no word spells a command.
-/
namespace Sys2Proof

/-- The command whose `nbits` table bits are `w`: none. -/
def decodeTableWord (nbits w : Nat) : Option Instr :=
  match nbits, w with
  | _, _ => none

end Sys2Proof
end

