-- ==== Sys2Proof/Config.lean ====
section
/-!
DEFINITION. What the manual leaves to the implementation or leaves open, as constants without a body: no proof can
see a value of them. Cryptographic primitives stand here too: the manual names the published algorithm and the model
carries its result as an uninterpreted function of the inputs.
-/
namespace Sys2Proof.Config

/-- A free value: the `n`-th value the manual leaves open in a run (log entry 4). -/
opaque freeValue : Nat → Nat

/-- The `n`-th random bit string of the TRNG (R399), `len` bytes (log entry 5). -/
opaque randomBytes : Nat → Nat → List Nat

/-- The result of a division whose divisor is zero, where the manual states none (R93, R105, R108, R112, R117): `site`
names the division, `n` is the dividend. -/
opaque divZero : Nat → Int → Int

/-- The MAC address of the gateway `ip` of port `p`: no rule says how the object engine finds it (R413). -/
opaque gatewayMac (p ip : Nat) : Nat

/-- The 16 bytes of the estimator state of a cell (R125), whose layout the manual does not give: from the residue of its
soc, its persistence counters and its init count. -/
opaque estimatorBytes (residue : Nat) (counters : List Nat) (initCount : Nat) : List Nat

/-- The CRC-16 hash that picks the set of a MAC table key (R268): the manual names no polynomial. -/
opaque macHash : Nat → Nat

/-- The `n`-th undefined block of `len` bytes (log entry 4). -/
opaque freeBytes : Nat → Nat → List Nat

/-- SP_FREE_IN of a channel with the window `win` and a budget of 0, which its sum never falls below (log entry 67). -/
opaque neverFree (win : Nat) : Nat

/-- AES-GCM encryption: ciphertext and 16-byte tag (R363). -/
opaque gcmSeal (key iv aad plain : List Nat) : List Nat × List Nat

/-- AES-GCM decryption (R363): the plaintext, and whether the tag does not match. -/
opaque gcmPlain (key iv cipher : List Nat) : List Nat
opaque gcmBad (key iv aad cipher tag : List Nat) : Bool

/-- Decryption as an operation ends it: none where the tag does not match. -/
def gcmOpen (key iv aad cipher tag : List Nat) : Option (List Nat) :=
  if gcmBad key iv aad cipher tag then none else some (gcmPlain key iv cipher)

/-- The digests of R363, by PARAM: 1 SHA-256, 2 SHA-384, 3 SHA-512, 4 SHA3-256, 5 SHA3-384, 6 SHA3-512. -/
opaque digest (alg : Nat) (msg : List Nat) : List Nat

/-- Deterministic ECDSA over a digest: r then s; curve 1 P-256, 2 P-384 (R363). -/
opaque ecdsaSign (curve : Nat) (key msg : List Nat) : List Nat

/-- ECDSA verification (R363, R389). -/
opaque ecdsaVerify (curve : Nat) (pub msg sig : List Nat) : Bool

/-- The public key, x then y, of a private key. -/
opaque ecPublic (curve : Nat) (key : List Nat) : List Nat

/-- ML-DSA verification of FIPS 204 (R363, R451): 2 ML-DSA-65, 3 ML-DSA-87. -/
opaque mldsaVerify (param : Nat) (pub msg sig : List Nat) : Bool

/-- SP 800-108 in counter mode with HMAC-SHA-384 (R396), `n` bytes: parent key, label, attribute word, generation. -/
opaque kdf (parent label : List Nat) (attr gen n : Nat) : List Nat

/-- AES-256 KWP of SP 800-38F (R397), and its inverse. -/
opaque kwpWrap (key plain : List Nat) : List Nat
opaque kwpUnwrap (key blob : List Nat) : Option (List Nat)

/-- The keys of slots 0 to 3 (R393, R396): the root regenerated from the PUF, and what derives from it. -/
opaque deviceKey (slot : Nat) : List Nat

/-- The CRC-32 of the PUF helper data in a factory area does not hold (R393): the layout of the helper data is not stated. -/
opaque helperBad : List Nat → Bool

/-- The public update root key in the factory area, and the digest of the resident loader there (R390, R450, R452). -/
opaque updateRootKey : List Nat
opaque loaderDigest : List Nat

/-- The configuration that a Headwater image carries (R449, R476 step 4), as words: the eight world assignment registers,
the 32 regions of four words, FY_POSTEN, HW_DBG, TP_CFG, the locks to set, debug permission. -/
opaque imageConfig (image : List Nat) : List Nat

/-- The debug authorisation public key of a Headwater image (R389). -/
opaque debugKey (image : List Nat) : List Nat

/-- The EEPROM trim of a die lies outside the range that a trim reference of 256 bytes permits (R449): neither layout is
stated (log entry 96). -/
opaque trimOutside (die : Nat) (ref : List Nat) : Bool

/-- The base address of the partner's MAC block, over 16 (R16, R314; log entry 82). -/
opaque partnerBlock : Nat

/-- The body of the record frame with this SEQ, whose bytes no rule lays down (R302, R314; log entry 82). -/
opaque recordBody (seq : Nat) : List Nat

/-- The delay of the Braid link in MILL ticks, as the standby has measured it at a time (R304; log entry 42). -/
opaque linkDelay : Nat → Nat

/-- The baseplate temperature that the module's own sensor reads at a time, in 0.001 °C (R21; log entry 80). -/
opaque plateTemp : Nat → Int

/-- What the factory has written and no rule states: the boot ROM and, at addresses of the left NOR bank, the base image set and
the factory area (R19, R335, R452; log entry 83). -/
opaque romByte : Nat → Nat

/-- The version text of an application image (object 0x100A.00), and the EDS of an image set (R429; log entry 106), by their
bytes. -/
opaque versionText (image : List Nat) : List Nat
opaque edsText (manifest : List Nat) : List Nat

end Sys2Proof.Config
end

