-- ==== Sys2Proof/Machine/RegNames.lean ====
section
/-!
DEFINITION. The names of the register fields of the device and of the register blocks that hold them, as the
register tables of the manual name them (a field FOO.BAR is `FOO_BAR`; a register of one field has its own name).
-/
namespace Sys2Proof.Machine

/-- A register block of the memory map of R335, or a group of registers inside one. -/
inductive Block where
  | millrace
  | gauge
  | gaugeEst
  | die
  | chan
  | ioDie
  | io
  | can
  | weir
  | xcvr
  | confluence
  | braid
  | sysctl
  | lock
  | ferry
  | floodgate
  | eddy
  | lkregs
  | delta
  | deltaFn
  | deltaQ
  | od
  | upd
  deriving DecidableEq, Repr

/-- A field of a register, by register table. -/
inductive Fld where
  -- R79
  | MR_CTL_SRC | MR_CTL_EN | MR_CTL_NOM | MR_CTL_TEST | MR_CTL_PRESET | MR_STAT_STATE | MR_STAT_FRANGE | MR_STAT_ROT
  | MR_STAT_LOK | MR_STAT_REFUSED | MR_STAT_INTREF | MR_STAT_REFLATE | MR_STAT_LOSS | MR_NOW_LO | MR_NOW_HI_TIME
  | MR_NOW_HI_KIND | MR_FREQ | MR_PHERR | MR_COMP | MR_SLEW | MR_TURN_PRESET | MR_HOLD_TURNS | MR_FREE | MR_FREE_WRAP
  | MR_TURN_FREE | MR_PERIOD | MR_REFCH | MR_REFID_ID | MR_REFID_IDE | MR_REFID_BRS | MR_ANGLE0 | MR_PLAN
  | MR_ASSOC_CTL_EN | MR_ASSOC_CTL_ACCEPT | MR_ASSOC_CTL_STEP | MR_ASSOC_CTL_UNSYNC | MR_ASSOC_CTL_THR | MR_ASSOC_TURN
  | MR_ASSOC_SEC_LO | MR_ASSOC_SEC_HI | MR_ASSOC_NS | MR_ASSOC_DEV | MR_EVT_STAGE | MR_EVT_CMD_INDEX | MR_EVT_CMD_OP
  | MR_EVT_RESULT_CODE | MR_EVT_RESULT_AFTER | MR_EVT_RESULT_BUSY | MR_EVT_QUOTA0_NORMAL | MR_EVT_QUOTA0_SAFETY
  | MR_EVT_QUOTA1_SECURE | MR_EVT_LATE
  -- R100
  | GA_CTL_EN | GA_CTL_ASYNC_OK | GA_STAT_ACTIVE | GA_STAT_REFUSED | GA_STAT_SILENT | GA_STAT_LATE | GA_STAT_MISSING
  | GA_STAT_DUP | GA_STAT_BAD | GA_GUARD | GA_SILENT | GA_MAP_CMD_COMMIT | GA_MAP_RESULT_CODE | GA_MAP_RESULT_PENDING
  | GA_MAP_RESULT_CHECKING | GA_MAP_RESULT_INDEX | GA_LAST_TURN | GA_CNT_BAD | GA_CNT_LATE | GA_CNT_STRAY
  | GA_CNT_MISMATCH | GA_CNT_DUP | GA_CNT_DUPDIFF | GA_CNT_MISSING | GA_CNT_CURMISS | GA_STRMAP_SH | GA_STRMAP
  | GA_SRCMAP_SH | GA_SRCMAP | GA_CELLMAP_SH | GA_CELLMAP
  -- R129
  | GE_CTL_SCREEN | GE_CTL_NRING | GE_STAT_BUSY | GE_STAT_REFUSED | GE_STAT_DONE | GE_STAT_ALMOVF | GE_STAT_SAT
  | GE_STAT_MEDSKIP | GE_PARAM_SEL_BANK | GE_GEOM_CMD_COMMIT | GE_GEOM_CMD_PENDING | GE_ZFILT | GE_IMIN | GE_DFMAX
  | GE_INITTURNS | GE_HOLDI | GE_TSTALE | GE_MEDMIN | GE_ACLASS | GE_ALM_WR | GE_ALM_RD_S | GE_ALM_RD_N | GE_ALM_OVF
  | GE_DONE_TURN | GE_DONE_VALID | GE_PASS_TIME | GE_PASS_MAX | GE_REINIT_CELL | GE_REINIT_ALL | GE_LIM | GE_HYS
  | GE_PER_SET | GE_PER_CLR | GE_STRCFG_CAP | GE_STRCFG_PROF
  -- R156, R187
  | SL_DIE_CFG_PAIR | SL_DIE_STAT_REFUSED | SL_DIE_STAT_SHEDDING | SL_DIE_STAT_FEEDOVR | SL_DIE_STAT_SHED
  | SL_DIE_STAT_BUDGET | SL_FEED_LIM | SL_FEED_HYS | SL_SHED_T | SL_FEED_CFG_ADMIT | SL_FEED_SUM | SL_STRM_WR
  | SL_UV_THR | SL_DIP_THR | SL_UV_STAT_UVOFF | SL_UV_STAT_DIP | SL_UV_STAT_UVEVT | SL_UV_CNT | SL_FEED_V | SL_WD_TIME
  | SL_WD_SERVE | SL_WD_STAT_SERVED | SL_WD_STAT_FAILSAFE | SL_WD_STAT_EXPIRED | SL_WD_STAT_BADSERVE | SL_WD_STAT_ACT
  | SL_WD_STAT_FSBAD | SL_WD_CMD_RESUME | SL_FS_STAGE_LO | SL_FS_STAGE_HI | SL_FS_CMD_COMMIT | SL_FS_CMD_BUSY
  | SL_FS_CMD_RESULT | SL_FS_ACT | SL_FS_SEQ
  -- R157, R186
  | SL_CMD_ACTION | SL_CMD_PARAM | SL_CFG_MODE | SL_CFG_FINE | SL_CFG_OLOFF | SL_CFG_OLON | SL_CFG_JOINED | SL_SLEW
  | SL_ILIM | SL_ILIM_IN | SL_INRUSH_T | SL_PWMF | SL_DUTY | SL_OLTHR | SL_OLTIME | SL_BUDGET_PRIO | SL_BUDGET_NOM
  | SL_STAT_STATE | SL_STAT_LIMIT | SL_STAT_INRUSH | SL_STAT_OPENOFF | SL_STAT_OPENON | SL_STAT_EXTV | SL_STAT_REV
  | SL_STAT_FOVR | SL_STAT_REFUSED | SL_STAT_WHY | SL_STAT_SRC | SL_INOW | SL_PROT_CFG_RETRY_N | SL_PROT_CFG_TSTICKY
  | SL_RETRY_T | SL_LIMT | SL_PROT_CMD_CLEAR | SL_PROT_CMD_UNLOCK | SL_PROT_CMD_TCLR | SL_PROT_STAT_CAUSE
  | SL_PROT_STAT_RETRIES | SL_PROT_STAT_TLATCH | SL_PROT_STAT_RETRY_PEND | SL_PROT_STAT_UVOFF | SL_PROT_STAT_PULSEOVR
  | SL_PROT_STAT_CLAMP | SL_PROT_STAT_REFUSED | SL_PROT_STAT_PWHY | SL_PROT_STAT_FGON | SL_PROT_STAT_SPLOCK | SL_TJ
  | SP_WIN | SP_BUDGET | SP_SUM | SP_LAST | SP_FREE_IN | SL_TRIPS
  -- R206
  | IO_IN | IO_RAW | IO_OUT | IO_DSTAT_REFUSED | IO_DSTAT_FIFOOVF | IO_FS_STAGE | IO_FS_ACT | IO_LAST | IO_EDGE_WR
  | IO_EDGE_RD_S | IO_EDGE_RD_N | IO_EDGE_CTL_NRING | IO_EDGE_LOST
  -- R207
  | IO_CMD_ACTION | IO_CFG_MODE | IO_CFG_PROF | IO_CFG_INV | IO_CFG_EDGE_R | IO_CFG_EDGE_F | IO_CFG_JOINED | IO_THR
  | IO_HYS | IO_DEB | IO_RBT | IO_STAT_LEVEL | IO_STAT_OUT | IO_STAT_DRIVE | IO_STAT_LIMIT | IO_STAT_OTP
  | IO_STAT_MISMATCH | IO_STAT_REFUSED | IO_STAT_WHY | IO_STAT_SRC | IO_STAT_LOST | IO_STAT_OTPEVT | IO_OTPCNT
  -- R235
  | CAN_CTL_EN | CAN_CTL_FDOE | CAN_CTL_XLOE | CAN_CTL_TMS | CAN_CTL_LISTEN | CAN_CTL_LOOP | CAN_CTL_TERM
  | CAN_CTL_RECOVER | CAN_STAT_STATE | CAN_STAT_EWARN | CAN_STAT_PASSEVT | CAN_STAT_BOEVT | CAN_STAT_STRANDED
  | CAN_STAT_REFUSED | CAN_STAT_PXE | CAN_STAT_TDCERR | CAN_STAT_RINGOVF | CAN_STAT_STAGEOVF | CAN_STAT_DONEFULL
  | CAN_STAT_NOREL | CAN_STAT_DONEEVT | CAN_STAT_RXEVT | CAN_STAT_CFGERR | CAN_ECNT_TEC | CAN_ECNT_REC | CAN_NBT_NBRP
  | CAN_NBT_NTSEG1 | CAN_NBT_NTSEG2 | CAN_NBT_NSJW | CAN_DBT_DBRP | CAN_DBT_DTSEG1 | CAN_DBT_DTSEG2 | CAN_DBT_DSJW
  | CAN_XBT_DBRP | CAN_XBT_DTSEG1 | CAN_XBT_DTSEG2 | CAN_XBT_DSJW | CAN_TDCF_TDCE | CAN_TDCF_TDCO | CAN_TDCF_TDCF
  | CAN_TDCF_TDCV | CAN_TDCX_TDCE | CAN_TDCX_TDCO | CAN_TDCX_TDCF | CAN_TDCX_TDCV | CAN_PWM_PWMS | CAN_PWM_PWML
  | CAN_PWM_PWMO | CAN_CTRLCFG_CTRL | CAN_CTRLCFG_NODE | CAN_CTRLCFG_LEVEL | CAN_TXPOOL_PSZ | CAN_TXPOOL_NTX
  | CAN_TXQ_PUSH_LEVEL | CAN_TXQ_RESULT_CODE | CAN_TXQ_RESULT_BUSY | CAN_TXQ_CMD_OP | CAN_TXQ_CMD_LEVEL
  | CAN_TXQ_CMD_DEST | CAN_TXQ_CMD_DLEVEL | CAN_TXQ_CMDRES_CODE | CAN_TXQ_CMDRES_BUSY | CAN_TXQ_CMDRES_COUNT
  | CAN_TXQ_LVL_COUNT | CAN_TXQ_LVL_HELD | CAN_TXQ_LVL_STRANDED | CAN_TXQ_LVL_ACTIVE | CAN_TXDONE_WR | CAN_TXDONE_RD
  | CAN_RINGCFG_PSZ | CAN_RINGCFG_DEPTH | CAN_RINGCFG_WORLD | CAN_RING_WR | CAN_RING_RD | CAN_LEC_CODE | CAN_LEC_DATA
  | CAN_CNT_RX | CAN_CNT_TX | CAN_CNT_ERR | CAN_RING_OVF | CAN_STAGE_OVF
  -- R258
  | WE_CTL_EN | WE_CTL_MISS | WE_STAT_REFUSED | WE_STAT_FWDDROP | WE_STAT_REVOKED | WE_SEGMAP | WE_GEN | WE_DRAIN_GEN
  | WE_DRAIN_DONE | WE_STAGE | WE_ENT_CMD_INDEX | WE_ENT_CMD_OP | WE_ENT_CMD_TBL | WE_ENT_RESULT_CODE
  | WE_ENT_RDIDX_INDEX | WE_ENT_RDIDX_TBL | WE_ENT_RD | WE_CNT_MISS | WE_CNT_FWDDROP | WE_CNT_ASLEEP | WE_CNT_REVOKED
  | WE_CNT_XLETH | WE_CNT_ETHDROP | WE_CNT_ETHSEQ | WE_SLP_ID_ID | WE_SLP_ID_VOTEBASE | WE_SLP_ID_LEVEL
  | WE_SLP_CTL_REQ | WE_SLP_CTL_WAKE | WE_SLP_STAT_STATE | WE_SLP_STAT_ROUND | WE_SLP_STAT_RESULT
  | WE_SLP_STAT_WAKESRC | WE_SLP_TIMES_VOTEW | WE_SLP_TIMES_COMMITW | WE_SLP_TIMES_RETRY | WE_HOLDCNT | XCVR_VOTERS
  | WE_HOLD | WE_SILENT
  -- R259
  | XCVR_CTL_WAKEEN | XCVR_STAT_MODE | XCVR_STAT_INH | XCVR_STAT_WUP | XCVR_STAT_FAULT | XCVR_WAKEMAP
  | XCVR_WAKELOG_SRC | XCVR_WAKELOG_INDEX | XCVR_HOLD_RUN
  -- R287
  | CF_CTL_EN | CF_CTL_AGE | CF_STAT_REFUSED | CF_STAT_CLAIM | CF_STAT_STOMP | CF_GEN | CF_DRAIN_GEN | CF_DRAIN_DONE
  | CF_OWNMAC_LO | CF_OWNMAC_HI | CF_BUF_FREE | CF_CNT_LEARNFULL | CF_CNT_STOMP | CF_STAGE | CF_TBL_CMD_INDEX
  | CF_TBL_CMD_OP | CF_TBL_CMD_TBL | CF_TBL_RESULT_CODE | CF_PTP_CTL_SYNC | CF_PTP_CTL_SET | CF_PTP_CTL_HOLD
  | CF_PTP_CTL_WORLD | CF_PTP_SEC_LO | CF_PTP_SEC_HI | CF_PTP_NS | CF_PTP_ADJ | CF_PTP_STEP | HQ_BASE_LO | HQ_BASE_HI
  | HQ_CFG_SIZE | HQ_CFG_WORLD | HQ_CFG_EN | HQ_HEAD | HQ_TAIL | HQ_DROP | CFP_CTL_EN | CFP_CTL_SPEED | CFP_CTL_ROLE
  | CFP_CTL_LEARN | CFP_CTL_HQDEF | CFP_STAT_LINK | CFP_STAT_LINKEVT | CFP_VLAN_PVID | CFP_VLAN_DPCP | CFP_VLAN_ACCEPT
  | CFP_VLAN_IFILT | CFP_MAXLEN | CFP_QMAP | CFP_POL_CIR | CFP_POL_CBS | CFP_STORM_BC | CFP_STORM_UU | CFP_STORM_MC
  | CFP_SAMPLE_N | CFP_SAMPLE_HQ | CFP_PTPCOMP | CFP_QLIM_MIN | CFP_QLIM_MAX | CFP_CNT_RXOK | CFP_CNT_RXFCS
  | CFP_CNT_RXLEN | CFP_CNT_RXDROP | CFP_CNT_POLICED | CFP_CNT_STORM | CFP_CNT_BUFDROP | CFP_CNT_TXOK | CFP_CNT_FLUSH
  | CFP_CNT_STBY | CFP_CNT_REVOKED | CFP_CNT_SAMPLED
  -- R324
  | BR_CTL_MODE | BR_CTL_TEST | BR_CTL_AUTOSYNC | BR_CTL_CMPWIN | BR_STAT_STATE | BR_STAT_UNIT | BR_STAT_SEATED
  | BR_STAT_CLAIM | BR_STAT_PCLAIM | BR_STAT_P9OK | BR_STAT_HBOK | BR_STAT_CLAIMFAULT | BR_STAT_DIVERGE
  | BR_STAT_FMTDIFF | BR_STAT_JFULL | BR_STAT_TAKEOVER | BR_STAT_INDIFF | BR_STAT_REFUSED | BR_STAT_FENCING
  | BR_STAT_SENSEDIFF | BR_STAT_ISOLATED | BR_STAT_LAG | BR_STAT_LOCKDIFF | BR_CMD_SYNC | BR_CMD_SWAP | BR_CMD_RELEASE
  | BR_CMD_ADOPT | BR_KEEP | BR_FENCE_FENCECH | BR_FENCE_FENCEID | BR_EPOCH | BR_CONFGEN | BR_CONFSUM | BR_MIRFMT
  | BR_PAIRMAC_LO | BR_PAIRMAC_HI | BR_HEALTH | BR_PEER | BR_PEER_EPOCH | BR_PEER_CONFGEN | BR_PEER_HEALTH | BR_SEQ_LO
  | BR_SEQ_HI | BR_JOPEN_LO | BR_JOPEN_HI | BR_JUSED | BR_LAG | BR_TKO_LO | BR_TKO_HI | BR_TKO_CAUSE | BR_CNT_P9MISS
  | BR_CNT_HBMISS | BR_CNT_REPLAY | BR_CNT_BADREC | BR_CNT_INDIFF | BR_CNT_DIVERGE | BR_CNT_TAKEOVER
  | BR_STATE_ADDR_LO | BR_STATE_ADDR_HI | BR_STATE_LEN | BR_STATE_CTL_READY | BR_STATE_CTL_DONE
  -- R445, R354, R405
  | SYS_PWR_CMD_REQ | SYS_PWR_STAT_STATE | SYS_PWR_STAT_PENDING | SYS_PWR_STAT_WHY | SYS_PWR_STAT_REFUSED | SYS_SLPTO
  | SYS_RST_FULL | SYS_RSTCAUSE_CAUSE | SYS_START_JTORN | SYS_START_CTLBLK | SYS_START_EETORN | SYS_START_ACTREC
  | SYS_START_KEYLESS | SYS_START_LATE | SYS_START_SERVED | SYS_T_SAFE | SYS_T_FULL | SYS_WAKE_CHECK
  | SYS_WAKE_RESTORE | SYS_WAKE_RESULT | LS_CTL_SRCPAIR | LS_STAT_ERR | LS_STAT_CAUSE | LS_STAT_DBGBRK
  | LS_STAT_STFAIL | LS_STAT_REFUSED | LS_STAT_FROZEN | LS_STAT_RESTARTS | LS_CMD_RESTART | LS_CMD_SELFTEST | LS_PC
  | MEM_CE | MEM_UE_ADDR_LO | MEM_UE_ADDR_HI | MEM_UE_INFO_MASTER | MEM_UE_INFO_MEM | MEM_UE_INFO_EVT | HW_STAT_READY
  | HW_STAT_KEYLESS | HW_STAT_PUFFAIL | HW_STAT_MEASFAIL | HW_STAT_TRNGFAIL | HW_STAT_LOSTBLK | HW_STAT_REFUSED
  | HW_STAT_RESTARTS | HW_CMD_RESTART | HW_USE | HW_DBG_NNID | HW_DBG_NID | HW_DBG_SNID | HW_DBG_SID | HW_DBG_XNID
  | HW_DBG_XID | HW_REMASK | WA_SL | WA_IO | WA_CAN | WA_PORT | WA_MRIRQ | HW_MEASLOG | TP_CFG | TP_STAT_LATCH
  | TP_STAT_LIVE | TP_STAT_ZEROISED | TP_CNT | HW_RGN_BASE_LO | HW_RGN_BASE_HI | HW_RGN_SIZE | HW_RGN_PERM_N
  | HW_RGN_PERM_S | HW_RGN_PERM_VALID
  -- R446
  | LK_SET | LK_STAT_LOCKS | LK_STAT_RESTORE | LK_STAT_REFUSED
  -- R355
  | FY_STAT_UP | FY_STAT_REACH | FY_STAT_ERR | FY_LINK_STATE | FY_LINK_CRCERR | FY_LINK_RETRAIN | FY_POSTEN_PAIR0
  | FY_POSTEN_PAIR1 | FY_POSTEN_HW | FY_RDTO | FY_ELOG_OVF | FY_ELOG_A_DIE | FY_ELOG_A_OFFSET | FY_ELOG_A_VALID
  | FY_ELOG_B_MASTER | FY_ELOG_B_TAG | FY_ELOG_B_CODE | FY_ELOG_STAMP
  -- R188
  | FG_SRC | FG_MASK | FG_ACT | FG_CNT | FG_CTL_EN | FG_STAT_REFUSED | FG_STAT_FIRED | FG_STAT_STANDBY | FG_FIRED_LO
  | FG_FIRED_HI | FG_SWTRIG
  -- R356
  | ED_TX_LO | ED_TX_HI | ED_TX_STAT_COUNT | ED_TX_STAT_EMPTYEVT | ED_TX_STAT_TIMEOUT | ED_TX_STAT_REFUSED
  | ED_TX_DOORBELL | ED_TX_TMO | ED_RX_LO | ED_RX_HI | ED_RX_STAT_COUNT | ED_RX_STAT_RING | ED_RX_STAT_TIMEOUT
  | ED_RX_POP | ED_IE_RX | ED_IE_EMPTY
  -- R357
  | LK_REG | LK_BADREL_LO | LK_BADREL_HI
  -- R376
  | DM_CTL_EN | DM_STAT_REFUSED | DM_STAT_RSTDONE | DM_STAT_INFL | DM_FRESET_FUNC | DM_RSTBUSY | DM_RSTDONE
  | DM_CNT_OPS | DM_CNT_SQUASH | DM_CNT_NOTEXEC | DM_CNT_DBREF | DM_QCFG_FUNC | DM_QCFG_CLASS | DM_QCFG_SHARE
  | DM_QCFG_RSTMODE | DM_FCFG_WORLD | DM_FCFG_MAXINFL | DM_FCFG_EN | DM_EMMC_BASE | DM_EMMC_COUNT | DM_WIN_BASE_LO
  | DM_WIN_BASE_HI | DM_WIN_SIZE_LO | DM_WIN_SIZE_HI
  -- R377
  | DF_STAT_INFL | DF_STAT_RESET | DF_INT_CPL | DF_INT_RSTDONE | DF_INT_REFUSED | DF_INT_FAULT | DF_IE
  -- R377
  | DQ_CTL_EN | DQ_RING_LO | DQ_RING_HI | DQ_SIZE | DQ_CPL_LO | DQ_CPL_HI | DQ_HEAD | DQ_TAIL | DQ_DBRES_CODE
  | DQ_DBRES_BUSY | DQ_CWR | DQ_CRD | DQ_STAT_PEND | DQ_STAT_OVERSHARE | DQ_STAT_CFULL | DQ_STAT_DRAINTO
  | DQ_STAT_NOTEXEC
  -- R432
  | OD_CTL_SDO | OD_CTL_DOP | OD_CTL_SVC | OD_STAT_REFUSED | OD_STAT_BUSYEVT | OD_CNT_REQ | OD_CNT_ABORT | OD_CNT_BUSY
  | OD_QDEPTH_P | OD_QDEPTH_E | OD_QDEPTH_S | OD_QDEPTH_B | OD_QDEPTH_I | OD_OVR_FIRST | OD_OVR_LAST | OD_OVR_NOREAD
  | OD_OVR_NOWRITE | OD_OVR_VALID
  -- R463
  | UPD_CMD_OP | UPD_CMD_UNIT | UPD_CTL_RESUME | UPD_STAT_STATE | UPD_STAT_BANK | UPD_STAT_TRIAL | UPD_STAT_TRIALS
  | UPD_STAT_RETURNED | UPD_STAT_FALLBACK | UPD_STAT_OTHERVALID | UPD_STAT_CARD | UPD_STAT_LASTFAIL
  | UPD_STAT_MIROTHER | UPD_RESULT_CODE | UPD_RESULT_REFUSED | UPD_PROGRESS | UPD_MSEQ_FORCE | UPD_MSEQ_OTHER
  | UPD_CONFIRM_LEFT | UPD_VER | UPD_OVER
  deriving DecidableEq, Repr

/-- Access codes of R3. -/
inductive Acc where
  | rw | ro | wo | w1c | w1s | rc
  deriving DecidableEq, Repr

/-- Change classes of R5 (`none` where the table gives none; class K is the lock number beside the class). -/
inductive Chg where
  | none | live | turn | quiet
  deriving DecidableEq, Repr

/-- Which initiators a register table lets write a field (R379: the secure world passes ownership checks, and is
refused where the table names the safety world alone). -/
inductive Who where
  | any        -- any world
  | safety     -- safety-only
  | normal     -- the normal world (and the secure world)
  | secure     -- the secure world alone
  | safeSec    -- safety and secure worlds
  | normSafe   -- normal and safety worlds (and the secure world)
  | cfGlobal   -- R287: normal and safety worlds, and the secure world
  | owner      -- the world that owns the channel (WA_SL, WA_IO or WA_CAN)
  | ring       -- the world that owns the receive ring
  | port       -- the world that owns the Confluence port
  | hq         -- the world that owns the host queue
  | ptp        -- the world that disciplines the PTP clock
  | otherPair  -- the other lockstep pair
  | lsCtl      -- LS_CTLp (the pair itself or the other)
  | eddyOwner  -- the master that owns the endpoint
  | fnOwner    -- the masters of the function's world
  deriving DecidableEq, Repr

/-- What a register table says of a field. -/
structure FldInfo where
  lo : Nat
  width : Nat
  acc : Acc
  chg : Chg
  lock : Option Nat
  who : Who
  min : Nat
  max : Nat
  zeroToo : Bool := false
  align : Nat := 1
  deriving DecidableEq, Repr

/-- One row of a register table: at `off + stride*i + stride2*j` for `i < n`, `j < n2` lies a register with `fields`. -/
structure RegRow where
  off : Nat
  stride : Nat
  n : Nat
  stride2 : Nat
  n2 : Nat
  fields : List Fld
  deriving DecidableEq, Repr

end Sys2Proof.Machine
end

