-- ==== Sys2Proof/Machine/RegTable.lean ====
section
/-!
DEFINITION. The register tables of the manual as data: for each field its bits, access, change class, lock, world
and range (`Fld.info`), its reset value (`Fld.reset`), and for each block the rows that say at which offset its
registers lie (`Block.rows`).
-/
namespace Sys2Proof.Machine

/-- Heavy channels are CH0 to CH7, light channels CH8 to CH31 (R11). -/
def isHeavy (k : Nat) : Bool := k < 8

/-- Default limits of R129. -/
def geLimReset : Nat → Nat
  | 0 => 307 | 1 => 30000 | 2 => 5000 | 3 => 0x0CCCCD | 4 => 3650000 | 5 => 2500000 | 6 => 55000 | _ => 2000000

/-- Default hysteresis values of R129. -/
def geHysReset : Nat → Nat
  | 0 => 51 | 1 => 5000 | 2 => 1000 | 3 => 0x028F5C | 4 => 50000 | 5 => 50000 | 6 => 3000 | _ => 200000

/-- Current limit at reset, 0.1 A (R157). -/
def slIlimReset (k : Nat) : Nat := if isHeavy k then 250 else 75

/-- Spillway budget at reset, 0.1 mJ (R186). -/
def spBudgetReset (k : Nat) : Nat := if isHeavy k then 60000 else 12000

/-- Ring 0 of each channel has 64 entries at reset, the others none (R235). -/
def canDepthReset (r : Nat) : Nat := if r % 4 = 0 then 64 else 0

/-- DM_QCFGq.FUNC at reset (R376). -/
def dmFuncReset (_q : Nat) : Nat := 0

/-- A readable and writable field without a range. -/
abbrev fi (lo width : Nat) (acc : Acc) (chg : Chg) (lock : Option Nat) (who : Who) : FldInfo :=
  ⟨lo, width, acc, chg, lock, who, 0, 2 ^ width - 1, false, 1⟩

/-- A field with an inclusive range. -/
abbrev fr (lo width : Nat) (acc : Acc) (chg : Chg) (lock : Option Nat) (who : Who) (mn mx : Nat) : FldInfo :=
  ⟨lo, width, acc, chg, lock, who, mn, mx, false, 1⟩

/-- What the register tables say of each field. -/
def Fld.info : Fld → FldInfo
  | .MR_CTL_SRC => fi 0 3 .rw .turn none .any
  | .MR_CTL_EN => fi 3 1 .rw .live none .any
  | .MR_CTL_NOM => fr 4 2 .rw .turn none .any 1 2
  | .MR_CTL_TEST => fi 6 1 .rw .live none .any
  | .MR_CTL_PRESET => fi 7 1 .rw .quiet none .any
  | .MR_STAT_STATE => fi 0 3 .ro .none none .any
  | .MR_STAT_FRANGE => fi 3 1 .w1c .none none .any
  | .MR_STAT_ROT => fi 4 1 .ro .none none .any
  | .MR_STAT_LOK => fi 5 3 .ro .none none .any
  | .MR_STAT_REFUSED => fi 8 1 .w1c .none none .any
  | .MR_STAT_INTREF => fi 9 1 .ro .none none .any
  | .MR_STAT_REFLATE => fi 10 1 .w1c .none none .any
  | .MR_STAT_LOSS => fi 11 1 .w1c .none none .any
  | .MR_NOW_LO => fi 0 32 .ro .none none .any
  | .MR_NOW_HI_TIME => fi 0 16 .ro .none none .any
  | .MR_NOW_HI_KIND => fi 16 2 .ro .none none .any
  | .MR_FREQ => fi 0 24 .ro .none none .any
  | .MR_PHERR => fi 0 24 .ro .none none .any
  | .MR_COMP => fi 0 24 .rw .turn none .any
  | .MR_SLEW => fr 0 24 .rw .live none .any 1 83886
  | .MR_TURN_PRESET => fi 0 24 .rw .quiet none .any
  | .MR_HOLD_TURNS => fi 0 24 .ro .none none .any
  | .MR_FREE => fi 0 32 .ro .none none .any
  | .MR_FREE_WRAP => fi 0 16 .ro .none none .any
  | .MR_TURN_FREE => fi 0 32 .ro .none none .any
  | .MR_PERIOD => fi 0 32 .ro .none none .any
  | .MR_REFCH => fi 0 16 .rw .turn none .any
  | .MR_REFID_ID => fi 0 29 .rw .turn none .any
  | .MR_REFID_IDE => fi 29 1 .rw .turn none .any
  | .MR_REFID_BRS => fi 30 1 .rw .turn none .any
  | .MR_ANGLE0 => fi 0 24 .rw .turn none .any
  | .MR_PLAN => fi 0 32 .rw .turn none .any
  | .MR_ASSOC_CTL_EN => fi 0 1 .rw .live none .any
  | .MR_ASSOC_CTL_ACCEPT => fi 1 1 .wo .live none .any
  | .MR_ASSOC_CTL_STEP => fi 2 1 .ro .none none .any
  | .MR_ASSOC_CTL_UNSYNC => fi 3 1 .ro .none none .any
  | .MR_ASSOC_CTL_THR => fr 8 24 .rw .live none .any 10 1000000
  | .MR_ASSOC_TURN => fi 0 24 .ro .none none .any
  | .MR_ASSOC_SEC_LO => fi 0 32 .ro .none none .any
  | .MR_ASSOC_SEC_HI => fi 0 16 .ro .none none .any
  | .MR_ASSOC_NS => fi 0 30 .ro .none none .any
  | .MR_ASSOC_DEV => fi 0 32 .ro .none none .any
  | .MR_EVT_STAGE => fi 0 32 .rw .live none .any
  | .MR_EVT_CMD_INDEX => fi 0 10 .wo .live none .any
  | .MR_EVT_CMD_OP => fi 10 2 .wo .live none .any
  | .MR_EVT_RESULT_CODE => fi 0 4 .ro .none none .any
  | .MR_EVT_RESULT_AFTER => fi 4 1 .ro .none none .any
  | .MR_EVT_RESULT_BUSY => fi 5 1 .ro .none none .any
  | .MR_EVT_QUOTA0_NORMAL => fi 0 11 .rw .live (some 4) .any
  | .MR_EVT_QUOTA0_SAFETY => fi 16 11 .rw .live (some 4) .any
  | .MR_EVT_QUOTA1_SECURE => fi 0 11 .rw .live (some 4) .any
  | .MR_EVT_LATE => fi 0 16 .rc .none none .any
  | .GA_CTL_EN => fi 0 1 .rw .turn none .any
  | .GA_CTL_ASYNC_OK => fi 1 1 .rw .turn none .any
  | .GA_STAT_ACTIVE => fi 0 1 .ro .none none .any
  | .GA_STAT_REFUSED => fi 1 1 .w1c .none none .any
  | .GA_STAT_SILENT => fi 2 1 .ro .none none .any
  | .GA_STAT_LATE => fi 3 1 .w1c .none none .any
  | .GA_STAT_MISSING => fi 4 1 .w1c .none none .any
  | .GA_STAT_DUP => fi 5 1 .w1c .none none .any
  | .GA_STAT_BAD => fi 6 1 .w1c .none none .any
  | .GA_GUARD => fr 0 24 .rw .turn none .any 0 12582912
  | .GA_SILENT => fr 0 8 .rw .turn none .any 1 255
  | .GA_MAP_CMD_COMMIT => fi 0 1 .wo .live none .any
  | .GA_MAP_RESULT_CODE => fi 0 4 .ro .none none .any
  | .GA_MAP_RESULT_PENDING => fi 4 1 .ro .none none .any
  | .GA_MAP_RESULT_CHECKING => fi 5 1 .ro .none none .any
  | .GA_MAP_RESULT_INDEX => fi 16 13 .ro .none none .any
  | .GA_LAST_TURN => fi 0 24 .ro .none none .any
  | .GA_CNT_BAD => fi 0 32 .rc .none none .any
  | .GA_CNT_LATE => fi 0 32 .rc .none none .any
  | .GA_CNT_STRAY => fi 0 32 .rc .none none .any
  | .GA_CNT_MISMATCH => fi 0 32 .rc .none none .any
  | .GA_CNT_DUP => fi 0 32 .rc .none none .any
  | .GA_CNT_DUPDIFF => fi 0 32 .rc .none none .any
  | .GA_CNT_MISSING => fi 0 32 .rc .none none .any
  | .GA_CNT_CURMISS => fi 0 32 .rc .none none .any
  | .GA_STRMAP_SH => fi 0 32 .rw .live none .any
  | .GA_STRMAP => fi 0 32 .ro .none none .any
  | .GA_SRCMAP_SH => fi 0 32 .rw .live none .any
  | .GA_SRCMAP => fi 0 32 .ro .none none .any
  | .GA_CELLMAP_SH => fi 0 24 .rw .live none .any
  | .GA_CELLMAP => fi 0 24 .ro .none none .any
  | .GE_CTL_SCREEN => fi 0 1 .rw .turn (some 4) .safety
  | .GE_CTL_NRING => fi 1 1 .rw .turn none .any
  | .GE_STAT_BUSY => fi 0 1 .ro .none none .any
  | .GE_STAT_REFUSED => fi 1 1 .w1c .none none .any
  | .GE_STAT_DONE => fi 2 1 .w1c .none none .any
  | .GE_STAT_ALMOVF => fi 3 1 .w1c .none none .any
  | .GE_STAT_SAT => fi 4 1 .w1c .none none .any
  | .GE_STAT_MEDSKIP => fi 5 1 .w1c .none none .any
  | .GE_PARAM_SEL_BANK => fi 0 1 .rw .turn none .any
  | .GE_GEOM_CMD_COMMIT => fi 0 1 .wo .live none .any
  | .GE_GEOM_CMD_PENDING => fi 1 1 .ro .none none .any
  | .GE_ZFILT => fr 0 4 .rw .turn none .any 0 8
  | .GE_IMIN => fi 0 24 .rw .turn none .any
  | .GE_DFMAX => fr 0 16 .rw .turn none .any 1 65535
  | .GE_INITTURNS => fi 0 8 .rw .turn none .any
  | .GE_HOLDI => fi 0 8 .rw .turn none .any
  | .GE_TSTALE => fr 0 8 .rw .turn none .any 1 255
  | .GE_MEDMIN => fr 0 10 .rw .turn none .any 3 512
  | .GE_ACLASS => fi 0 32 .rw .turn (some 4) .safety
  | .GE_ALM_WR => fi 0 9 .ro .none none .any
  | .GE_ALM_RD_S => fi 0 9 .rw .live none .safety
  | .GE_ALM_RD_N => fi 0 9 .rw .live none .normal
  | .GE_ALM_OVF => fi 0 32 .rc .none none .any
  | .GE_DONE_TURN => fi 0 24 .ro .none none .any
  | .GE_DONE_VALID => fi 31 1 .ro .none none .any
  | .GE_PASS_TIME => fi 0 24 .ro .none none .any
  | .GE_PASS_MAX => fi 0 24 .rc .none none .any
  | .GE_REINIT_CELL => fi 0 13 .wo .live none .any
  | .GE_REINIT_ALL => fi 31 1 .wo .live none .any
  | .GE_LIM => fi 0 24 .rw .turn none .safety
  | .GE_HYS => fi 0 24 .rw .turn none .safety
  | .GE_PER_SET => fr 0 6 .rw .turn none .safety 1 63
  | .GE_PER_CLR => fr 8 6 .rw .turn none .safety 1 63
  | .GE_STRCFG_CAP => fi 0 16 .rw .turn none .any
  | .GE_STRCFG_PROF => fi 16 2 .rw .turn none .any
  | .SL_DIE_CFG_PAIR => fi 0 1 .rw .quiet none .safety
  | .SL_DIE_STAT_REFUSED => fi 0 1 .w1c .none none .safeSec
  | .SL_DIE_STAT_SHEDDING => fi 1 1 .ro .none none .safety
  | .SL_DIE_STAT_FEEDOVR => fi 2 1 .w1c .none none .safeSec
  | .SL_DIE_STAT_SHED => fi 3 1 .w1c .none none .safeSec
  | .SL_DIE_STAT_BUDGET => fi 4 1 .w1c .none none .safeSec
  | .SL_FEED_LIM => fr 0 10 .rw .live none .safety 10 500
  | .SL_FEED_HYS => fr 0 7 .rw .live none .safety 0 100
  | .SL_SHED_T => fr 0 10 .rw .live none .safety 1 1000
  | .SL_FEED_CFG_ADMIT => fi 0 1 .rw .live none .safety
  | .SL_FEED_SUM => fi 0 24 .ro .none none .safety
  | .SL_STRM_WR => fi 0 8 .ro .none none .safety
  | .SL_UV_THR => fr 0 8 .rw .live none .safety 100 180
  | .SL_DIP_THR => fr 0 9 .rw .live none .safety 110 300
  | .SL_UV_STAT_UVOFF => fi 0 1 .ro .none none .safety
  | .SL_UV_STAT_DIP => fi 1 1 .ro .none none .safety
  | .SL_UV_STAT_UVEVT => fi 2 1 .w1c .none none .safety
  | .SL_UV_CNT => fi 0 16 .rc .none none .safety
  | .SL_FEED_V => fi 0 24 .ro .none none .safety
  | .SL_WD_TIME => fr 0 10 .rw .live (some 4) .safety 1 1000
  | .SL_WD_SERVE => fi 0 24 .wo .live none .any
  | .SL_WD_STAT_SERVED => fi 0 1 .ro .none none .safety
  | .SL_WD_STAT_FAILSAFE => fi 1 1 .ro .none none .safety
  | .SL_WD_STAT_EXPIRED => fi 2 1 .w1c .none none .safety
  | .SL_WD_STAT_BADSERVE => fi 3 1 .w1c .none none .safety
  | .SL_WD_STAT_ACT => fi 4 1 .ro .none none .safety
  | .SL_WD_STAT_FSBAD => fi 5 1 .w1c .none none .safety
  | .SL_WD_CMD_RESUME => fi 0 1 .wo .live none .safety
  | .SL_FS_STAGE_LO => fi 0 12 .rw .live (some 4) .safety
  | .SL_FS_STAGE_HI => fi 12 12 .rw .live (some 4) .safety
  | .SL_FS_CMD_COMMIT => fi 0 1 .wo .live (some 4) .safety
  | .SL_FS_CMD_BUSY => fi 1 1 .ro .none none .safety
  | .SL_FS_CMD_RESULT => fi 2 2 .ro .none none .safety
  | .SL_FS_ACT => fi 0 24 .ro .none none .safety
  | .SL_FS_SEQ => fi 0 16 .ro .none none .safety
  | .SL_CMD_ACTION => fi 0 4 .wo .live none .owner
  | .SL_CMD_PARAM => fi 4 12 .wo .live none .owner
  | .SL_CFG_MODE => fr 0 2 .rw .quiet none .owner 0 2
  | .SL_CFG_FINE => fi 2 1 .rw .turn none .owner
  | .SL_CFG_OLOFF => fi 3 1 .rw .live none .owner
  | .SL_CFG_OLON => fi 4 1 .rw .live none .owner
  | .SL_CFG_JOINED => fi 5 1 .rw .live none .owner
  | .SL_SLEW => fr 0 9 .rw .quiet none .owner 1 400
  | .SL_ILIM => fi 0 11 .rw .live none .owner
  | .SL_ILIM_IN => fi 0 11 .rw .quiet none .owner
  | .SL_INRUSH_T => fr 0 9 .rw .quiet none .owner 0 500
  | .SL_PWMF => fr 0 12 .rw .quiet none .owner 25 4000
  | .SL_DUTY => fr 0 10 .rw .live none .owner 0 1000
  | .SL_OLTHR => fi 0 16 .rw .live none .owner
  | .SL_OLTIME => fr 0 8 .rw .live none .owner 1 255
  | .SL_BUDGET_PRIO => fi 0 4 .rw .live none .owner
  | .SL_BUDGET_NOM => fi 4 11 .rw .live none .owner
  | .SL_STAT_STATE => fi 0 3 .ro .none none .owner
  | .SL_STAT_LIMIT => fi 3 1 .ro .none none .owner
  | .SL_STAT_INRUSH => fi 4 1 .ro .none none .owner
  | .SL_STAT_OPENOFF => fi 5 1 .ro .none none .owner
  | .SL_STAT_OPENON => fi 6 1 .ro .none none .owner
  | .SL_STAT_EXTV => fi 7 1 .ro .none none .owner
  | .SL_STAT_REV => fi 8 1 .w1c .none none .owner
  | .SL_STAT_FOVR => fi 9 1 .ro .none none .owner
  | .SL_STAT_REFUSED => fi 10 1 .w1c .none none .owner
  | .SL_STAT_WHY => fi 11 3 .ro .none none .owner
  | .SL_STAT_SRC => fi 14 2 .ro .none none .owner
  | .SL_INOW => fi 0 24 .ro .none none .owner
  | .SL_PROT_CFG_RETRY_N => fi 0 4 .rw .live none .owner
  | .SL_PROT_CFG_TSTICKY => fi 4 1 .rw .live none .owner
  | .SL_RETRY_T => fr 0 10 .rw .live none .owner 1 1000
  | .SL_LIMT => fr 0 10 .rw .live none .owner 1 1000
  | .SL_PROT_CMD_CLEAR => fi 0 1 .wo .live none .owner
  | .SL_PROT_CMD_UNLOCK => fi 1 1 .wo .live none .owner
  | .SL_PROT_CMD_TCLR => fi 2 1 .wo .live none .owner
  | .SL_PROT_STAT_CAUSE => fi 0 3 .ro .none none .owner
  | .SL_PROT_STAT_RETRIES => fi 3 4 .ro .none none .owner
  | .SL_PROT_STAT_TLATCH => fi 7 1 .ro .none none .owner
  | .SL_PROT_STAT_RETRY_PEND => fi 8 1 .ro .none none .owner
  | .SL_PROT_STAT_UVOFF => fi 9 1 .ro .none none .owner
  | .SL_PROT_STAT_PULSEOVR => fi 10 1 .w1c .none none .owner
  | .SL_PROT_STAT_CLAMP => fi 11 1 .ro .none none .owner
  | .SL_PROT_STAT_REFUSED => fi 12 1 .w1c .none none .owner
  | .SL_PROT_STAT_PWHY => fi 13 3 .ro .none none .owner
  | .SL_PROT_STAT_FGON => fi 16 1 .ro .none none .owner
  | .SL_PROT_STAT_SPLOCK => fi 17 1 .ro .none none .owner
  | .SL_TJ => fi 0 24 .ro .none none .owner
  | .SP_WIN => fr 0 6 .rw .live none .owner 1 60
  | .SP_BUDGET => fi 0 24 .rw .live none .owner
  | .SP_SUM => fi 0 24 .ro .none none .owner
  | .SP_LAST => fi 0 24 .ro .none none .owner
  | .SP_FREE_IN => fi 0 10 .ro .none none .owner
  | .SL_TRIPS => fi 0 16 .rc .none none .owner
  | .IO_IN => fi 0 12 .ro .none none .safety
  | .IO_RAW => fi 0 12 .ro .none none .safety
  | .IO_OUT => fi 0 12 .ro .none none .safety
  | .IO_DSTAT_REFUSED => fi 0 1 .w1c .none none .safeSec
  | .IO_DSTAT_FIFOOVF => fi 1 1 .w1c .none none .safeSec
  | .IO_FS_STAGE => fi 0 24 .rw .live (some 4) .safety
  | .IO_FS_ACT => fi 0 24 .ro .none none .safety
  | .IO_LAST => fi 0 32 .ro .none none .safety
  | .IO_EDGE_WR => fi 0 7 .ro .none none .safety
  | .IO_EDGE_RD_S => fi 0 7 .rw .live none .safety
  | .IO_EDGE_RD_N => fi 0 7 .rw .live none .normal
  | .IO_EDGE_CTL_NRING => fi 0 1 .rw .live none .safeSec
  | .IO_EDGE_LOST => fi 0 16 .rc .none none .safety
  | .IO_CMD_ACTION => fi 0 4 .wo .live none .owner
  | .IO_CFG_MODE => fi 0 2 .rw .quiet none .owner
  | .IO_CFG_PROF => fi 2 2 .rw .live none .owner
  | .IO_CFG_INV => fi 4 1 .rw .live none .owner
  | .IO_CFG_EDGE_R => fi 5 1 .rw .live none .owner
  | .IO_CFG_EDGE_F => fi 6 1 .rw .live none .owner
  | .IO_CFG_JOINED => fi 7 1 .rw .live none .owner
  | .IO_THR => fr 0 8 .rw .live none .owner 30 200
  | .IO_HYS => fr 0 5 .rw .live none .owner 2 30
  | .IO_DEB => fr 0 16 .rw .live none .owner 1 65535
  | .IO_RBT => fr 0 8 .rw .live none .owner 1 255
  | .IO_STAT_LEVEL => fi 0 1 .ro .none none .owner
  | .IO_STAT_OUT => fi 1 1 .ro .none none .owner
  | .IO_STAT_DRIVE => fi 2 1 .ro .none none .owner
  | .IO_STAT_LIMIT => fi 3 1 .ro .none none .owner
  | .IO_STAT_OTP => fi 4 1 .ro .none none .owner
  | .IO_STAT_MISMATCH => fi 5 1 .ro .none none .owner
  | .IO_STAT_REFUSED => fi 6 1 .w1c .none none .owner
  | .IO_STAT_WHY => fi 7 2 .ro .none none .owner
  | .IO_STAT_SRC => fi 9 2 .ro .none none .owner
  | .IO_STAT_LOST => fi 11 1 .w1c .none none .owner
  | .IO_STAT_OTPEVT => fi 12 1 .w1c .none none .owner
  | .IO_OTPCNT => fi 0 16 .rc .none none .owner
  | .CAN_CTL_EN => fi 0 1 .rw .live none .owner
  | .CAN_CTL_FDOE => fi 1 1 .rw .quiet none .owner
  | .CAN_CTL_XLOE => fi 2 1 .rw .quiet none .owner
  | .CAN_CTL_TMS => fi 3 1 .rw .quiet none .owner
  | .CAN_CTL_LISTEN => fi 4 1 .rw .quiet none .owner
  | .CAN_CTL_LOOP => fi 5 1 .rw .quiet none .owner
  | .CAN_CTL_TERM => fi 6 1 .rw .live none .owner
  | .CAN_CTL_RECOVER => fi 7 1 .wo .live none .owner
  | .CAN_STAT_STATE => fi 0 3 .ro .none none .owner
  | .CAN_STAT_EWARN => fi 3 1 .ro .none none .owner
  | .CAN_STAT_PASSEVT => fi 4 1 .w1c .none none .owner
  | .CAN_STAT_BOEVT => fi 5 1 .w1c .none none .owner
  | .CAN_STAT_STRANDED => fi 6 1 .ro .none none .owner
  | .CAN_STAT_REFUSED => fi 7 1 .w1c .none none .owner
  | .CAN_STAT_PXE => fi 8 1 .w1c .none none .owner
  | .CAN_STAT_TDCERR => fi 9 1 .w1c .none none .owner
  | .CAN_STAT_RINGOVF => fi 10 1 .w1c .none none .owner
  | .CAN_STAT_STAGEOVF => fi 11 1 .w1c .none none .owner
  | .CAN_STAT_DONEFULL => fi 12 1 .ro .none none .owner
  | .CAN_STAT_NOREL => fi 13 1 .w1c .none none .owner
  | .CAN_STAT_DONEEVT => fi 14 1 .w1c .none none .owner
  | .CAN_STAT_RXEVT => fi 15 1 .w1c .none none .owner
  | .CAN_STAT_CFGERR => fi 16 4 .ro .none none .owner
  | .CAN_ECNT_TEC => fi 0 9 .ro .none none .owner
  | .CAN_ECNT_REC => fi 16 8 .ro .none none .owner
  | .CAN_NBT_NBRP => fr 0 6 .rw .quiet none .owner 1 32
  | .CAN_NBT_NTSEG1 => fr 6 9 .rw .quiet none .owner 2 256
  | .CAN_NBT_NTSEG2 => fr 15 7 .rw .quiet none .owner 1 128
  | .CAN_NBT_NSJW => fr 22 7 .rw .quiet none .owner 1 128
  | .CAN_DBT_DBRP => fr 0 6 .rw .quiet none .owner 1 32
  | .CAN_DBT_DTSEG1 => fr 6 5 .rw .quiet none .owner 1 32
  | .CAN_DBT_DTSEG2 => fr 11 5 .rw .quiet none .owner 1 16
  | .CAN_DBT_DSJW => fr 16 5 .rw .quiet none .owner 1 16
  | .CAN_XBT_DBRP => fr 0 6 .rw .quiet none .owner 1 32
  | .CAN_XBT_DTSEG1 => fr 6 5 .rw .quiet none .owner 1 32
  | .CAN_XBT_DTSEG2 => fr 11 5 .rw .quiet none .owner 1 16
  | .CAN_XBT_DSJW => fr 16 5 .rw .quiet none .owner 1 16
  | .CAN_TDCF_TDCE => fi 0 1 .rw .quiet none .owner
  | .CAN_TDCF_TDCO => fi 1 7 .rw .quiet none .owner
  | .CAN_TDCF_TDCF => fi 8 7 .rw .quiet none .owner
  | .CAN_TDCF_TDCV => fi 16 7 .ro .none none .owner
  | .CAN_TDCX_TDCE => fi 0 1 .rw .quiet none .owner
  | .CAN_TDCX_TDCO => fi 1 7 .rw .quiet none .owner
  | .CAN_TDCX_TDCF => fi 8 7 .rw .quiet none .owner
  | .CAN_TDCX_TDCV => fi 16 7 .ro .none none .owner
  | .CAN_PWM_PWMS => fr 0 6 .rw .quiet none .owner 1 63
  | .CAN_PWM_PWML => fr 8 6 .rw .quiet none .owner 1 63
  | .CAN_PWM_PWMO => fi 16 6 .rw .quiet none .owner
  | .CAN_CTRLCFG_CTRL => fi 0 1 .rw .quiet (some 3) .owner
  | .CAN_CTRLCFG_NODE => fr 1 7 .rw .quiet (some 3) .owner 1 127
  | .CAN_CTRLCFG_LEVEL => fi 8 3 .rw .quiet none .owner
  | .CAN_TXPOOL_PSZ => fr 0 3 .rw .quiet none .owner 0 4
  | .CAN_TXPOOL_NTX => fr 8 8 .rw .quiet none .owner 1 255
  | .CAN_TXQ_PUSH_LEVEL => fi 0 3 .wo .live none .owner
  | .CAN_TXQ_RESULT_CODE => fi 0 4 .ro .none none .owner
  | .CAN_TXQ_RESULT_BUSY => fi 4 1 .ro .none none .owner
  | .CAN_TXQ_CMD_OP => fi 0 3 .wo .live none .owner
  | .CAN_TXQ_CMD_LEVEL => fi 3 3 .wo .live none .owner
  | .CAN_TXQ_CMD_DEST => fi 6 4 .wo .live none .owner
  | .CAN_TXQ_CMD_DLEVEL => fi 10 3 .wo .live none .owner
  | .CAN_TXQ_CMDRES_CODE => fi 0 4 .ro .none none .owner
  | .CAN_TXQ_CMDRES_BUSY => fi 4 1 .ro .none none .owner
  | .CAN_TXQ_CMDRES_COUNT => fi 8 8 .ro .none none .owner
  | .CAN_TXQ_LVL_COUNT => fi 0 8 .ro .none none .owner
  | .CAN_TXQ_LVL_HELD => fi 8 1 .ro .none none .owner
  | .CAN_TXQ_LVL_STRANDED => fi 9 1 .ro .none none .owner
  | .CAN_TXQ_LVL_ACTIVE => fi 10 1 .ro .none none .owner
  | .CAN_TXDONE_WR => fi 0 6 .ro .none none .owner
  | .CAN_TXDONE_RD => fi 0 6 .rw .live none .owner
  | .CAN_RINGCFG_PSZ => fr 0 3 .rw .quiet none .owner 0 4
  | .CAN_RINGCFG_DEPTH => { fr 8 8 .rw .quiet none .owner 2 255 with zeroToo := true }
  | .CAN_RINGCFG_WORLD => fr 16 2 .rw .quiet (some 0) .secure 0 2
  | .CAN_RING_WR => fi 0 8 .ro .none none .owner
  | .CAN_RING_RD => fi 0 8 .rw .live none .ring
  | .CAN_LEC_CODE => fi 0 3 .ro .none none .owner
  | .CAN_LEC_DATA => fi 3 1 .ro .none none .owner
  | .CAN_CNT_RX => fi 0 32 .rc .none none .owner
  | .CAN_CNT_TX => fi 0 32 .rc .none none .owner
  | .CAN_CNT_ERR => fi 0 32 .rc .none none .owner
  | .CAN_RING_OVF => fi 0 32 .rc .none none .owner
  | .CAN_STAGE_OVF => fi 0 32 .rc .none none .owner
  | .WE_CTL_EN => fi 0 1 .rw .live none .any
  | .WE_CTL_MISS => fi 1 1 .rw .live none .any
  | .WE_STAT_REFUSED => fi 0 1 .w1c .none none .any
  | .WE_STAT_FWDDROP => fi 1 1 .w1c .none none .any
  | .WE_STAT_REVOKED => fi 2 1 .w1c .none none .any
  | .WE_SEGMAP => fi 0 32 .rw .quiet none .any
  | .WE_GEN => fi 0 24 .ro .none none .any
  | .WE_DRAIN_GEN => fi 0 24 .rw .live none .any
  | .WE_DRAIN_DONE => fi 31 1 .ro .none none .any
  | .WE_STAGE => fi 0 32 .rw .live none .any
  | .WE_ENT_CMD_INDEX => fi 0 12 .wo .live none .any
  | .WE_ENT_CMD_OP => fi 12 2 .wo .live none .any
  | .WE_ENT_CMD_TBL => fi 14 1 .wo .live none .any
  | .WE_ENT_RESULT_CODE => fi 0 4 .ro .none none .any
  | .WE_ENT_RDIDX_INDEX => fi 0 12 .rw .live none .any
  | .WE_ENT_RDIDX_TBL => fi 12 1 .rw .live none .any
  | .WE_ENT_RD => fi 0 32 .ro .none none .any
  | .WE_CNT_MISS => fi 0 32 .rc .none none .any
  | .WE_CNT_FWDDROP => fi 0 32 .rc .none none .any
  | .WE_CNT_ASLEEP => fi 0 32 .rc .none none .any
  | .WE_CNT_REVOKED => fi 0 32 .rc .none none .any
  | .WE_CNT_XLETH => fi 0 32 .rc .none none .any
  | .WE_CNT_ETHDROP => fi 0 32 .rc .none none .any
  | .WE_CNT_ETHSEQ => fi 0 32 .rc .none none .any
  | .WE_SLP_ID_ID => fi 0 11 .rw .live none .safeSec
  | .WE_SLP_ID_VOTEBASE => fi 16 11 .rw .live none .safeSec
  | .WE_SLP_ID_LEVEL => fi 28 3 .rw .live none .safeSec
  | .WE_SLP_CTL_REQ => fi 0 1 .rw .live none .safeSec
  | .WE_SLP_CTL_WAKE => fi 1 1 .wo .live none .any
  | .WE_SLP_STAT_STATE => fi 0 3 .ro .none none .any
  | .WE_SLP_STAT_ROUND => fi 3 8 .ro .none none .any
  | .WE_SLP_STAT_RESULT => fi 11 3 .ro .none none .any
  | .WE_SLP_STAT_WAKESRC => fi 14 4 .ro .none none .any
  | .WE_SLP_TIMES_VOTEW => fr 0 10 .rw .live none .safeSec 1 1000
  | .WE_SLP_TIMES_COMMITW => fr 10 10 .rw .live none .safeSec 1 1000
  | .WE_SLP_TIMES_RETRY => fi 20 8 .rw .live none .safeSec
  | .WE_HOLDCNT => fi 0 16 .rc .none none .any
  | .XCVR_VOTERS => fi 0 32 .rw .live none .safeSec
  | .WE_HOLD => fi 0 32 .ro .none none .any
  | .WE_SILENT => fi 0 32 .ro .none none .any
  | .XCVR_CTL_WAKEEN => fi 0 1 .rw .live none .safety
  | .XCVR_STAT_MODE => fi 0 2 .ro .none none .safety
  | .XCVR_STAT_INH => fi 2 1 .ro .none none .safety
  | .XCVR_STAT_WUP => fi 3 1 .w1c .none none .safety
  | .XCVR_STAT_FAULT => fi 4 1 .w1c .none none .safety
  | .XCVR_WAKEMAP => fi 0 8 .rw .live none .safety
  | .XCVR_WAKELOG_SRC => fi 0 4 .ro .none none .safety
  | .XCVR_WAKELOG_INDEX => fi 4 4 .ro .none none .safety
  | .XCVR_HOLD_RUN => fi 0 1 .ro .none none .safety
  | .CF_CTL_EN => fi 0 1 .rw .live none .cfGlobal
  | .CF_CTL_AGE => { fr 16 16 .rw .live none .cfGlobal 10 65535 with zeroToo := true }
  | .CF_STAT_REFUSED => fi 0 1 .w1c .none none .cfGlobal
  | .CF_STAT_CLAIM => fi 1 1 .ro .none none .cfGlobal
  | .CF_STAT_STOMP => fi 2 1 .w1c .none none .cfGlobal
  | .CF_GEN => fi 0 24 .ro .none none .cfGlobal
  | .CF_DRAIN_GEN => fi 0 24 .rw .live none .cfGlobal
  | .CF_DRAIN_DONE => fi 31 1 .ro .none none .cfGlobal
  | .CF_OWNMAC_LO => fi 0 32 .ro .none none .cfGlobal
  | .CF_OWNMAC_HI => fi 0 16 .ro .none none .cfGlobal
  | .CF_BUF_FREE => fi 0 17 .ro .none none .cfGlobal
  | .CF_CNT_LEARNFULL => fi 0 32 .rc .none none .cfGlobal
  | .CF_CNT_STOMP => fi 0 32 .rc .none none .cfGlobal
  | .CF_STAGE => fi 0 32 .rw .live none .cfGlobal
  | .CF_TBL_CMD_INDEX => fi 0 13 .wo .live none .cfGlobal
  | .CF_TBL_CMD_OP => fi 13 2 .wo .live none .cfGlobal
  | .CF_TBL_CMD_TBL => fi 16 2 .wo .live none .cfGlobal
  | .CF_TBL_RESULT_CODE => fi 0 4 .ro .none none .cfGlobal
  | .CF_PTP_CTL_SYNC => fi 0 1 .rw .live none .ptp
  | .CF_PTP_CTL_SET => fi 1 1 .wo .live none .ptp
  | .CF_PTP_CTL_HOLD => fr 2 8 .rw .live none .ptp 1 255
  | .CF_PTP_CTL_WORLD => fr 16 2 .rw .live (some 0) .secure 0 2
  | .CF_PTP_SEC_LO => fi 0 32 .rw .live none .ptp
  | .CF_PTP_SEC_HI => fi 0 16 .rw .live none .ptp
  | .CF_PTP_NS => fi 0 30 .rw .live none .ptp
  | .CF_PTP_ADJ => fi 0 32 .rw .live none .ptp
  | .CF_PTP_STEP => fi 0 32 .wo .live none .ptp
  | .HQ_BASE_LO => { fi 0 32 .rw .quiet none .hq with align := 64 }
  | .HQ_BASE_HI => fi 0 8 .rw .quiet none .hq
  | .HQ_CFG_SIZE => fr 0 4 .rw .quiet none .hq 0 6
  | .HQ_CFG_WORLD => fr 4 2 .rw .quiet (some 0) .secure 0 2
  | .HQ_CFG_EN => fi 8 1 .rw .live none .hq
  | .HQ_HEAD => fi 0 12 .ro .none none .cfGlobal
  | .HQ_TAIL => fi 0 12 .rw .live none .hq
  | .HQ_DROP => fi 0 32 .rc .none none .cfGlobal
  | .CFP_CTL_EN => fi 0 1 .rw .live none .port
  | .CFP_CTL_SPEED => fi 1 1 .rw .quiet none .port
  | .CFP_CTL_ROLE => fi 2 1 .rw .quiet none .port
  | .CFP_CTL_LEARN => fi 3 1 .rw .live none .port
  | .CFP_CTL_HQDEF => fi 4 4 .rw .live none .port
  | .CFP_STAT_LINK => fi 0 1 .ro .none none .cfGlobal
  | .CFP_STAT_LINKEVT => fi 1 1 .w1c .none none .port
  | .CFP_VLAN_PVID => fi 0 12 .rw .live none .port
  | .CFP_VLAN_DPCP => fi 12 3 .rw .live none .port
  | .CFP_VLAN_ACCEPT => fr 16 2 .rw .live none .port 0 2
  | .CFP_VLAN_IFILT => fi 18 1 .rw .live none .port
  | .CFP_MAXLEN => fr 0 14 .rw .quiet none .port 1522 9216
  | .CFP_QMAP => fi 0 24 .rw .live none .port
  | .CFP_POL_CIR => fr 0 14 .rw .live none .port 0 10000
  | .CFP_POL_CBS => fr 0 21 .rw .live none .port 1536 1048576
  | .CFP_STORM_BC => fi 0 10 .rw .live none .port
  | .CFP_STORM_UU => fi 10 10 .rw .live none .port
  | .CFP_STORM_MC => fi 20 10 .rw .live none .port
  | .CFP_SAMPLE_N => fi 0 16 .rw .live none .port
  | .CFP_SAMPLE_HQ => fi 16 4 .rw .live none .port
  | .CFP_PTPCOMP => fi 0 16 .rw .live none .port
  | .CFP_QLIM_MIN => fi 0 16 .rw .quiet none .port
  | .CFP_QLIM_MAX => fi 16 16 .rw .quiet none .port
  | .CFP_CNT_RXOK => fi 0 32 .rc .none none .cfGlobal
  | .CFP_CNT_RXFCS => fi 0 32 .rc .none none .cfGlobal
  | .CFP_CNT_RXLEN => fi 0 32 .rc .none none .cfGlobal
  | .CFP_CNT_RXDROP => fi 0 32 .rc .none none .cfGlobal
  | .CFP_CNT_POLICED => fi 0 32 .rc .none none .cfGlobal
  | .CFP_CNT_STORM => fi 0 32 .rc .none none .cfGlobal
  | .CFP_CNT_BUFDROP => fi 0 32 .rc .none none .cfGlobal
  | .CFP_CNT_TXOK => fi 0 32 .rc .none none .cfGlobal
  | .CFP_CNT_FLUSH => fi 0 32 .rc .none none .cfGlobal
  | .CFP_CNT_STBY => fi 0 32 .rc .none none .cfGlobal
  | .CFP_CNT_REVOKED => fi 0 32 .rc .none none .cfGlobal
  | .CFP_CNT_SAMPLED => fi 0 32 .rc .none none .cfGlobal
  | .BR_CTL_MODE => fi 0 1 .rw .quiet none .safety
  | .BR_CTL_TEST => fi 1 1 .rw .live none .safety
  | .BR_CTL_AUTOSYNC => fi 2 1 .rw .live none .safety
  | .BR_CTL_CMPWIN => fr 8 8 .rw .turn none .safety 1 255
  | .BR_STAT_STATE => fi 0 4 .ro .none none .safety
  | .BR_STAT_UNIT => fi 4 1 .ro .none none .safety
  | .BR_STAT_SEATED => fi 5 1 .ro .none none .safety
  | .BR_STAT_CLAIM => fi 6 1 .ro .none none .safety
  | .BR_STAT_PCLAIM => fi 7 1 .ro .none none .safety
  | .BR_STAT_P9OK => fi 8 1 .ro .none none .safety
  | .BR_STAT_HBOK => fi 9 1 .ro .none none .safety
  | .BR_STAT_CLAIMFAULT => fi 10 1 .w1c .none none .safety
  | .BR_STAT_DIVERGE => fi 11 1 .w1c .none none .safety
  | .BR_STAT_FMTDIFF => fi 12 1 .ro .none none .safety
  | .BR_STAT_JFULL => fi 13 1 .ro .none none .safety
  | .BR_STAT_TAKEOVER => fi 14 1 .w1c .none none .safety
  | .BR_STAT_INDIFF => fi 15 1 .w1c .none none .safety
  | .BR_STAT_REFUSED => fi 16 1 .w1c .none none .safety
  | .BR_STAT_FENCING => fi 17 1 .ro .none none .safety
  | .BR_STAT_SENSEDIFF => fi 18 1 .w1c .none none .safety
  | .BR_STAT_ISOLATED => fi 19 1 .w1c .none none .safety
  | .BR_STAT_LAG => fi 20 1 .w1c .none none .safety
  | .BR_STAT_LOCKDIFF => fi 21 1 .w1c .none none .safety
  | .BR_CMD_SYNC => fi 0 1 .wo .live none .safety
  | .BR_CMD_SWAP => fi 1 1 .wo .live none .safety
  | .BR_CMD_RELEASE => fi 2 1 .wo .live none .safety
  | .BR_CMD_ADOPT => fi 3 1 .wo .live none .safety
  | .BR_KEEP => fi 0 32 .wo .live none .safety
  | .BR_FENCE_FENCECH => fi 0 16 .rw .quiet none .safety
  | .BR_FENCE_FENCEID => fi 16 11 .rw .quiet none .safety
  | .BR_EPOCH => fi 0 32 .ro .none none .safety
  | .BR_CONFGEN => fi 0 32 .ro .none none .safety
  | .BR_CONFSUM => fi 0 32 .ro .none none .safety
  | .BR_MIRFMT => fi 0 8 .ro .none none .safety
  | .BR_PAIRMAC_LO => fi 0 32 .ro .none none .safety
  | .BR_PAIRMAC_HI => fi 0 16 .ro .none none .safety
  | .BR_HEALTH => fi 0 32 .ro .none none .safety
  | .BR_PEER => fi 0 8 .ro .none none .safety
  | .BR_PEER_EPOCH => fi 0 32 .ro .none none .safety
  | .BR_PEER_CONFGEN => fi 0 32 .ro .none none .safety
  | .BR_PEER_HEALTH => fi 0 32 .ro .none none .safety
  | .BR_SEQ_LO => fi 0 32 .ro .none none .safety
  | .BR_SEQ_HI => fi 0 16 .ro .none none .safety
  | .BR_JOPEN_LO => fi 0 32 .ro .none none .safety
  | .BR_JOPEN_HI => fi 0 16 .ro .none none .safety
  | .BR_JUSED => fi 0 24 .ro .none none .safety
  | .BR_LAG => fi 0 16 .ro .none none .safety
  | .BR_TKO_LO => fi 0 32 .ro .none none .safety
  | .BR_TKO_HI => fi 0 32 .ro .none none .safety
  | .BR_TKO_CAUSE => fi 0 4 .ro .none none .safety
  | .BR_CNT_P9MISS => fi 0 32 .rc .none none .safety
  | .BR_CNT_HBMISS => fi 0 32 .rc .none none .safety
  | .BR_CNT_REPLAY => fi 0 32 .rc .none none .safety
  | .BR_CNT_BADREC => fi 0 32 .rc .none none .safety
  | .BR_CNT_INDIFF => fi 0 32 .rc .none none .safety
  | .BR_CNT_DIVERGE => fi 0 32 .rc .none none .safety
  | .BR_CNT_TAKEOVER => fi 0 32 .rc .none none .safety
  | .BR_STATE_ADDR_LO => { fi 0 32 .rw .quiet none .safety with align := 64 }
  | .BR_STATE_ADDR_HI => fi 0 8 .rw .quiet none .safety
  | .BR_STATE_LEN => fi 0 28 .rw .quiet none .safety
  | .BR_STATE_CTL_READY => fi 0 1 .wo .live none .safety
  | .BR_STATE_CTL_DONE => fi 1 1 .ro .none none .safety
  | .SYS_PWR_CMD_REQ => fi 0 3 .wo .live none .any
  | .SYS_PWR_STAT_STATE => fi 0 3 .ro .none none .any
  | .SYS_PWR_STAT_PENDING => fi 3 1 .ro .none none .any
  | .SYS_PWR_STAT_WHY => fi 4 4 .ro .none none .any
  | .SYS_PWR_STAT_REFUSED => fi 8 1 .w1c .none none .any
  | .SYS_SLPTO => fr 0 8 .rw .live none .safeSec 1 255
  | .SYS_RST_FULL => fi 0 1 .wo .live none .safeSec
  | .SYS_RSTCAUSE_CAUSE => fi 0 4 .ro .none none .any
  | .SYS_START_JTORN => fi 0 1 .ro .none none .any
  | .SYS_START_CTLBLK => fi 1 1 .ro .none none .any
  | .SYS_START_EETORN => fi 2 1 .ro .none none .any
  | .SYS_START_ACTREC => fi 3 1 .ro .none none .any
  | .SYS_START_KEYLESS => fi 4 1 .ro .none none .any
  | .SYS_START_LATE => fi 5 1 .ro .none none .any
  | .SYS_START_SERVED => fi 8 4 .ro .none none .any
  | .SYS_T_SAFE => fi 0 16 .ro .none none .any
  | .SYS_T_FULL => fi 0 16 .ro .none none .any
  | .SYS_WAKE_CHECK => fi 0 1 .wo .live none .safeSec
  | .SYS_WAKE_RESTORE => fi 1 1 .ro .none none .any
  | .SYS_WAKE_RESULT => fi 2 2 .ro .none none .any
  | .LS_CTL_SRCPAIR => fi 0 1 .rw .live none .lsCtl
  | .LS_STAT_ERR => fi 0 1 .ro .none none .any
  | .LS_STAT_CAUSE => fi 1 2 .ro .none none .any
  | .LS_STAT_DBGBRK => fi 3 1 .ro .none none .any
  | .LS_STAT_STFAIL => fi 4 1 .w1c .none none .any
  | .LS_STAT_REFUSED => fi 5 1 .w1c .none none .any
  | .LS_STAT_FROZEN => fi 6 1 .ro .none none .any
  | .LS_STAT_RESTARTS => fi 8 8 .ro .none none .any
  | .LS_CMD_RESTART => fi 0 1 .wo .live none .otherPair
  | .LS_CMD_SELFTEST => fi 1 1 .wo .live none .otherPair
  | .LS_PC => fi 0 32 .ro .none none .any
  | .MEM_CE => fi 0 32 .rc .none none .any
  | .MEM_UE_ADDR_LO => fi 0 32 .ro .none none .any
  | .MEM_UE_ADDR_HI => fi 0 8 .ro .none none .any
  | .MEM_UE_INFO_MASTER => fi 0 8 .ro .none none .any
  | .MEM_UE_INFO_MEM => fi 8 4 .ro .none none .any
  | .MEM_UE_INFO_EVT => fi 31 1 .w1c .none none .any
  | .HW_STAT_READY => fi 0 1 .ro .none none .any
  | .HW_STAT_KEYLESS => fi 1 1 .ro .none none .any
  | .HW_STAT_PUFFAIL => fi 2 1 .ro .none none .any
  | .HW_STAT_MEASFAIL => fi 3 1 .ro .none none .any
  | .HW_STAT_TRNGFAIL => fi 4 1 .ro .none none .any
  | .HW_STAT_LOSTBLK => fi 5 1 .w1c .none none .secure
  | .HW_STAT_REFUSED => fi 6 1 .w1c .none none .secure
  | .HW_STAT_RESTARTS => fi 8 8 .ro .none none .any
  | .HW_CMD_RESTART => fi 0 1 .wo .live none .safeSec
  | .HW_USE => fi 0 7 .ro .none none .any
  | .HW_DBG_NNID => fi 0 1 .rw .live (some 2) .secure
  | .HW_DBG_NID => fi 1 1 .rw .live (some 2) .secure
  | .HW_DBG_SNID => fi 2 1 .rw .live (some 2) .secure
  | .HW_DBG_SID => fi 3 1 .rw .live (some 2) .secure
  | .HW_DBG_XNID => fi 4 1 .rw .live (some 2) .secure
  | .HW_DBG_XID => fi 5 1 .rw .live (some 2) .secure
  | .HW_REMASK => fr 0 7 .rw .live none .secure 1 100
  | .WA_SL => fi 0 32 .rw .quiet (some 0) .secure
  | .WA_IO => fi 0 32 .rw .quiet (some 0) .secure
  | .WA_CAN => fi 0 32 .rw .quiet (some 0) .secure
  | .WA_PORT => fi 0 32 .rw .quiet (some 0) .secure
  | .WA_MRIRQ => fi 0 32 .rw .quiet (some 0) .secure
  | .HW_MEASLOG => fi 0 32 .ro .none none .any
  | .TP_CFG => fi 0 32 .rw .live (some 0) .secure
  | .TP_STAT_LATCH => fi 0 8 .w1c .none none .secure
  | .TP_STAT_LIVE => fi 8 8 .ro .none none .any
  | .TP_STAT_ZEROISED => fi 16 1 .ro .none none .any
  | .TP_CNT => fi 0 16 .rc .none none .any
  | .HW_RGN_BASE_LO => { fi 0 32 .rw .live (some 0) .secure with align := 4096 }
  | .HW_RGN_BASE_HI => fi 0 8 .rw .live (some 0) .secure
  | .HW_RGN_SIZE => fi 0 28 .rw .live (some 0) .secure
  | .HW_RGN_PERM_N => fi 0 3 .rw .live (some 0) .secure
  | .HW_RGN_PERM_S => fi 3 3 .rw .live (some 0) .secure
  | .HW_RGN_PERM_VALID => fi 31 1 .rw .live (some 0) .secure
  | .LK_SET => fi 0 5 .w1s .live none .any
  | .LK_STAT_LOCKS => fi 0 5 .ro .none none .any
  | .LK_STAT_RESTORE => fi 5 1 .ro .none none .any
  | .LK_STAT_REFUSED => fi 8 1 .w1c .none none .any
  | .FY_STAT_UP => fi 0 4 .ro .none none .any
  | .FY_STAT_REACH => fi 4 4 .ro .none none .any
  | .FY_STAT_ERR => fi 8 1 .w1c .none none .any
  | .FY_LINK_STATE => fi 0 2 .ro .none none .any
  | .FY_LINK_CRCERR => fi 8 8 .rc .none none .any
  | .FY_LINK_RETRAIN => fi 16 8 .rc .none none .any
  | .FY_POSTEN_PAIR0 => fi 0 1 .rw .live (some 1) .secure
  | .FY_POSTEN_PAIR1 => fi 1 1 .rw .live (some 1) .secure
  | .FY_POSTEN_HW => fi 2 1 .rw .live (some 1) .secure
  | .FY_RDTO => fr 0 10 .rw .live none .safety 10 1000
  | .FY_ELOG_OVF => fi 0 16 .rc .none none .any
  | .FY_ELOG_A_DIE => fi 0 2 .ro .none none .any
  | .FY_ELOG_A_OFFSET => fi 2 15 .ro .none none .any
  | .FY_ELOG_A_VALID => fi 31 1 .w1c .none none .any
  | .FY_ELOG_B_MASTER => fi 0 8 .ro .none none .any
  | .FY_ELOG_B_TAG => fi 8 8 .ro .none none .any
  | .FY_ELOG_B_CODE => fi 16 4 .ro .none none .any
  | .FY_ELOG_STAMP => fi 0 32 .ro .none none .any
  | .FG_SRC => fi 0 32 .rw .live (some 4) .safety
  | .FG_MASK => fi 0 32 .rw .live (some 4) .safety
  | .FG_ACT => fi 0 32 .rw .live (some 4) .safety
  | .FG_CNT => fi 0 16 .rc .none none .safety
  | .FG_CTL_EN => fi 0 1 .rw .live (some 4) .safety
  | .FG_STAT_REFUSED => fi 0 1 .w1c .none none .safety
  | .FG_STAT_FIRED => fi 1 1 .w1c .none none .safety
  | .FG_STAT_STANDBY => fi 2 1 .ro .none none .safety
  | .FG_FIRED_LO => fi 0 32 .w1c .none none .safety
  | .FG_FIRED_HI => fi 0 32 .w1c .none none .safety
  | .FG_SWTRIG => fi 0 32 .wo .live none .safety
  | .ED_TX_LO => fi 0 32 .wo .live none .eddyOwner
  | .ED_TX_HI => fi 0 32 .wo .live none .eddyOwner
  | .ED_TX_STAT_COUNT => fi 0 3 .ro .none none .eddyOwner
  | .ED_TX_STAT_EMPTYEVT => fi 3 1 .w1c .none none .eddyOwner
  | .ED_TX_STAT_TIMEOUT => fi 4 1 .w1c .none none .eddyOwner
  | .ED_TX_STAT_REFUSED => fi 5 1 .w1c .none none .eddyOwner
  | .ED_TX_DOORBELL => fi 0 1 .wo .live none .eddyOwner
  | .ED_TX_TMO => fr 0 20 .rw .live none .eddyOwner 1 1000000
  | .ED_RX_LO => fi 0 32 .ro .none none .eddyOwner
  | .ED_RX_HI => fi 0 32 .ro .none none .eddyOwner
  | .ED_RX_STAT_COUNT => fi 0 3 .ro .none none .eddyOwner
  | .ED_RX_STAT_RING => fi 3 1 .w1c .none none .eddyOwner
  | .ED_RX_STAT_TIMEOUT => fi 4 1 .w1c .none none .eddyOwner
  | .ED_RX_POP => fi 0 1 .wo .live none .eddyOwner
  | .ED_IE_RX => fi 0 8 .rw .live none .eddyOwner
  | .ED_IE_EMPTY => fi 8 8 .rw .live none .eddyOwner
  | .LK_REG => fi 0 32 .rw .live none .any
  | .LK_BADREL_LO => fi 0 32 .w1c .none none .any
  | .LK_BADREL_HI => fi 0 32 .w1c .none none .any
  | .DM_CTL_EN => fi 0 1 .rw .live none .normSafe
  | .DM_STAT_REFUSED => fi 0 1 .w1c .none none .normSafe
  | .DM_STAT_RSTDONE => fi 1 1 .w1c .none none .normSafe
  | .DM_STAT_INFL => fi 8 7 .ro .none none .normSafe
  | .DM_FRESET_FUNC => fi 0 5 .wo .live none .normSafe
  | .DM_RSTBUSY => fi 0 32 .ro .none none .normSafe
  | .DM_RSTDONE => fi 0 32 .w1c .none none .normSafe
  | .DM_CNT_OPS => fi 0 32 .rc .none none .normSafe
  | .DM_CNT_SQUASH => fi 0 32 .rc .none none .normSafe
  | .DM_CNT_NOTEXEC => fi 0 32 .rc .none none .normSafe
  | .DM_CNT_DBREF => fi 0 32 .rc .none none .normSafe
  | .DM_QCFG_FUNC => fi 0 5 .rw .quiet none .normSafe
  | .DM_QCFG_CLASS => fi 8 2 .rw .quiet none .normSafe
  | .DM_QCFG_SHARE => fr 16 8 .rw .live none .normSafe 1 255
  | .DM_QCFG_RSTMODE => fi 24 1 .rw .live none .normSafe
  | .DM_FCFG_WORLD => fr 0 2 .rw .quiet (some 0) .secure 0 2
  | .DM_FCFG_MAXINFL => fr 8 7 .rw .live none .normSafe 1 64
  | .DM_FCFG_EN => fi 16 1 .rw .live none .normSafe
  | .DM_EMMC_BASE => fi 0 32 .rw .quiet none .normSafe
  | .DM_EMMC_COUNT => fi 0 32 .rw .quiet none .normSafe
  | .DM_WIN_BASE_LO => { fi 0 32 .rw .quiet none .normSafe with align := 4096 }
  | .DM_WIN_BASE_HI => fi 0 8 .rw .quiet none .normSafe
  | .DM_WIN_SIZE_LO => { fi 0 32 .rw .quiet none .normSafe with align := 4096 }
  | .DM_WIN_SIZE_HI => fi 0 8 .rw .quiet none .normSafe
  | .DF_STAT_INFL => fi 0 7 .ro .none none .fnOwner
  | .DF_STAT_RESET => fi 8 1 .ro .none none .fnOwner
  | .DF_INT_CPL => fi 0 1 .w1c .none none .fnOwner
  | .DF_INT_RSTDONE => fi 1 1 .w1c .none none .fnOwner
  | .DF_INT_REFUSED => fi 2 1 .w1c .none none .fnOwner
  | .DF_INT_FAULT => fi 3 1 .w1c .none none .fnOwner
  | .DF_IE => fi 0 4 .rw .live none .fnOwner
  | .DQ_CTL_EN => fi 0 1 .rw .live none .fnOwner
  | .DQ_RING_LO => { fi 0 32 .rw .quiet none .fnOwner with align := 64 }
  | .DQ_RING_HI => fi 0 8 .rw .quiet none .fnOwner
  | .DQ_SIZE => fr 0 4 .rw .quiet none .fnOwner 0 8
  | .DQ_CPL_LO => { fi 0 32 .rw .quiet none .fnOwner with align := 32 }
  | .DQ_CPL_HI => fi 0 8 .rw .quiet none .fnOwner
  | .DQ_HEAD => fi 0 12 .ro .none none .fnOwner
  | .DQ_TAIL => fi 0 12 .rw .live none .fnOwner
  | .DQ_DBRES_CODE => fi 0 4 .ro .none none .fnOwner
  | .DQ_DBRES_BUSY => fi 4 1 .ro .none none .fnOwner
  | .DQ_CWR => fi 0 12 .ro .none none .fnOwner
  | .DQ_CRD => fi 0 12 .rw .live none .fnOwner
  | .DQ_STAT_PEND => fi 0 13 .ro .none none .fnOwner
  | .DQ_STAT_OVERSHARE => fi 13 1 .ro .none none .fnOwner
  | .DQ_STAT_CFULL => fi 14 1 .ro .none none .fnOwner
  | .DQ_STAT_DRAINTO => fi 15 1 .w1c .none none .fnOwner
  | .DQ_STAT_NOTEXEC => fi 16 13 .ro .none none .fnOwner
  | .OD_CTL_SDO => fi 0 1 .rw .live none .safeSec
  | .OD_CTL_DOP => fi 1 1 .rw .live none .safeSec
  | .OD_CTL_SVC => fi 2 1 .rw .live none .safeSec
  | .OD_STAT_REFUSED => fi 0 1 .w1c .none none .safeSec
  | .OD_STAT_BUSYEVT => fi 1 1 .w1c .none none .safeSec
  | .OD_CNT_REQ => fi 0 32 .rc .none none .safeSec
  | .OD_CNT_ABORT => fi 0 32 .rc .none none .safeSec
  | .OD_CNT_BUSY => fi 0 32 .rc .none none .safeSec
  | .OD_QDEPTH_P => fi 0 5 .ro .none none .safeSec
  | .OD_QDEPTH_E => fi 5 5 .ro .none none .safeSec
  | .OD_QDEPTH_S => fi 10 5 .ro .none none .safeSec
  | .OD_QDEPTH_B => fi 15 5 .ro .none none .safeSec
  | .OD_QDEPTH_I => fi 20 5 .ro .none none .safeSec
  | .OD_OVR_FIRST => fi 0 16 .rw .live (some 3) .safeSec
  | .OD_OVR_LAST => fi 16 16 .rw .live (some 3) .safeSec
  | .OD_OVR_NOREAD => fi 0 5 .rw .live (some 3) .safeSec
  | .OD_OVR_NOWRITE => fi 8 5 .rw .live (some 3) .safeSec
  | .OD_OVR_VALID => fi 31 1 .rw .live (some 3) .safeSec
  | .UPD_CMD_OP => fi 0 3 .wo .live none .safeSec
  | .UPD_CMD_UNIT => fi 4 2 .wo .live none .safeSec
  | .UPD_CTL_RESUME => fi 0 1 .rw .live none .safeSec
  | .UPD_STAT_STATE => fi 0 3 .ro .none none .safeSec
  | .UPD_STAT_BANK => fi 3 1 .ro .none none .safeSec
  | .UPD_STAT_TRIAL => fi 4 1 .ro .none none .safeSec
  | .UPD_STAT_TRIALS => fi 5 2 .ro .none none .safeSec
  | .UPD_STAT_RETURNED => fi 7 1 .ro .none none .safeSec
  | .UPD_STAT_FALLBACK => fi 8 1 .ro .none none .safeSec
  | .UPD_STAT_OTHERVALID => fi 9 1 .ro .none none .safeSec
  | .UPD_STAT_CARD => fi 10 1 .ro .none none .safeSec
  | .UPD_STAT_LASTFAIL => fi 11 4 .ro .none none .safeSec
  | .UPD_STAT_MIROTHER => fi 16 8 .ro .none none .safeSec
  | .UPD_RESULT_CODE => fi 0 4 .ro .none none .safeSec
  | .UPD_RESULT_REFUSED => fi 4 1 .w1c .none none .safeSec
  | .UPD_PROGRESS => fi 0 32 .ro .none none .safeSec
  | .UPD_MSEQ_FORCE => fi 0 32 .ro .none none .safeSec
  | .UPD_MSEQ_OTHER => fi 0 32 .ro .none none .safeSec
  | .UPD_CONFIRM_LEFT => fi 0 12 .ro .none none .safeSec
  | .UPD_VER => fi 0 32 .ro .none none .safeSec
  | .UPD_OVER => fi 0 32 .ro .none none .safeSec

/-- Whether a register's whole content is one signed 24-bit quantity (R1: bits [31:24] read as copies of bit 23). -/
def Fld.signed24 : Fld → Bool
  | .SL_FEED_SUM | .SL_FEED_V | .SL_INOW | .SL_TJ => true
  | _ => false

/-- The reset value of each field, for register instance `i` (zero where no line says otherwise). -/
def Fld.reset : Fld → Nat → Nat
  | .MR_CTL_NOM, _ => 1
  | .MR_SLEW, _ => 83886
  | .MR_REFID_ID, _ => 0x010
  | .MR_REFID_BRS, _ => 1
  | .MR_ASSOC_CTL_THR, _ => 1000
  | .MR_EVT_QUOTA0_NORMAL, _ => 256
  | .MR_EVT_QUOTA0_SAFETY, _ => 704
  | .MR_EVT_QUOTA1_SECURE, _ => 64
  | .GA_CTL_ASYNC_OK, _ => 1
  | .GA_GUARD, _ => 0x400000
  | .GA_SILENT, _ => 10
  | .GE_CTL_SCREEN, _ => 1
  | .GE_CTL_NRING, _ => 1
  | .GE_ZFILT, _ => 4
  | .GE_IMIN, _ => 20000
  | .GE_DFMAX, _ => 655
  | .GE_INITTURNS, _ => 50
  | .GE_HOLDI, _ => 5
  | .GE_TSTALE, _ => 50
  | .GE_MEDMIN, _ => 8
  | .GE_ACLASS, _ => 0x001ABB6A
  | .GE_LIM, i => geLimReset i
  | .GE_HYS, i => geHysReset i
  | .GE_PER_SET, _ => 3
  | .GE_PER_CLR, _ => 10
  | .SL_FEED_LIM, _ => 500
  | .SL_FEED_HYS, _ => 20
  | .SL_SHED_T, _ => 100
  | .SL_UV_THR, _ => 140
  | .SL_DIP_THR, _ => 200
  | .SL_WD_TIME, _ => 50
  | .SL_SLEW, _ => 20
  | .SL_ILIM, i => slIlimReset i
  | .SL_ILIM_IN, i => slIlimReset i
  | .SL_PWMF, _ => 200
  | .SL_DUTY, _ => 500
  | .SL_OLTIME, _ => 50
  | .SL_BUDGET_PRIO, _ => 8
  | .SL_RETRY_T, _ => 10
  | .SL_LIMT, _ => 10
  | .SP_WIN, _ => 10
  | .SP_BUDGET, i => spBudgetReset i
  | .IO_EDGE_CTL_NRING, _ => 1
  | .IO_THR, _ => 80
  | .IO_HYS, _ => 10
  | .IO_DEB, _ => 1000
  | .IO_RBT, _ => 5
  | .CAN_CTL_FDOE, _ => 1
  | .CAN_CTL_XLOE, _ => 1
  | .CAN_CTL_TMS, _ => 1
  | .CAN_NBT_NBRP, _ => 1
  | .CAN_NBT_NTSEG1, _ => 127
  | .CAN_NBT_NTSEG2, _ => 32
  | .CAN_NBT_NSJW, _ => 32
  | .CAN_DBT_DBRP, _ => 1
  | .CAN_DBT_DTSEG1, _ => 7
  | .CAN_DBT_DTSEG2, _ => 2
  | .CAN_DBT_DSJW, _ => 2
  | .CAN_XBT_DBRP, _ => 1
  | .CAN_XBT_DTSEG1, _ => 5
  | .CAN_XBT_DTSEG2, _ => 2
  | .CAN_XBT_DSJW, _ => 2
  | .CAN_TDCF_TDCE, _ => 1
  | .CAN_TDCF_TDCO, _ => 8
  | .CAN_TDCX_TDCE, _ => 1
  | .CAN_TDCX_TDCO, _ => 6
  | .CAN_PWM_PWMS, _ => 2
  | .CAN_PWM_PWML, _ => 6
  | .CAN_CTRLCFG_NODE, _ => 1
  | .CAN_CTRLCFG_LEVEL, _ => 1
  | .CAN_TXPOOL_PSZ, _ => 1
  | .CAN_TXPOOL_NTX, _ => 16
  | .CAN_RINGCFG_PSZ, _ => 1
  | .CAN_RINGCFG_DEPTH, i => canDepthReset i
  | .WE_DRAIN_DONE, _ => 1
  | .WE_SLP_ID_ID, _ => 0x020
  | .WE_SLP_ID_VOTEBASE, _ => 0x680
  | .WE_SLP_TIMES_VOTEW, _ => 100
  | .WE_SLP_TIMES_COMMITW, _ => 50
  | .WE_SLP_TIMES_RETRY, _ => 10
  | .XCVR_CTL_WAKEEN, _ => 1
  | .XCVR_STAT_MODE, _ => 2
  | .XCVR_STAT_INH, _ => 1
  | .XCVR_WAKEMAP, _ => 0xFF
  | .XCVR_HOLD_RUN, _ => 1
  | .CF_CTL_AGE, _ => 300
  | .CF_DRAIN_DONE, _ => 1
  | .CF_BUF_FREE, _ => 65536
  | .CF_PTP_CTL_HOLD, _ => 4
  | .CFP_CTL_LEARN, _ => 1
  | .CFP_VLAN_PVID, _ => 1
  | .CFP_VLAN_IFILT, _ => 1
  | .CFP_MAXLEN, _ => 1522
  | .CFP_QMAP, _ => 0xFAC688
  | .CFP_POL_CBS, _ => 16384
  | .CFP_QLIM_MIN, _ => 16
  | .CFP_QLIM_MAX, _ => 8192
  | .BR_CTL_AUTOSYNC, _ => 1
  | .BR_CTL_CMPWIN, _ => 2
  | .BR_FENCE_FENCEID, _ => 0x011
  | .BR_HEALTH, _ => 0x80000000
  | .BR_PEER_HEALTH, _ => 0x80000000
  | .SYS_SLPTO, _ => 30
  | .SYS_RSTCAUSE_CAUSE, _ => 1
  | .HW_REMASK, _ => 4
  | .WA_SL, _ => 0x55555555
  | .WA_IO, _ => 0x55555555
  | .WA_CAN, _ => 0x55555555
  | .WA_PORT, _ => 0x40000
  | .TP_CFG, _ => 0x55573333
  | .FY_POSTEN_PAIR0, _ => 1
  | .FY_POSTEN_PAIR1, _ => 1
  | .FY_POSTEN_HW, _ => 1
  | .FY_RDTO, _ => 100
  | .ED_TX_TMO, _ => 1000
  | .DM_QCFG_FUNC, i => dmFuncReset i
  | .DM_QCFG_SHARE, _ => 16
  | .DM_FCFG_MAXINFL, _ => 8
  | .OD_CTL_SDO, _ => 1
  | .OD_CTL_DOP, _ => 1
  | .OD_CTL_SVC, _ => 1
  | .UPD_CTL_RESUME, _ => 1
  | _, _ => 0

/-- The refused flag of each block, where it has one. -/
def Block.refusedFlag : Block → Option Fld
  | .millrace => (some .MR_STAT_REFUSED)
  | .gauge => (some .GA_STAT_REFUSED)
  | .gaugeEst => (some .GE_STAT_REFUSED)
  | .die => (some .SL_DIE_STAT_REFUSED)
  | .chan => (some .SL_DIE_STAT_REFUSED)
  | .ioDie => (some .IO_DSTAT_REFUSED)
  | .io => (some .IO_DSTAT_REFUSED)
  | .can => (some .CAN_STAT_REFUSED)
  | .weir => (some .WE_STAT_REFUSED)
  | .xcvr => none
  | .confluence => (some .CF_STAT_REFUSED)
  | .braid => (some .BR_STAT_REFUSED)
  | .sysctl => (some .SYS_PWR_STAT_REFUSED)
  | .lock => (some .LK_STAT_REFUSED)
  | .ferry => none
  | .floodgate => (some .FG_STAT_REFUSED)
  | .eddy => none
  | .lkregs => none
  | .delta => (some .DM_STAT_REFUSED)
  | .deltaFn => (some .DF_INT_REFUSED)
  | .deltaQ => (some .DF_INT_REFUSED)
  | .od => (some .OD_STAT_REFUSED)
  | .upd => (some .UPD_RESULT_REFUSED)

/-- Registers of R79. -/
def rows_millrace : List RegRow := [
  ⟨0x0, 4, 1, 4, 1, [.MR_CTL_SRC, .MR_CTL_EN, .MR_CTL_NOM, .MR_CTL_TEST, .MR_CTL_PRESET]⟩,
  ⟨0x4, 4, 1, 4, 1, [.MR_STAT_STATE, .MR_STAT_FRANGE, .MR_STAT_ROT, .MR_STAT_LOK, .MR_STAT_REFUSED, .MR_STAT_INTREF, .MR_STAT_REFLATE, .MR_STAT_LOSS]⟩,
  ⟨0x8, 4, 1, 4, 1, [.MR_NOW_LO]⟩,
  ⟨0xc, 4, 1, 4, 1, [.MR_NOW_HI_TIME, .MR_NOW_HI_KIND]⟩,
  ⟨0x10, 4, 1, 4, 1, [.MR_FREQ]⟩,
  ⟨0x14, 4, 1, 4, 1, [.MR_PHERR]⟩,
  ⟨0x18, 4, 1, 4, 1, [.MR_COMP]⟩,
  ⟨0x1c, 4, 1, 4, 1, [.MR_SLEW]⟩,
  ⟨0x20, 4, 1, 4, 1, [.MR_TURN_PRESET]⟩,
  ⟨0x24, 4, 1, 4, 1, [.MR_HOLD_TURNS]⟩,
  ⟨0x28, 4, 1, 4, 1, [.MR_FREE]⟩,
  ⟨0x2c, 4, 1, 4, 1, [.MR_FREE_WRAP]⟩,
  ⟨0x30, 4, 1, 4, 1, [.MR_TURN_FREE]⟩,
  ⟨0x34, 4, 1, 4, 1, [.MR_PERIOD]⟩,
  ⟨0x40, 4, 1, 4, 1, [.MR_REFCH]⟩,
  ⟨0x44, 4, 1, 4, 1, [.MR_REFID_ID, .MR_REFID_IDE, .MR_REFID_BRS]⟩,
  ⟨0x48, 4, 1, 4, 1, [.MR_ANGLE0]⟩,
  ⟨0x4c, 4, 1, 4, 1, [.MR_PLAN]⟩,
  ⟨0x60, 4, 1, 4, 1, [.MR_ASSOC_CTL_EN, .MR_ASSOC_CTL_ACCEPT, .MR_ASSOC_CTL_STEP, .MR_ASSOC_CTL_UNSYNC, .MR_ASSOC_CTL_THR]⟩,
  ⟨0x64, 4, 1, 4, 1, [.MR_ASSOC_TURN]⟩,
  ⟨0x68, 4, 1, 4, 1, [.MR_ASSOC_SEC_LO]⟩,
  ⟨0x6c, 4, 1, 4, 1, [.MR_ASSOC_SEC_HI]⟩,
  ⟨0x70, 4, 1, 4, 1, [.MR_ASSOC_NS]⟩,
  ⟨0x74, 4, 1, 4, 1, [.MR_ASSOC_DEV]⟩,
  ⟨0x80, 4, 4, 4, 1, [.MR_EVT_STAGE]⟩,
  ⟨0x90, 4, 1, 4, 1, [.MR_EVT_CMD_INDEX, .MR_EVT_CMD_OP]⟩,
  ⟨0x94, 4, 1, 4, 1, [.MR_EVT_RESULT_CODE, .MR_EVT_RESULT_AFTER, .MR_EVT_RESULT_BUSY]⟩,
  ⟨0x98, 4, 1, 4, 1, [.MR_EVT_QUOTA0_NORMAL, .MR_EVT_QUOTA0_SAFETY]⟩,
  ⟨0x9c, 4, 1, 4, 1, [.MR_EVT_QUOTA1_SECURE]⟩,
  ⟨0xa0, 4, 1, 4, 1, [.MR_EVT_LATE]⟩]

/-- Registers of R100. -/
def rows_gauge : List RegRow := [
  ⟨0x0, 4, 1, 4, 1, [.GA_CTL_EN, .GA_CTL_ASYNC_OK]⟩,
  ⟨0x4, 4, 1, 4, 1, [.GA_STAT_ACTIVE, .GA_STAT_REFUSED, .GA_STAT_SILENT, .GA_STAT_LATE, .GA_STAT_MISSING, .GA_STAT_DUP, .GA_STAT_BAD]⟩,
  ⟨0x8, 4, 1, 4, 1, [.GA_GUARD]⟩,
  ⟨0xc, 4, 1, 4, 1, [.GA_SILENT]⟩,
  ⟨0x10, 4, 1, 4, 1, [.GA_MAP_CMD_COMMIT]⟩,
  ⟨0x14, 4, 1, 4, 1, [.GA_MAP_RESULT_CODE, .GA_MAP_RESULT_PENDING, .GA_MAP_RESULT_CHECKING, .GA_MAP_RESULT_INDEX]⟩,
  ⟨0x18, 4, 1, 4, 1, [.GA_LAST_TURN]⟩,
  ⟨0x20, 4, 1, 4, 1, [.GA_CNT_BAD]⟩,
  ⟨0x24, 4, 1, 4, 1, [.GA_CNT_LATE]⟩,
  ⟨0x28, 4, 1, 4, 1, [.GA_CNT_STRAY]⟩,
  ⟨0x2c, 4, 1, 4, 1, [.GA_CNT_MISMATCH]⟩,
  ⟨0x30, 4, 1, 4, 1, [.GA_CNT_DUP]⟩,
  ⟨0x34, 4, 1, 4, 1, [.GA_CNT_DUPDIFF]⟩,
  ⟨0x38, 4, 1, 4, 1, [.GA_CNT_MISSING]⟩,
  ⟨0x3c, 4, 1, 4, 1, [.GA_CNT_CURMISS]⟩,
  ⟨0x100, 4, 24, 4, 1, [.GA_STRMAP_SH]⟩,
  ⟨0x200, 4, 24, 4, 1, [.GA_STRMAP]⟩,
  ⟨0x300, 4, 24, 4, 1, [.GA_SRCMAP_SH]⟩,
  ⟨0x400, 4, 24, 4, 1, [.GA_SRCMAP]⟩,
  ⟨0x4000, 4, 6144, 4, 1, [.GA_CELLMAP_SH]⟩,
  ⟨0xa000, 4, 6144, 4, 1, [.GA_CELLMAP]⟩]

/-- Registers of R129. -/
def rows_gaugeEst : List RegRow := [
  ⟨0x800, 4, 1, 4, 1, [.GE_CTL_SCREEN, .GE_CTL_NRING]⟩,
  ⟨0x804, 4, 1, 4, 1, [.GE_STAT_BUSY, .GE_STAT_REFUSED, .GE_STAT_DONE, .GE_STAT_ALMOVF, .GE_STAT_SAT, .GE_STAT_MEDSKIP]⟩,
  ⟨0x808, 4, 1, 4, 1, [.GE_PARAM_SEL_BANK]⟩,
  ⟨0x80c, 4, 1, 4, 1, [.GE_GEOM_CMD_COMMIT, .GE_GEOM_CMD_PENDING]⟩,
  ⟨0x810, 4, 1, 4, 1, [.GE_ZFILT]⟩,
  ⟨0x814, 4, 1, 4, 1, [.GE_IMIN]⟩,
  ⟨0x818, 4, 1, 4, 1, [.GE_DFMAX]⟩,
  ⟨0x81c, 4, 1, 4, 1, [.GE_INITTURNS]⟩,
  ⟨0x820, 4, 1, 4, 1, [.GE_HOLDI]⟩,
  ⟨0x824, 4, 1, 4, 1, [.GE_TSTALE]⟩,
  ⟨0x828, 4, 1, 4, 1, [.GE_MEDMIN]⟩,
  ⟨0x82c, 4, 1, 4, 1, [.GE_ACLASS]⟩,
  ⟨0x830, 4, 1, 4, 1, [.GE_ALM_WR]⟩,
  ⟨0x834, 4, 1, 4, 1, [.GE_ALM_RD_S]⟩,
  ⟨0x838, 4, 1, 4, 1, [.GE_ALM_RD_N]⟩,
  ⟨0x83c, 4, 1, 4, 1, [.GE_ALM_OVF]⟩,
  ⟨0x840, 4, 1, 4, 1, [.GE_DONE_TURN, .GE_DONE_VALID]⟩,
  ⟨0x844, 4, 1, 4, 1, [.GE_PASS_TIME]⟩,
  ⟨0x848, 4, 1, 4, 1, [.GE_PASS_MAX]⟩,
  ⟨0x84c, 4, 1, 4, 1, [.GE_REINIT_CELL, .GE_REINIT_ALL]⟩,
  ⟨0x880, 4, 8, 4, 1, [.GE_LIM]⟩,
  ⟨0x8a0, 4, 8, 4, 1, [.GE_HYS]⟩,
  ⟨0x8c0, 4, 8, 4, 1, [.GE_PER_SET, .GE_PER_CLR]⟩,
  ⟨0x900, 4, 24, 4, 1, [.GE_STRCFG_CAP, .GE_STRCFG_PROF]⟩]

/-- Registers of R156, R187. -/
def rows_die : List RegRow := [
  ⟨0x0, 4, 1, 4, 1, [.SL_DIE_CFG_PAIR]⟩,
  ⟨0x4, 4, 1, 4, 1, [.SL_DIE_STAT_REFUSED, .SL_DIE_STAT_SHEDDING, .SL_DIE_STAT_FEEDOVR, .SL_DIE_STAT_SHED, .SL_DIE_STAT_BUDGET]⟩,
  ⟨0x8, 4, 1, 4, 1, [.SL_FEED_LIM]⟩,
  ⟨0xc, 4, 1, 4, 1, [.SL_FEED_HYS]⟩,
  ⟨0x10, 4, 1, 4, 1, [.SL_SHED_T]⟩,
  ⟨0x14, 4, 1, 4, 1, [.SL_FEED_CFG_ADMIT]⟩,
  ⟨0x18, 4, 1, 4, 1, [.SL_FEED_SUM]⟩,
  ⟨0xbf00, 4, 1, 4, 1, [.SL_STRM_WR]⟩,
  ⟨0x40, 4, 1, 4, 1, [.SL_UV_THR]⟩,
  ⟨0x44, 4, 1, 4, 1, [.SL_DIP_THR]⟩,
  ⟨0x48, 4, 1, 4, 1, [.SL_UV_STAT_UVOFF, .SL_UV_STAT_DIP, .SL_UV_STAT_UVEVT]⟩,
  ⟨0x4c, 4, 1, 4, 1, [.SL_UV_CNT]⟩,
  ⟨0x50, 4, 1, 4, 1, [.SL_FEED_V]⟩,
  ⟨0x60, 4, 1, 4, 1, [.SL_WD_TIME]⟩,
  ⟨0x64, 4, 1, 4, 1, [.SL_WD_SERVE]⟩,
  ⟨0x68, 4, 1, 4, 1, [.SL_WD_STAT_SERVED, .SL_WD_STAT_FAILSAFE, .SL_WD_STAT_EXPIRED, .SL_WD_STAT_BADSERVE, .SL_WD_STAT_ACT, .SL_WD_STAT_FSBAD]⟩,
  ⟨0x6c, 4, 1, 4, 1, [.SL_WD_CMD_RESUME]⟩,
  ⟨0x80, 4, 4, 4, 1, [.SL_FS_STAGE_LO, .SL_FS_STAGE_HI]⟩,
  ⟨0x90, 4, 1, 4, 1, [.SL_FS_CMD_COMMIT, .SL_FS_CMD_BUSY, .SL_FS_CMD_RESULT]⟩,
  ⟨0xa0, 4, 4, 4, 1, [.SL_FS_ACT]⟩,
  ⟨0xb0, 4, 1, 4, 1, [.SL_FS_SEQ]⟩]

/-- Registers of R157, R186. -/
def rows_chan : List RegRow := [
  ⟨0x0, 4, 1, 4, 1, [.SL_CMD_ACTION, .SL_CMD_PARAM]⟩,
  ⟨0x4, 4, 1, 4, 1, [.SL_CFG_MODE, .SL_CFG_FINE, .SL_CFG_OLOFF, .SL_CFG_OLON, .SL_CFG_JOINED]⟩,
  ⟨0x8, 4, 1, 4, 1, [.SL_SLEW]⟩,
  ⟨0xc, 4, 1, 4, 1, [.SL_ILIM]⟩,
  ⟨0x10, 4, 1, 4, 1, [.SL_ILIM_IN]⟩,
  ⟨0x14, 4, 1, 4, 1, [.SL_INRUSH_T]⟩,
  ⟨0x18, 4, 1, 4, 1, [.SL_PWMF]⟩,
  ⟨0x1c, 4, 1, 4, 1, [.SL_DUTY]⟩,
  ⟨0x20, 4, 1, 4, 1, [.SL_OLTHR]⟩,
  ⟨0x24, 4, 1, 4, 1, [.SL_OLTIME]⟩,
  ⟨0x28, 4, 1, 4, 1, [.SL_BUDGET_PRIO, .SL_BUDGET_NOM]⟩,
  ⟨0x2c, 4, 1, 4, 1, [.SL_STAT_STATE, .SL_STAT_LIMIT, .SL_STAT_INRUSH, .SL_STAT_OPENOFF, .SL_STAT_OPENON, .SL_STAT_EXTV, .SL_STAT_REV, .SL_STAT_FOVR, .SL_STAT_REFUSED, .SL_STAT_WHY, .SL_STAT_SRC]⟩,
  ⟨0x30, 4, 1, 4, 1, [.SL_INOW]⟩,
  ⟨0x40, 4, 1, 4, 1, [.SL_PROT_CFG_RETRY_N, .SL_PROT_CFG_TSTICKY]⟩,
  ⟨0x44, 4, 1, 4, 1, [.SL_RETRY_T]⟩,
  ⟨0x48, 4, 1, 4, 1, [.SL_LIMT]⟩,
  ⟨0x4c, 4, 1, 4, 1, [.SL_PROT_CMD_CLEAR, .SL_PROT_CMD_UNLOCK, .SL_PROT_CMD_TCLR]⟩,
  ⟨0x50, 4, 1, 4, 1, [.SL_PROT_STAT_CAUSE, .SL_PROT_STAT_RETRIES, .SL_PROT_STAT_TLATCH, .SL_PROT_STAT_RETRY_PEND, .SL_PROT_STAT_UVOFF, .SL_PROT_STAT_PULSEOVR, .SL_PROT_STAT_CLAMP, .SL_PROT_STAT_REFUSED, .SL_PROT_STAT_PWHY, .SL_PROT_STAT_FGON, .SL_PROT_STAT_SPLOCK]⟩,
  ⟨0x54, 4, 1, 4, 1, [.SL_TJ]⟩,
  ⟨0x58, 4, 1, 4, 1, [.SP_WIN]⟩,
  ⟨0x5c, 4, 1, 4, 1, [.SP_BUDGET]⟩,
  ⟨0x60, 4, 1, 4, 1, [.SP_SUM]⟩,
  ⟨0x64, 4, 1, 4, 1, [.SP_LAST]⟩,
  ⟨0x68, 4, 1, 4, 1, [.SP_FREE_IN]⟩,
  ⟨0x6c, 4, 1, 4, 1, [.SL_TRIPS]⟩]

/-- Registers of R206. -/
def rows_ioDie : List RegRow := [
  ⟨0x500, 4, 1, 4, 1, [.IO_IN]⟩,
  ⟨0x504, 4, 1, 4, 1, [.IO_RAW]⟩,
  ⟨0x508, 4, 1, 4, 1, [.IO_OUT]⟩,
  ⟨0x50c, 4, 1, 4, 1, [.IO_DSTAT_REFUSED, .IO_DSTAT_FIFOOVF]⟩,
  ⟨0x510, 4, 1, 4, 1, [.IO_FS_STAGE]⟩,
  ⟨0x514, 4, 1, 4, 1, [.IO_FS_ACT]⟩,
  ⟨0xbc00, 4, 24, 4, 1, [.IO_LAST]⟩,
  ⟨0xbf04, 4, 1, 4, 1, [.IO_EDGE_WR]⟩,
  ⟨0xbf08, 4, 1, 4, 1, [.IO_EDGE_RD_S]⟩,
  ⟨0xbf0c, 4, 1, 4, 1, [.IO_EDGE_RD_N]⟩,
  ⟨0xbf10, 4, 1, 4, 1, [.IO_EDGE_CTL_NRING]⟩,
  ⟨0xbf14, 4, 1, 4, 1, [.IO_EDGE_LOST]⟩]

/-- Registers of R207. -/
def rows_io : List RegRow := [
  ⟨0x0, 4, 1, 4, 1, [.IO_CMD_ACTION]⟩,
  ⟨0x4, 4, 1, 4, 1, [.IO_CFG_MODE, .IO_CFG_PROF, .IO_CFG_INV, .IO_CFG_EDGE_R, .IO_CFG_EDGE_F, .IO_CFG_JOINED]⟩,
  ⟨0x8, 4, 1, 4, 1, [.IO_THR]⟩,
  ⟨0xc, 4, 1, 4, 1, [.IO_HYS]⟩,
  ⟨0x10, 4, 1, 4, 1, [.IO_DEB]⟩,
  ⟨0x14, 4, 1, 4, 1, [.IO_RBT]⟩,
  ⟨0x18, 4, 1, 4, 1, [.IO_STAT_LEVEL, .IO_STAT_OUT, .IO_STAT_DRIVE, .IO_STAT_LIMIT, .IO_STAT_OTP, .IO_STAT_MISMATCH, .IO_STAT_REFUSED, .IO_STAT_WHY, .IO_STAT_SRC, .IO_STAT_LOST, .IO_STAT_OTPEVT]⟩,
  ⟨0x1c, 4, 1, 4, 1, [.IO_OTPCNT]⟩]

/-- Registers of R235. -/
def rows_can : List RegRow := [
  ⟨0x0, 4, 1, 4, 1, [.CAN_CTL_EN, .CAN_CTL_FDOE, .CAN_CTL_XLOE, .CAN_CTL_TMS, .CAN_CTL_LISTEN, .CAN_CTL_LOOP, .CAN_CTL_TERM, .CAN_CTL_RECOVER]⟩,
  ⟨0x4, 4, 1, 4, 1, [.CAN_STAT_STATE, .CAN_STAT_EWARN, .CAN_STAT_PASSEVT, .CAN_STAT_BOEVT, .CAN_STAT_STRANDED, .CAN_STAT_REFUSED, .CAN_STAT_PXE, .CAN_STAT_TDCERR, .CAN_STAT_RINGOVF, .CAN_STAT_STAGEOVF, .CAN_STAT_DONEFULL, .CAN_STAT_NOREL, .CAN_STAT_DONEEVT, .CAN_STAT_RXEVT, .CAN_STAT_CFGERR]⟩,
  ⟨0x8, 4, 1, 4, 1, [.CAN_ECNT_TEC, .CAN_ECNT_REC]⟩,
  ⟨0xc, 4, 1, 4, 1, [.CAN_NBT_NBRP, .CAN_NBT_NTSEG1, .CAN_NBT_NTSEG2, .CAN_NBT_NSJW]⟩,
  ⟨0x10, 4, 1, 4, 1, [.CAN_DBT_DBRP, .CAN_DBT_DTSEG1, .CAN_DBT_DTSEG2, .CAN_DBT_DSJW]⟩,
  ⟨0x14, 4, 1, 4, 1, [.CAN_XBT_DBRP, .CAN_XBT_DTSEG1, .CAN_XBT_DTSEG2, .CAN_XBT_DSJW]⟩,
  ⟨0x18, 4, 1, 4, 1, [.CAN_TDCF_TDCE, .CAN_TDCF_TDCO, .CAN_TDCF_TDCF, .CAN_TDCF_TDCV]⟩,
  ⟨0x1c, 4, 1, 4, 1, [.CAN_TDCX_TDCE, .CAN_TDCX_TDCO, .CAN_TDCX_TDCF, .CAN_TDCX_TDCV]⟩,
  ⟨0x20, 4, 1, 4, 1, [.CAN_PWM_PWMS, .CAN_PWM_PWML, .CAN_PWM_PWMO]⟩,
  ⟨0x24, 4, 1, 4, 1, [.CAN_CTRLCFG_CTRL, .CAN_CTRLCFG_NODE, .CAN_CTRLCFG_LEVEL]⟩,
  ⟨0x28, 4, 1, 4, 1, [.CAN_TXPOOL_PSZ, .CAN_TXPOOL_NTX]⟩,
  ⟨0x2c, 4, 1, 4, 1, [.CAN_TXQ_PUSH_LEVEL]⟩,
  ⟨0x30, 4, 1, 4, 1, [.CAN_TXQ_RESULT_CODE, .CAN_TXQ_RESULT_BUSY]⟩,
  ⟨0x34, 4, 1, 4, 1, [.CAN_TXQ_CMD_OP, .CAN_TXQ_CMD_LEVEL, .CAN_TXQ_CMD_DEST, .CAN_TXQ_CMD_DLEVEL]⟩,
  ⟨0x38, 4, 1, 4, 1, [.CAN_TXQ_CMDRES_CODE, .CAN_TXQ_CMDRES_BUSY, .CAN_TXQ_CMDRES_COUNT]⟩,
  ⟨0x40, 4, 8, 4, 1, [.CAN_TXQ_LVL_COUNT, .CAN_TXQ_LVL_HELD, .CAN_TXQ_LVL_STRANDED, .CAN_TXQ_LVL_ACTIVE]⟩,
  ⟨0x60, 4, 1, 4, 1, [.CAN_TXDONE_WR]⟩,
  ⟨0x64, 4, 1, 4, 1, [.CAN_TXDONE_RD]⟩,
  ⟨0x70, 4, 4, 4, 1, [.CAN_RINGCFG_PSZ, .CAN_RINGCFG_DEPTH, .CAN_RINGCFG_WORLD]⟩,
  ⟨0x80, 4, 4, 4, 1, [.CAN_RING_WR]⟩,
  ⟨0x90, 4, 4, 4, 1, [.CAN_RING_RD]⟩,
  ⟨0xa0, 4, 1, 4, 1, [.CAN_LEC_CODE, .CAN_LEC_DATA]⟩,
  ⟨0xa4, 4, 1, 4, 1, [.CAN_CNT_RX]⟩,
  ⟨0xa8, 4, 1, 4, 1, [.CAN_CNT_TX]⟩,
  ⟨0xac, 4, 1, 4, 1, [.CAN_CNT_ERR]⟩,
  ⟨0xb0, 4, 1, 4, 1, [.CAN_RING_OVF]⟩,
  ⟨0xb4, 4, 1, 4, 1, [.CAN_STAGE_OVF]⟩]

/-- Registers of R258. -/
def rows_weir : List RegRow := [
  ⟨0x0, 4, 1, 4, 1, [.WE_CTL_EN, .WE_CTL_MISS]⟩,
  ⟨0x4, 4, 1, 4, 1, [.WE_STAT_REFUSED, .WE_STAT_FWDDROP, .WE_STAT_REVOKED]⟩,
  ⟨0x8, 4, 2, 4, 1, [.WE_SEGMAP]⟩,
  ⟨0x10, 4, 1, 4, 1, [.WE_GEN]⟩,
  ⟨0x14, 4, 1, 4, 1, [.WE_DRAIN_GEN, .WE_DRAIN_DONE]⟩,
  ⟨0x20, 4, 8, 4, 1, [.WE_STAGE]⟩,
  ⟨0x40, 4, 1, 4, 1, [.WE_ENT_CMD_INDEX, .WE_ENT_CMD_OP, .WE_ENT_CMD_TBL]⟩,
  ⟨0x44, 4, 1, 4, 1, [.WE_ENT_RESULT_CODE]⟩,
  ⟨0x48, 4, 1, 4, 1, [.WE_ENT_RDIDX_INDEX, .WE_ENT_RDIDX_TBL]⟩,
  ⟨0x50, 4, 8, 4, 1, [.WE_ENT_RD]⟩,
  ⟨0x80, 4, 1, 4, 1, [.WE_CNT_MISS]⟩,
  ⟨0x84, 4, 1, 4, 1, [.WE_CNT_FWDDROP]⟩,
  ⟨0x88, 4, 1, 4, 1, [.WE_CNT_ASLEEP]⟩,
  ⟨0x8c, 4, 1, 4, 1, [.WE_CNT_REVOKED]⟩,
  ⟨0x90, 4, 1, 4, 1, [.WE_CNT_XLETH]⟩,
  ⟨0x94, 4, 1, 4, 1, [.WE_CNT_ETHDROP]⟩,
  ⟨0x98, 4, 1, 4, 1, [.WE_CNT_ETHSEQ]⟩,
  ⟨0xa0, 4, 1, 4, 1, [.WE_SLP_ID_ID, .WE_SLP_ID_VOTEBASE, .WE_SLP_ID_LEVEL]⟩,
  ⟨0x200, 64, 8, 4, 1, [.WE_SLP_CTL_REQ, .WE_SLP_CTL_WAKE]⟩,
  ⟨0x204, 64, 8, 4, 1, [.WE_SLP_STAT_STATE, .WE_SLP_STAT_ROUND, .WE_SLP_STAT_RESULT, .WE_SLP_STAT_WAKESRC]⟩,
  ⟨0x208, 64, 8, 4, 1, [.WE_SLP_TIMES_VOTEW, .WE_SLP_TIMES_COMMITW, .WE_SLP_TIMES_RETRY]⟩,
  ⟨0x20c, 64, 8, 4, 1, [.WE_HOLDCNT]⟩,
  ⟨0x210, 64, 8, 4, 4, [.XCVR_VOTERS]⟩,
  ⟨0x220, 64, 8, 4, 4, [.WE_HOLD]⟩,
  ⟨0x230, 64, 8, 4, 4, [.WE_SILENT]⟩]

/-- Registers of R259. -/
def rows_xcvr : List RegRow := [
  ⟨0x0, 4, 16, 4, 1, [.XCVR_CTL_WAKEEN]⟩,
  ⟨0x40, 4, 16, 4, 1, [.XCVR_STAT_MODE, .XCVR_STAT_INH, .XCVR_STAT_WUP, .XCVR_STAT_FAULT]⟩,
  ⟨0x80, 4, 4, 4, 1, [.XCVR_WAKEMAP]⟩,
  ⟨0x90, 4, 1, 4, 1, [.XCVR_WAKELOG_SRC, .XCVR_WAKELOG_INDEX]⟩,
  ⟨0x94, 4, 1, 4, 1, [.XCVR_HOLD_RUN]⟩]

/-- Registers of R287. -/
def rows_confluence : List RegRow := [
  ⟨0x0, 4, 1, 4, 1, [.CF_CTL_EN, .CF_CTL_AGE]⟩,
  ⟨0x4, 4, 1, 4, 1, [.CF_STAT_REFUSED, .CF_STAT_CLAIM, .CF_STAT_STOMP]⟩,
  ⟨0x8, 4, 1, 4, 1, [.CF_GEN]⟩,
  ⟨0xc, 4, 1, 4, 1, [.CF_DRAIN_GEN, .CF_DRAIN_DONE]⟩,
  ⟨0x10, 4, 1, 4, 1, [.CF_OWNMAC_LO]⟩,
  ⟨0x14, 4, 1, 4, 1, [.CF_OWNMAC_HI]⟩,
  ⟨0x18, 4, 1, 4, 1, [.CF_BUF_FREE]⟩,
  ⟨0x1c, 4, 1, 4, 1, [.CF_CNT_LEARNFULL]⟩,
  ⟨0x20, 4, 1, 4, 1, [.CF_CNT_STOMP]⟩,
  ⟨0x40, 4, 12, 4, 1, [.CF_STAGE]⟩,
  ⟨0x70, 4, 1, 4, 1, [.CF_TBL_CMD_INDEX, .CF_TBL_CMD_OP, .CF_TBL_CMD_TBL]⟩,
  ⟨0x74, 4, 1, 4, 1, [.CF_TBL_RESULT_CODE]⟩,
  ⟨0x80, 4, 1, 4, 1, [.CF_PTP_CTL_SYNC, .CF_PTP_CTL_SET, .CF_PTP_CTL_HOLD, .CF_PTP_CTL_WORLD]⟩,
  ⟨0x84, 4, 1, 4, 1, [.CF_PTP_SEC_LO]⟩,
  ⟨0x88, 4, 1, 4, 1, [.CF_PTP_SEC_HI]⟩,
  ⟨0x8c, 4, 1, 4, 1, [.CF_PTP_NS]⟩,
  ⟨0x90, 4, 1, 4, 1, [.CF_PTP_ADJ]⟩,
  ⟨0x94, 4, 1, 4, 1, [.CF_PTP_STEP]⟩,
  ⟨0x400, 32, 32, 4, 1, [.HQ_BASE_LO]⟩,
  ⟨0x404, 32, 32, 4, 1, [.HQ_BASE_HI]⟩,
  ⟨0x408, 32, 32, 4, 1, [.HQ_CFG_SIZE, .HQ_CFG_WORLD, .HQ_CFG_EN]⟩,
  ⟨0x40c, 32, 32, 4, 1, [.HQ_HEAD]⟩,
  ⟨0x410, 32, 32, 4, 1, [.HQ_TAIL]⟩,
  ⟨0x414, 32, 32, 4, 1, [.HQ_DROP]⟩,
  ⟨0x1000, 256, 10, 4, 1, [.CFP_CTL_EN, .CFP_CTL_SPEED, .CFP_CTL_ROLE, .CFP_CTL_LEARN, .CFP_CTL_HQDEF]⟩,
  ⟨0x1004, 256, 10, 4, 1, [.CFP_STAT_LINK, .CFP_STAT_LINKEVT]⟩,
  ⟨0x1008, 256, 10, 4, 1, [.CFP_VLAN_PVID, .CFP_VLAN_DPCP, .CFP_VLAN_ACCEPT, .CFP_VLAN_IFILT]⟩,
  ⟨0x100c, 256, 10, 4, 1, [.CFP_MAXLEN]⟩,
  ⟨0x1010, 256, 10, 4, 1, [.CFP_QMAP]⟩,
  ⟨0x1014, 256, 10, 4, 1, [.CFP_POL_CIR]⟩,
  ⟨0x1018, 256, 10, 4, 1, [.CFP_POL_CBS]⟩,
  ⟨0x101c, 256, 10, 4, 1, [.CFP_STORM_BC, .CFP_STORM_UU, .CFP_STORM_MC]⟩,
  ⟨0x1020, 256, 10, 4, 1, [.CFP_SAMPLE_N, .CFP_SAMPLE_HQ]⟩,
  ⟨0x1024, 256, 10, 4, 1, [.CFP_PTPCOMP]⟩,
  ⟨0x1040, 256, 10, 4, 8, [.CFP_QLIM_MIN, .CFP_QLIM_MAX]⟩,
  ⟨0x1080, 256, 10, 4, 1, [.CFP_CNT_RXOK]⟩,
  ⟨0x1084, 256, 10, 4, 1, [.CFP_CNT_RXFCS]⟩,
  ⟨0x1088, 256, 10, 4, 1, [.CFP_CNT_RXLEN]⟩,
  ⟨0x108c, 256, 10, 4, 1, [.CFP_CNT_RXDROP]⟩,
  ⟨0x1090, 256, 10, 4, 1, [.CFP_CNT_POLICED]⟩,
  ⟨0x1094, 256, 10, 4, 1, [.CFP_CNT_STORM]⟩,
  ⟨0x1098, 256, 10, 4, 1, [.CFP_CNT_BUFDROP]⟩,
  ⟨0x109c, 256, 10, 4, 1, [.CFP_CNT_TXOK]⟩,
  ⟨0x10a0, 256, 10, 4, 1, [.CFP_CNT_FLUSH]⟩,
  ⟨0x10a4, 256, 10, 4, 1, [.CFP_CNT_STBY]⟩,
  ⟨0x10a8, 256, 10, 4, 1, [.CFP_CNT_REVOKED]⟩,
  ⟨0x10ac, 256, 10, 4, 1, [.CFP_CNT_SAMPLED]⟩]

/-- Registers of R324. -/
def rows_braid : List RegRow := [
  ⟨0x0, 4, 1, 4, 1, [.BR_CTL_MODE, .BR_CTL_TEST, .BR_CTL_AUTOSYNC, .BR_CTL_CMPWIN]⟩,
  ⟨0x4, 4, 1, 4, 1, [.BR_STAT_STATE, .BR_STAT_UNIT, .BR_STAT_SEATED, .BR_STAT_CLAIM, .BR_STAT_PCLAIM, .BR_STAT_P9OK, .BR_STAT_HBOK, .BR_STAT_CLAIMFAULT, .BR_STAT_DIVERGE, .BR_STAT_FMTDIFF, .BR_STAT_JFULL, .BR_STAT_TAKEOVER, .BR_STAT_INDIFF, .BR_STAT_REFUSED, .BR_STAT_FENCING, .BR_STAT_SENSEDIFF, .BR_STAT_ISOLATED, .BR_STAT_LAG, .BR_STAT_LOCKDIFF]⟩,
  ⟨0x8, 4, 1, 4, 1, [.BR_CMD_SYNC, .BR_CMD_SWAP, .BR_CMD_RELEASE, .BR_CMD_ADOPT]⟩,
  ⟨0xc, 4, 1, 4, 1, [.BR_KEEP]⟩,
  ⟨0x10, 4, 1, 4, 1, [.BR_FENCE_FENCECH, .BR_FENCE_FENCEID]⟩,
  ⟨0x14, 4, 1, 4, 1, [.BR_EPOCH]⟩,
  ⟨0x18, 4, 1, 4, 1, [.BR_CONFGEN]⟩,
  ⟨0x1c, 4, 1, 4, 1, [.BR_CONFSUM]⟩,
  ⟨0x20, 4, 1, 4, 1, [.BR_MIRFMT]⟩,
  ⟨0x24, 4, 1, 4, 1, [.BR_PAIRMAC_LO]⟩,
  ⟨0x28, 4, 1, 4, 1, [.BR_PAIRMAC_HI]⟩,
  ⟨0x2c, 4, 1, 4, 1, [.BR_HEALTH]⟩,
  ⟨0x30, 4, 1, 4, 1, [.BR_PEER]⟩,
  ⟨0x34, 4, 1, 4, 1, [.BR_PEER_EPOCH]⟩,
  ⟨0x38, 4, 1, 4, 1, [.BR_PEER_CONFGEN]⟩,
  ⟨0x3c, 4, 1, 4, 1, [.BR_PEER_HEALTH]⟩,
  ⟨0x40, 4, 1, 4, 1, [.BR_SEQ_LO]⟩,
  ⟨0x44, 4, 1, 4, 1, [.BR_SEQ_HI]⟩,
  ⟨0x48, 4, 1, 4, 1, [.BR_JOPEN_LO]⟩,
  ⟨0x4c, 4, 1, 4, 1, [.BR_JOPEN_HI]⟩,
  ⟨0x50, 4, 1, 4, 1, [.BR_JUSED]⟩,
  ⟨0x54, 4, 1, 4, 1, [.BR_LAG]⟩,
  ⟨0x58, 4, 1, 4, 1, [.BR_TKO_LO]⟩,
  ⟨0x5c, 4, 1, 4, 1, [.BR_TKO_HI]⟩,
  ⟨0x60, 4, 1, 4, 1, [.BR_TKO_CAUSE]⟩,
  ⟨0x80, 4, 1, 4, 1, [.BR_CNT_P9MISS]⟩,
  ⟨0x84, 4, 1, 4, 1, [.BR_CNT_HBMISS]⟩,
  ⟨0x88, 4, 1, 4, 1, [.BR_CNT_REPLAY]⟩,
  ⟨0x8c, 4, 1, 4, 1, [.BR_CNT_BADREC]⟩,
  ⟨0x90, 4, 1, 4, 1, [.BR_CNT_INDIFF]⟩,
  ⟨0x94, 4, 1, 4, 1, [.BR_CNT_DIVERGE]⟩,
  ⟨0x98, 4, 1, 4, 1, [.BR_CNT_TAKEOVER]⟩,
  ⟨0xc0, 16, 3, 4, 1, [.BR_STATE_ADDR_LO]⟩,
  ⟨0xc4, 16, 3, 4, 1, [.BR_STATE_ADDR_HI]⟩,
  ⟨0xc8, 16, 3, 4, 1, [.BR_STATE_LEN]⟩,
  ⟨0xcc, 16, 3, 4, 1, [.BR_STATE_CTL_READY, .BR_STATE_CTL_DONE]⟩]

/-- Registers of R445, R354, R405. -/
def rows_sysctl : List RegRow := [
  ⟨0x0, 4, 1, 4, 1, [.SYS_PWR_CMD_REQ]⟩,
  ⟨0x4, 4, 1, 4, 1, [.SYS_PWR_STAT_STATE, .SYS_PWR_STAT_PENDING, .SYS_PWR_STAT_WHY, .SYS_PWR_STAT_REFUSED]⟩,
  ⟨0x8, 4, 1, 4, 1, [.SYS_SLPTO]⟩,
  ⟨0xc, 4, 1, 4, 1, [.SYS_RST_FULL]⟩,
  ⟨0x10, 4, 1, 4, 1, [.SYS_RSTCAUSE_CAUSE]⟩,
  ⟨0x14, 4, 1, 4, 1, [.SYS_START_JTORN, .SYS_START_CTLBLK, .SYS_START_EETORN, .SYS_START_ACTREC, .SYS_START_KEYLESS, .SYS_START_LATE, .SYS_START_SERVED]⟩,
  ⟨0x18, 4, 1, 4, 1, [.SYS_T_SAFE]⟩,
  ⟨0x1c, 4, 1, 4, 1, [.SYS_T_FULL]⟩,
  ⟨0x20, 4, 1, 4, 1, [.SYS_WAKE_CHECK, .SYS_WAKE_RESTORE, .SYS_WAKE_RESULT]⟩,
  ⟨0x100, 32, 2, 4, 1, [.LS_CTL_SRCPAIR]⟩,
  ⟨0x104, 32, 2, 4, 1, [.LS_STAT_ERR, .LS_STAT_CAUSE, .LS_STAT_DBGBRK, .LS_STAT_STFAIL, .LS_STAT_REFUSED, .LS_STAT_FROZEN, .LS_STAT_RESTARTS]⟩,
  ⟨0x108, 32, 2, 4, 1, [.LS_CMD_RESTART, .LS_CMD_SELFTEST]⟩,
  ⟨0x10c, 32, 2, 4, 1, [.LS_PC]⟩,
  ⟨0x200, 4, 6, 4, 1, [.MEM_CE]⟩,
  ⟨0x220, 4, 1, 4, 1, [.MEM_UE_ADDR_LO]⟩,
  ⟨0x224, 4, 1, 4, 1, [.MEM_UE_ADDR_HI]⟩,
  ⟨0x228, 4, 1, 4, 1, [.MEM_UE_INFO_MASTER, .MEM_UE_INFO_MEM, .MEM_UE_INFO_EVT]⟩,
  ⟨0x400, 4, 1, 4, 1, [.HW_STAT_READY, .HW_STAT_KEYLESS, .HW_STAT_PUFFAIL, .HW_STAT_MEASFAIL, .HW_STAT_TRNGFAIL, .HW_STAT_LOSTBLK, .HW_STAT_REFUSED, .HW_STAT_RESTARTS]⟩,
  ⟨0x404, 4, 1, 4, 1, [.HW_CMD_RESTART]⟩,
  ⟨0x408, 4, 1, 4, 1, [.HW_USE]⟩,
  ⟨0x40c, 4, 1, 4, 1, [.HW_DBG_NNID, .HW_DBG_NID, .HW_DBG_SNID, .HW_DBG_SID, .HW_DBG_XNID, .HW_DBG_XID]⟩,
  ⟨0x410, 4, 1, 4, 1, [.HW_REMASK]⟩,
  ⟨0x420, 4, 2, 4, 1, [.WA_SL]⟩,
  ⟨0x428, 4, 3, 4, 1, [.WA_IO]⟩,
  ⟨0x434, 4, 1, 4, 1, [.WA_CAN]⟩,
  ⟨0x438, 4, 1, 4, 1, [.WA_PORT]⟩,
  ⟨0x43c, 4, 1, 4, 1, [.WA_MRIRQ]⟩,
  ⟨0x440, 4, 12, 4, 1, [.HW_MEASLOG]⟩,
  ⟨0x500, 4, 1, 4, 1, [.TP_CFG]⟩,
  ⟨0x504, 4, 1, 4, 1, [.TP_STAT_LATCH, .TP_STAT_LIVE, .TP_STAT_ZEROISED]⟩,
  ⟨0x508, 4, 1, 4, 1, [.TP_CNT]⟩,
  ⟨0x800, 16, 32, 4, 1, [.HW_RGN_BASE_LO]⟩,
  ⟨0x804, 16, 32, 4, 1, [.HW_RGN_BASE_HI]⟩,
  ⟨0x808, 16, 32, 4, 1, [.HW_RGN_SIZE]⟩,
  ⟨0x80c, 16, 32, 4, 1, [.HW_RGN_PERM_N, .HW_RGN_PERM_S, .HW_RGN_PERM_VALID]⟩]

/-- Registers of R446. -/
def rows_lock : List RegRow := [
  ⟨0x0, 4, 1, 4, 1, [.LK_SET]⟩,
  ⟨0x4, 4, 1, 4, 1, [.LK_STAT_LOCKS, .LK_STAT_RESTORE, .LK_STAT_REFUSED]⟩]

/-- Registers of R355. -/
def rows_ferry : List RegRow := [
  ⟨0x0, 4, 1, 4, 1, [.FY_STAT_UP, .FY_STAT_REACH, .FY_STAT_ERR]⟩,
  ⟨0x10, 4, 4, 4, 1, [.FY_LINK_STATE, .FY_LINK_CRCERR, .FY_LINK_RETRAIN]⟩,
  ⟨0x20, 4, 1, 4, 1, [.FY_POSTEN_PAIR0, .FY_POSTEN_PAIR1, .FY_POSTEN_HW]⟩,
  ⟨0x24, 4, 1, 4, 1, [.FY_RDTO]⟩,
  ⟨0x28, 4, 1, 4, 1, [.FY_ELOG_OVF]⟩,
  ⟨0x100, 16, 16, 4, 1, [.FY_ELOG_A_DIE, .FY_ELOG_A_OFFSET, .FY_ELOG_A_VALID]⟩,
  ⟨0x104, 16, 16, 4, 1, [.FY_ELOG_B_MASTER, .FY_ELOG_B_TAG, .FY_ELOG_B_CODE]⟩,
  ⟨0x108, 16, 16, 4, 2, [.FY_ELOG_STAMP]⟩]

/-- Registers of R188. -/
def rows_floodgate : List RegRow := [
  ⟨0x8000, 16, 64, 4, 1, [.FG_SRC]⟩,
  ⟨0x8004, 16, 64, 4, 1, [.FG_MASK]⟩,
  ⟨0x8008, 16, 64, 4, 1, [.FG_ACT]⟩,
  ⟨0x800c, 16, 64, 4, 1, [.FG_CNT]⟩,
  ⟨0x8400, 4, 1, 4, 1, [.FG_CTL_EN]⟩,
  ⟨0x8404, 4, 1, 4, 1, [.FG_STAT_REFUSED, .FG_STAT_FIRED, .FG_STAT_STANDBY]⟩,
  ⟨0x8408, 4, 1, 4, 1, [.FG_FIRED_LO]⟩,
  ⟨0x840c, 4, 1, 4, 1, [.FG_FIRED_HI]⟩,
  ⟨0x8410, 4, 1, 4, 1, [.FG_SWTRIG]⟩]

/-- Registers of R356. -/
def rows_eddy : List RegRow := [
  ⟨0x0, 32, 8, 4, 1, [.ED_TX_LO]⟩,
  ⟨0x4, 32, 8, 4, 1, [.ED_TX_HI]⟩,
  ⟨0x8, 32, 8, 4, 1, [.ED_TX_STAT_COUNT, .ED_TX_STAT_EMPTYEVT, .ED_TX_STAT_TIMEOUT, .ED_TX_STAT_REFUSED]⟩,
  ⟨0xc, 32, 8, 4, 1, [.ED_TX_DOORBELL]⟩,
  ⟨0x10, 32, 8, 4, 1, [.ED_TX_TMO]⟩,
  ⟨0x400, 32, 8, 4, 1, [.ED_RX_LO]⟩,
  ⟨0x404, 32, 8, 4, 1, [.ED_RX_HI]⟩,
  ⟨0x408, 32, 8, 4, 1, [.ED_RX_STAT_COUNT, .ED_RX_STAT_RING, .ED_RX_STAT_TIMEOUT]⟩,
  ⟨0x40c, 32, 8, 4, 1, [.ED_RX_POP]⟩,
  ⟨0xf00, 4, 1, 4, 1, [.ED_IE_RX, .ED_IE_EMPTY]⟩]

/-- Registers of R357. -/
def rows_lkregs : List RegRow := [
  ⟨0x0, 4, 64, 4, 1, [.LK_REG]⟩,
  ⟨0x100, 4, 1, 4, 1, [.LK_BADREL_LO]⟩,
  ⟨0x104, 4, 1, 4, 1, [.LK_BADREL_HI]⟩]

/-- Registers of R376. -/
def rows_delta : List RegRow := [
  ⟨0x0, 4, 1, 4, 1, [.DM_CTL_EN]⟩,
  ⟨0x4, 4, 1, 4, 1, [.DM_STAT_REFUSED, .DM_STAT_RSTDONE, .DM_STAT_INFL]⟩,
  ⟨0x8, 4, 1, 4, 1, [.DM_FRESET_FUNC]⟩,
  ⟨0xc, 4, 1, 4, 1, [.DM_RSTBUSY]⟩,
  ⟨0x10, 4, 1, 4, 1, [.DM_RSTDONE]⟩,
  ⟨0x20, 4, 4, 4, 1, [.DM_CNT_OPS]⟩,
  ⟨0x30, 4, 1, 4, 1, [.DM_CNT_SQUASH]⟩,
  ⟨0x34, 4, 1, 4, 1, [.DM_CNT_NOTEXEC]⟩,
  ⟨0x38, 4, 1, 4, 1, [.DM_CNT_DBREF]⟩,
  ⟨0x100, 4, 64, 4, 1, [.DM_QCFG_FUNC, .DM_QCFG_CLASS, .DM_QCFG_SHARE, .DM_QCFG_RSTMODE]⟩,
  ⟨0x200, 16, 32, 4, 1, [.DM_FCFG_WORLD, .DM_FCFG_MAXINFL, .DM_FCFG_EN]⟩,
  ⟨0x204, 16, 32, 4, 1, [.DM_EMMC_BASE]⟩,
  ⟨0x208, 16, 32, 4, 1, [.DM_EMMC_COUNT]⟩,
  ⟨0x1000, 16, 128, 4, 1, [.DM_WIN_BASE_LO]⟩,
  ⟨0x1004, 16, 128, 4, 1, [.DM_WIN_BASE_HI]⟩,
  ⟨0x1008, 16, 128, 4, 1, [.DM_WIN_SIZE_LO]⟩,
  ⟨0x100c, 16, 128, 4, 1, [.DM_WIN_SIZE_HI]⟩]

/-- Registers of R377. -/
def rows_deltaFn : List RegRow := [
  ⟨0x0, 4, 1, 4, 1, [.DF_STAT_INFL, .DF_STAT_RESET]⟩,
  ⟨0x4, 4, 1, 4, 1, [.DF_INT_CPL, .DF_INT_RSTDONE, .DF_INT_REFUSED, .DF_INT_FAULT]⟩,
  ⟨0x8, 4, 1, 4, 1, [.DF_IE]⟩]

/-- Registers of R377. -/
def rows_deltaQ : List RegRow := [
  ⟨0x0, 4, 1, 4, 1, [.DQ_CTL_EN]⟩,
  ⟨0x4, 4, 1, 4, 1, [.DQ_RING_LO]⟩,
  ⟨0x8, 4, 1, 4, 1, [.DQ_RING_HI]⟩,
  ⟨0xc, 4, 1, 4, 1, [.DQ_SIZE]⟩,
  ⟨0x10, 4, 1, 4, 1, [.DQ_CPL_LO]⟩,
  ⟨0x14, 4, 1, 4, 1, [.DQ_CPL_HI]⟩,
  ⟨0x18, 4, 1, 4, 1, [.DQ_HEAD]⟩,
  ⟨0x1c, 4, 1, 4, 1, [.DQ_TAIL]⟩,
  ⟨0x20, 4, 1, 4, 1, [.DQ_DBRES_CODE, .DQ_DBRES_BUSY]⟩,
  ⟨0x24, 4, 1, 4, 1, [.DQ_CWR]⟩,
  ⟨0x28, 4, 1, 4, 1, [.DQ_CRD]⟩,
  ⟨0x2c, 4, 1, 4, 1, [.DQ_STAT_PEND, .DQ_STAT_OVERSHARE, .DQ_STAT_CFULL, .DQ_STAT_DRAINTO, .DQ_STAT_NOTEXEC]⟩]

/-- Registers of R432. -/
def rows_od : List RegRow := [
  ⟨0x0, 4, 1, 4, 1, [.OD_CTL_SDO, .OD_CTL_DOP, .OD_CTL_SVC]⟩,
  ⟨0x4, 4, 1, 4, 1, [.OD_STAT_REFUSED, .OD_STAT_BUSYEVT]⟩,
  ⟨0x8, 4, 1, 4, 1, [.OD_CNT_REQ]⟩,
  ⟨0xc, 4, 1, 4, 1, [.OD_CNT_ABORT]⟩,
  ⟨0x10, 4, 1, 4, 1, [.OD_CNT_BUSY]⟩,
  ⟨0x14, 4, 1, 4, 1, [.OD_QDEPTH_P, .OD_QDEPTH_E, .OD_QDEPTH_S, .OD_QDEPTH_B, .OD_QDEPTH_I]⟩,
  ⟨0x100, 8, 16, 4, 1, [.OD_OVR_FIRST, .OD_OVR_LAST]⟩,
  ⟨0x104, 8, 16, 4, 1, [.OD_OVR_NOREAD, .OD_OVR_NOWRITE, .OD_OVR_VALID]⟩]

/-- Registers of R463. -/
def rows_upd : List RegRow := [
  ⟨0x0, 4, 1, 4, 1, [.UPD_CMD_OP, .UPD_CMD_UNIT]⟩,
  ⟨0x4, 4, 1, 4, 1, [.UPD_CTL_RESUME]⟩,
  ⟨0x8, 4, 1, 4, 1, [.UPD_STAT_STATE, .UPD_STAT_BANK, .UPD_STAT_TRIAL, .UPD_STAT_TRIALS, .UPD_STAT_RETURNED, .UPD_STAT_FALLBACK, .UPD_STAT_OTHERVALID, .UPD_STAT_CARD, .UPD_STAT_LASTFAIL, .UPD_STAT_MIROTHER]⟩,
  ⟨0xc, 4, 1, 4, 1, [.UPD_RESULT_CODE, .UPD_RESULT_REFUSED]⟩,
  ⟨0x10, 4, 1, 4, 1, [.UPD_PROGRESS]⟩,
  ⟨0x14, 4, 1, 4, 1, [.UPD_MSEQ_FORCE]⟩,
  ⟨0x18, 4, 1, 4, 1, [.UPD_MSEQ_OTHER]⟩,
  ⟨0x1c, 4, 1, 4, 1, [.UPD_CONFIRM_LEFT]⟩,
  ⟨0x20, 4, 5, 4, 1, [.UPD_VER]⟩,
  ⟨0x40, 4, 5, 4, 1, [.UPD_OVER]⟩]

/-- The register rows of each block. -/
def Block.rows : Block → List RegRow
  | .millrace => rows_millrace
  | .gauge => rows_gauge
  | .gaugeEst => rows_gaugeEst
  | .die => rows_die
  | .chan => rows_chan
  | .ioDie => rows_ioDie
  | .io => rows_io
  | .can => rows_can
  | .weir => rows_weir
  | .xcvr => rows_xcvr
  | .confluence => rows_confluence
  | .braid => rows_braid
  | .sysctl => rows_sysctl
  | .lock => rows_lock
  | .ferry => rows_ferry
  | .floodgate => rows_floodgate
  | .eddy => rows_eddy
  | .lkregs => rows_lkregs
  | .delta => rows_delta
  | .deltaFn => rows_deltaFn
  | .deltaQ => rows_deltaQ
  | .od => rows_od
  | .upd => rows_upd

end Sys2Proof.Machine
end

