-- ==== Sys2Proof/Machine/State.lean ====
section
/-!
DEFINITION. The state of the block as plain data, the state after reset, and the reasons a step can stop.
-/
namespace Sys2Proof.Machine

/-- Why a command faults. No command of this block does: the manual gives every refused access an effect (an access
fault returned to the initiator, R335), which is a next state. -/
inductive Fault where
  /-- Raised by nothing; the type has to have a value. Safe. -/
  | none
  deriving DecidableEq, Repr

/-- Why a command is refused. -/
inductive Refusal where
  /-- Raised by `exec` for a command that has no meaning yet. Safe. -/
  | notModelled (mnemonic : String)
  deriving DecidableEq, Repr

/-- The register file: one entry for each field instance that differs from its reset value. -/
abbrev RegFile := AMap (Fld × Nat) Nat

/-- The order of register file keys. -/
def keyOrd (k : Fld × Nat) : Nat := k.1.ctorIdx + 1024 * k.2

/-- The state of the block. -/
structure State where
  regs : RegFile := []                        -- every register field, by register table
  shadow : List ((Fld × Nat) × Nat) := []     -- class T writes waiting for the boundary (R5)
  mem : List Host.Cell := []                  -- the memories of R335 (physical addresses)
  now : Nat := 0                              -- time since power-on, 10 ns units
  release : Nat := 0                          -- time of the last release of reset (R64)
  resp : Resp := .none                        -- what the last command returned
  irqs : List Nat := []                       -- interrupt sources raised (1000 + n: twin on Headwater's controller)
  eseq : Nat := 0                             -- last event number (always-on domain)
  elog : List LogRec := []                    -- the event log, newest first, at most 4,096 records
  free : Nat := 0                             -- the model's own counter of free values drawn
  mr : Millrace := {}
  evt : NMap EvtEntry := []                   -- the event table
  gauge : Gauge := {}
  chan : NMap Chan := []
  die : NMap Die := []
  io : NMap Io := []
  gate : Gate := {}                           -- Floodgate
  can : NMap CanCh := []
  route : NMap RouteEntry := []               -- Weir's routing table
  stream : NMap Stream := []                  -- Weir's stream table
  seg : NMap Seg := []
  conf : Conf := {}
  port : NMap Port := []
  handed : List (Nat × List Nat) := []        -- requests handed over: port p or 0x200 + CAN channel to the object engine, 0x100 to Weir
  braid : Braid := {}
  factory : Factory := {}
  ferry : Ferry := {}                         -- what the Ferry links hold
  errWorld : NMap World := []                 -- world of the initiator of each Ferry error log entry (R345, R346)
  eddy : NMap EddyCh := []                    -- channel of sender e and receiver r at 8e + r
  locks : NMap LockReg := []                  -- LK_0 to LK_63
  emmc : List Host.Cell := []                 -- the eMMC, by byte
  dq : NMap DeltaQ := []
  delta : Delta := {}
  head : Headwater := {}
  hart : NMap Hart := []
  upd : Updater := {}
  pw : Power := {}
  od : Od := {}
  pending : List Instr := []                  -- commands that wait, first in first out
  deriving DecidableEq, Repr

/-- The state right after power-on reset. Every register holds its reset value (an unlisted field reads it). -/
def State.reset : State := {}

end Sys2Proof.Machine
end

