-- ==== Sys2Proof/Machine/Ops.lean ====
section
/-!
DEFINITION. The named operations over the state that every family uses: register fields, instance tables, memory,
time and stamps (R63, R64), worlds (R326, R379), the event log (R427), interrupts (R353), the region checker (R382, R383),
locks (R443), the claim, and the Ferry error log (R345, R346).
-/
namespace Sys2Proof.Machine

/-- The outcome type of a command. -/
abbrev Out := Host.Outcome State Fault Refusal

/-! ## Registers -/

/-- The value in effect of field `f` of register instance `i`. -/
def State.rd (s : State) (f : Fld) (i : Nat := 0) : Nat := AMap.get (f.reset i) s.regs (f, i)

/-- `v`, cut to the field's width, put into field `f` of register instance `i`. -/
def State.wr (s : State) (f : Fld) (v : Nat) (i : Nat := 0) : State :=
  { s with regs := AMap.set keyOrd (f.reset i) s.regs (f, i) (cut f.info.width v) }

/-- A one-bit field as a truth value. -/
abbrev State.flag (s : State) (f : Fld) (i : Nat := 0) : Bool := s.rd f i != 0

/-- A bit set. -/
abbrev State.setF (s : State) (f : Fld) (i : Nat := 0) : State := s.wr f 1 i

/-- A bit cleared. -/
abbrev State.clrF (s : State) (f : Fld) (i : Nat := 0) : State := s.wr f 0 i

/-- A bit given a truth value. -/
abbrev State.putF (s : State) (f : Fld) (b : Bool) (i : Nat := 0) : State := s.wr f (b2n b) i

/-- `n` added to a count, saturating at the largest value of the field (R478). -/
def State.inc (s : State) (f : Fld) (i : Nat := 0) (n : Nat := 1) : State :=
  s.wr f (min (s.rd f i + n) (2 ^ f.info.width - 1)) i

/-- A signed field. -/
abbrev State.rdI (s : State) (f : Fld) (i : Nat := 0) : Int := toInt f.info.width (s.rd f i)

/-- A signed field set to `x`, saturating at the limits of its width (R478). -/
def State.wrI (s : State) (f : Fld) (x : Int) (i : Nat := 0) : State :=
  let m : Int := 2 ^ (f.info.width - 1)
  s.wr f (ofInt f.info.width (max (-m) (min (m - 1) x))) i

/-- A field back at its reset value. -/
abbrev State.rst (s : State) (f : Fld) (i : Nat := 0) : State := s.wr f (f.reset i) i

/-- Bit `n` of a register set or cleared. -/
def State.putBit (s : State) (f : Fld) (n : Nat) (b : Bool) (i : Nat := 0) : State :=
  let v := s.rd f i
  if bit v n = b then s else s.wr f (if b then v + 2 ^ n else v - 2 ^ n) i

/-- An operation folded over a list. -/
abbrev State.each {α : Type} (s : State) (l : List α) (g : State → α → State) : State := l.foldl g s

/-- The operation where the condition holds. -/
abbrev State.when (s : State) (c : Bool) (g : State → State) : State := if c then g s else s

/-! ## Instance tables -/

abbrev State.ch (s : State) (k : Nat) : Chan := NMap.at {} s.chan k
abbrev State.setCh (s : State) (k : Nat) (c : Chan) : State := { s with chan := NMap.put {} s.chan k c }
abbrev State.di (s : State) (g : Nat) : Die := NMap.at {} s.die g
abbrev State.setDi (s : State) (g : Nat) (d : Die) : State := { s with die := NMap.put {} s.die g d }
abbrev State.fio (s : State) (k : Nat) : Io := NMap.at {} s.io k
abbrev State.setIo (s : State) (k : Nat) (c : Io) : State := { s with io := NMap.put {} s.io k c }
abbrev State.cn (s : State) (k : Nat) : CanCh := NMap.at {} s.can k
abbrev State.setCn (s : State) (k : Nat) (c : CanCh) : State := { s with can := NMap.put {} s.can k c }
abbrev State.entry (s : State) (i : Nat) : EvtEntry := NMap.at {} s.evt i
abbrev State.setEntry (s : State) (i : Nat) (e : EvtEntry) : State := { s with evt := NMap.put {} s.evt i e }

abbrev State.sg (s : State) (n : Nat) : Seg := NMap.at {} s.seg n
abbrev State.setSg (s : State) (n : Nat) (c : Seg) : State := { s with seg := NMap.put {} s.seg n c }
abbrev State.strm (s : State) (n : Nat) : Stream := NMap.at {} s.stream n
abbrev State.setStrm (s : State) (n : Nat) (c : Stream) : State := { s with stream := NMap.put {} s.stream n c }

abbrev State.ed (s : State) (i : Nat) : EddyCh := NMap.at {} s.eddy i
abbrev State.setEd (s : State) (i : Nat) (c : EddyCh) : State := { s with eddy := NMap.put {} s.eddy i c }
abbrev State.lk (s : State) (n : Nat) : LockReg := NMap.at {} s.locks n
abbrev State.setLk (s : State) (n : Nat) (c : LockReg) : State := { s with locks := NMap.put {} s.locks n c }

abbrev State.pt (s : State) (p : Nat) : Port := NMap.at {} s.port p
abbrev State.setPt (s : State) (p : Nat) (c : Port) : State := { s with port := NMap.put {} s.port p c }

/-- A request handed over, and one taken by the unit that serves it. -/
abbrev State.hand (s : State) (to' : Nat) (bytes : List Nat) : State := { s with handed := s.handed ++ [(to', bytes)] }
abbrev State.taken (s : State) (to' : Nat) : State := { s with handed := s.handed.eraseP (·.1 == to') }

/-! ## Memory -/

abbrev State.byteAt (s : State) (a : Nat) : Nat := Memory.rd8 s.mem a
abbrev State.word (s : State) (a : Nat) : Nat := Memory.rd32 s.mem a
abbrev State.setWord (s : State) (a v : Nat) : State := { s with mem := Memory.wr32 s.mem a v }
abbrev State.bytesAt (s : State) (a n : Nat) : List Nat := Memory.rdBytes s.mem a n
abbrev State.setBytes (s : State) (a : Nat) (l : List Nat) : State := { s with mem := Memory.wrBytes s.mem a l }

abbrev State.wipe (s : State) (a n : Nat) : State := { s with mem := Memory.wipe s.mem a n }

/-- Base of Gauge SRAM (R335). -/
abbrev gaugeSram : Nat := 0x18000000

/-- Base of the window of die `g` (R335). -/
abbrev dieWindow (g : Nat) : Nat := 0x40080000 + g * 0x10000

/-! ## Responses -/

/-- The command's answer. -/
abbrev State.answer (s : State) (r : Resp) : State := { s with resp := r }

/-! ## Free values -/

/-- The next free value; `freshened` advances the counter. -/
abbrev State.fresh (s : State) : Nat := Config.freeValue s.free
abbrev State.freshened (s : State) : State := { s with free := s.free + 1 }

/-! ## Time and stamps -/

/-- MILL ticks since the release of reset (the free-running counter with its wrap count, R64). -/
def State.ticks (s : State) : Nat := (s.now - s.release) % 2 ^ 48

/-- `dt` MILL ticks pass. -/
def State.advance (s : State) (dt : Nat) : State := { s with now := s.now + dt }

/-- Phase time runs: LOCKED, HOLDOVER or RELOCK (R58). -/
def State.phaseRuns (s : State) : Bool := 2 ≤ s.rd .MR_STAT_STATE && s.rd .MR_STAT_STATE ≤ 4

/-- The angle: the time since the boundary at the frequency in force and the slew of the turn, held at 0xFF_FFFF until
the boundary (R53, log entry 7). -/
def State.angle (s : State) : Nat :=
  if s.phaseRuns then
    let per := (2 ^ 24 + s.mr.slew).toNat
    min 0xFFFFFF ((s.now - s.mr.boundary) * s.mr.rate * per / (65536 * 100000000))
  else s.mr.frozen

/-- The first MILL tick at which the angle of this turn is at least `a` (`a` up to 2^24, the next boundary); the present
one while the frequency in force is zero. -/
def State.tickAt (s : State) (a : Nat) : Nat :=
  let v := s.mr.rate * (2 ^ 24 + s.mr.slew).toNat
  if v = 0 then s.now else s.mr.boundary + ceilDiv (a * 65536 * 100000000) v

/-- Time advances to the tick at which the angle is `a`, where that lies ahead. -/
def State.waitAngle (s : State) (a : Nat) : State := { s with now := max s.now (s.tickAt a) }

/-- Present phase time, 48 bits (R53). -/
def State.phase (s : State) : Nat := s.mr.turn * 2 ^ 24 + s.angle

/-- Stamp kind of R63, by R58 and R64. -/
def State.stampKind (s : State) : Nat :=
  if s.flag .MR_CTL_TEST then 0
  else match s.rd .MR_STAT_STATE with
    | 2 => 1
    | 3 => 2
    | 4 => 3
    | _ => 0

/-- The stamp of the present moment (R63). -/
def State.stamp (s : State) : Nat :=
  (if s.stampKind = 0 then s.ticks else s.phase) + s.stampKind * 2 ^ 48

/-- The stamp of a moment `dt` MILL ticks ago (R63). -/
def State.stampBefore (s : State) (dt : Nat) : Nat :=
  (if s.stampKind = 0 then s.ticks + 2 ^ 48 - dt
   else s.phase + 2 ^ 48 - dt * s.mr.rate * (2 ^ 24 + s.mr.slew).toNat / (65536 * 100000000)) % 2 ^ 48 + s.stampKind * 2 ^ 48

/-- `a` is later than `b` (R54). -/
def later (a b : Nat) : Bool :=
  let d := (a + 2 ^ 48 - b % 2 ^ 48) % 2 ^ 48
  1 ≤ d && d ≤ 2 ^ 47 - 1

/-- The baseplate temperature that the module reports, 0.001 °C (R21): its sensor's reading. No register, object or event of
the manual shows it (log entry 80). -/
def State.plateTemp (s : State) : Int := Config.plateTemp s.now

/-- Neither logic feed is present: the always-on domain watches no pin (R26, R32, R48). -/
def State.unpowered (s : State) : Bool := s.pw.off || !(s.pw.logicIn || s.pw.logicAlt)

/-- The part of Molgar outside the always-on domain has power and clocks: START, Run and Trim, with a logic feed (R334, R436). -/
def State.awake (s : State) : Bool := s.rd .SYS_PWR_STAT_STATE ≤ 2 && !s.unpowered

/-- The effect of a command of that part: without power or clock nothing happens. -/
abbrev State.running (s : State) (o : Out) : Out := if s.awake then o else .next s

/-- The master is a safety pair whose clock is frozen (R331). -/
def State.frozenPair (s : State) (who : Initiator) : Bool :=
  (who.master == 1 && s.flag .LS_STAT_FROZEN 0) || (who.master == 2 && s.flag .LS_STAT_FROZEN 1)

/-- A master runs: the application cores not in Trim (R334), a safety pair not while its clock is frozen (R331), and in rescue
(R459) or where the digest of the boot ROM is wrong (R336) no processor but Headwater. -/
def State.masterRuns (s : State) (who : Initiator) : Bool :=
  let core := 0x08 ≤ who.master && who.master ≤ 0x0B
  s.awake && !(core && s.rd .SYS_PWR_STAT_STATE == 2) && !s.frozenPair who && ((s.factory.romOk && s.rd .UPD_STAT_STATE != 6) || !(core || who.master == 1 || who.master == 2))

/-- The effect of a command that a master sends. -/
abbrev State.asMaster (s : State) (who : Initiator) (o : Out) : Out := if s.masterRuns who then o else .next s

/-! ## Worlds -/

/-- The world of an initiator: that of its master (R326); a Delta function has the world of DM_FCFG. -/
def State.worldOf (s : State) (i : Initiator) : World :=
  if i.master = 0x00 || i.master = 0x13 then .secure
  else if i.master = 0x01 || i.master = 0x02 || i.master = 0x03 || i.master = 0x14 then .safety
  else if 0x08 ≤ i.master && i.master ≤ 0x0B then .normal
  else if 0x20 ≤ i.master && i.master ≤ 0x3F then World.ofCode (s.rd .DM_FCFG_WORLD (i.master - 0x20))
  else i.claim

/-- The world that owns load channel `k` (R380). -/
def State.chanWorld (s : State) (k : Nat) : World := World.ofCode (bits (s.rd .WA_SL (k / 16)) (2 * (k % 16)) 2)

/-- The world that owns field channel `k` (R380). -/
def State.ioWorld (s : State) (k : Nat) : World := World.ofCode (bits (s.rd .WA_IO (k / 16)) (2 * (k % 16)) 2)

/-- The world that owns CAN channel `k` (R380). -/
def State.canWorld (s : State) (k : Nat) : World := World.ofCode (bits (s.rd .WA_CAN) (2 * k) 2)

/-- The world that owns port `p` (R380). -/
def State.portWorld (s : State) (p : Nat) : World := World.ofCode (bits (s.rd .WA_PORT) (2 * p) 2)

/-- The world that owns phase line `n` (R380). -/
def State.lineWorld (s : State) (n : Nat) : World := World.ofCode (bits (s.rd .WA_MRIRQ) (2 * n) 2)

/-- Ownership check of R379: the owning world, and the secure world. -/
def owns (w owner : World) : Bool := w == owner || w == .secure

/-! ## Event log -/

/-- One event log record with the next ESEQ (R427). -/
def State.logStamped (s : State) (stamp src evt : Nat) (who : Initiator) (data : List Nat) : State :=
  let e := if s.eseq = 0xFFFFFFFF then 1 else s.eseq + 1
  { s with eseq := e,
           elog := (⟨stamp, e, src, evt, who.master, (s.worldOf who).code, data⟩ :: s.elog).take 4096 }

/-- One event log record of the present moment. -/
abbrev State.log (s : State) (src evt : Nat) (who : Initiator) (data : List Nat) : State :=
  s.logStamped s.stamp src evt who data

/-! ## The log in system SRAM -/

/-- The area of the log (R427), and whether a range keeps off it. -/
abbrev logBase : Nat := 0x107E0000
abbrev logSize : Nat := 0x20000
abbrev offLog (a n : Nat) : Bool := a + n ≤ logBase || logBase + logSize ≤ a

/-- Secure-only areas of system SRAM below the log: the measurement log (R390), and the Lalos sequencer image, from which the
dies fetch it (R449). The manual gives their contents and no address (DESIGN CHOICE, log entry 100). -/
abbrev measBase : Nat := 0x107DF000
abbrev measSize : Nat := 289
abbrev lalosBase : Nat := 0x107D7000
abbrev offSecure (a n : Nat) : Bool := a + n ≤ lalosBase || logBase ≤ a

/-- Place of the `i`-th newest record in the area: ESEQ 1 takes the first one (DESIGN CHOICE, log entry 97). -/
abbrev State.logPlace (s : State) (i : Nat) : Nat := logBase + 32 * ((s.eseq + 8191 - i) % 4096)

/-- A byte of a record in the area. -/
def State.logByte (s : State) (a : Nat) : Option Nat :=
  if offLog a 1 then none
  else (s.elog[(s.eseq + 8191 - (a - logBase) / 32) % 4096]?).map fun r => r.bytes.getD (a % 32) 0

/-- Bytes of memory as they read, the records of the log among them. -/
def State.dataAt (s : State) (a n : Nat) : List Nat :=
  if offLog a n then s.bytesAt a n else (List.range n).map fun i => (s.logByte (a + i)).getD (s.byteAt (a + i))

/-- The record that 32 bytes spell. -/
def LogRec.ofBytes (l : List Nat) : LogRec :=
  ⟨leVal (l.take 8), leVal ((l.drop 8).take 4), l.getD 12 0, l.getD 13 0, l.getD 14 0, l.getD 15 0, (l.drop 16).take 16⟩

/-- Bytes stored; those in the area of the log change the records that stand there. -/
def State.store (s : State) (a : Nat) (l : List Nat) : State :=
  let t := s.setBytes a l
  if offLog a l.length then t
  else { t with elog := s.elog.zipIdx.map fun x =>
    let b := s.logPlace x.2
    if b + 32 ≤ a || a + l.length ≤ b then x.1
    else LogRec.ofBytes (x.1.bytes.zipIdx.map fun y =>
      if a ≤ b + y.2 && b + y.2 < a + l.length then l.getD (b + y.2 - a) 0 % 256 else y.1) }

/-! ## Interrupts -/

/-- Interrupt source `n` raised. -/
def State.raise (s : State) (n : Nat) : State :=
  if s.irqs.contains n then s else { s with irqs := n :: s.irqs }

/-- The source of a "normal; safety" pair for a world (R353). -/
def pairSource (normal safety : Nat) : World → Nat
  | .normal => normal
  | .safety => safety
  | .secure => 1000 + normal

/-- The source of a resource's world (R353). -/
def twinSource (n : Nat) : World → Nat
  | .secure => 1000 + n
  | _ => n

/-- A source pair "normal; safety" raised for a world; the secure world has the twin of the normal source (R353). -/
def State.raiseFor (s : State) (normal safety : Nat) (w : World) : State := s.raise (pairSource normal safety w)

/-- A source listed for the world of a resource. -/
def State.raiseOf (s : State) (n : Nat) (w : World) : State := s.raise (twinSource n w)

/-- The unit is in STANDBY (R290). -/
abbrev State.standby (s : State) : Bool := s.rd .BR_STAT_STATE == 4

/-- One of these flags of instance `i` is set. -/
def State.anySet (s : State) (l : List Fld) (i : Nat := 0) : Bool := l.any (s.flag · i)

/-- The W1C bits of CAN_STAT that raise the interrupt of the channel's owner while set (R235). RXEVT is apart: it raises that
of the world of the ring written. -/
def canLevel : List Fld :=
  [.CAN_STAT_PASSEVT, .CAN_STAT_BOEVT, .CAN_STAT_REFUSED, .CAN_STAT_PXE, .CAN_STAT_TDCERR, .CAN_STAT_RINGOVF, .CAN_STAT_STAGEOVF,
   .CAN_STAT_NOREL, .CAN_STAT_DONEEVT]

/-- The receive (1) or the empty and timeout (2) interrupt of Eddy endpoint `e`: sources 144 to 147 of the safety pairs, an
identity of the machine file of a hart (3000 + 10 × hart + identity), or Headwater's local controller (3060 + kind)
(R348, R353). -/
def eddySource (e kind : Nat) : Nat :=
  match e with
  | 4 => 143 + kind
  | 5 => 145 + kind
  | 6 => 3060 + kind
  | n => 3000 + 10 * n + kind

/-- A W1C bit holds source `n` raised: the line is high while the bit is set and falls when software clears it (R79, R100,
R156, R187, R206, R235, R258, R287, R324, R348, R376, R377). The global flags of CF_STAT belong to both worlds that may write
the global registers (DEDUCED, log entry 71). -/
def State.levelHigh (s : State) (n : Nat) : Bool :=
  (n = 17 && s.anySet [.MR_STAT_FRANGE, .MR_STAT_REFUSED, .MR_STAT_REFLATE, .MR_STAT_LOSS])
  || (n = 18 && s.anySet [.GA_STAT_REFUSED, .GA_STAT_LATE, .GA_STAT_MISSING, .GA_STAT_DUP, .GA_STAT_BAD])
  || (28 ≤ n && n < 32 && !s.standby && s.anySet [.SL_DIE_STAT_REFUSED, .SL_DIE_STAT_FEEDOVR, .SL_DIE_STAT_SHED, .SL_DIE_STAT_BUDGET,
      .SL_UV_STAT_UVEVT, .SL_WD_STAT_EXPIRED, .SL_WD_STAT_BADSERVE, .SL_WD_STAT_FSBAD] (n - 28))
  || (36 ≤ n && n < 40 && !s.standby && s.anySet [.IO_DSTAT_REFUSED, .IO_DSTAT_FIFOOVF] (n - 36))
  || (n = 46 && s.anySet [.WE_STAT_REFUSED, .WE_STAT_FWDDROP, .WE_STAT_REVOKED])
  || (n = 47 && s.anySet [.BR_STAT_CLAIMFAULT, .BR_STAT_DIVERGE, .BR_STAT_TAKEOVER, .BR_STAT_INDIFF, .BR_STAT_REFUSED,
      .BR_STAT_SENSEDIFF, .BR_STAT_ISOLATED, .BR_STAT_LAG, .BR_STAT_LOCKDIFF])
  || ((List.range 16).any fun k => n = pairSource (48 + k) (64 + k) (s.canWorld k) && s.anySet canLevel k)
  || ((n = 80 || n = 81) && s.anySet [.CF_STAT_REFUSED, .CF_STAT_STOMP])
  || ((List.range 10).any fun p => n = pairSource 80 81 (s.portWorld p) && s.flag .CFP_STAT_LINKEVT p)
  || ((List.range 32).any fun f => n = twinSource (112 + f) (World.ofCode (s.rd .DM_FCFG_WORLD f))
      && ([Fld.DF_INT_CPL, .DF_INT_RSTDONE, .DF_INT_REFUSED, .DF_INT_FAULT].any fun x => s.flag x f && bit (s.rd .DF_IE f) x.info.lo))
  || (n = twinSource 112 (World.ofCode (s.rd .DM_FCFG_WORLD 0)) && s.anySet [.DM_STAT_REFUSED, .DM_STAT_RSTDONE])
  || ((List.range 7).any fun e => n = eddySource e 1 && (List.range 8).any fun x => s.flag .ED_RX_STAT_RING (8 * e + x) && bit (s.rd .ED_IE_RX e) x)

/-- Interrupt source `n` as the controllers see it (1000 + n: the twin on Headwater's controller): an event has raised it, or
a W1C bit holds it. -/
def State.irqLine (s : State) (n : Nat) : Bool := s.irqs.contains n || s.levelHigh n

/-- An event source falls: software has cleared the bit that stands for the event (R228, R348, log entry 71). -/
def State.lower (s : State) (n : Nat) : State := { s with irqs := s.irqs.filter (· ≠ n) }

/-- The Sluice and the field I/O interrupt of die `g` for a world (R353). -/
abbrev State.slRaise (s : State) (g : Nat) (w : World) : State := s.raiseFor (24 + g) (28 + g) w
abbrev State.ioRaise (s : State) (g : Nat) (w : World) : State := s.raiseFor (32 + g) (36 + g) w

/-- The Sluice and the field I/O interrupt of die `g` for an event of the unit's own die: in STANDBY the active unit's records raise
die interrupts, the unit's own dies none (R303). -/
def State.slIrq (s : State) (g : Nat) (w : World) : State := if s.standby then s else s.slRaise g w
def State.ioIrq (s : State) (g : Nat) (w : World) : State := if s.standby then s else s.ioRaise g w

/-! ## The region checker -/

/-- The range lies in the area of `size` bytes at `base`. -/
abbrev within (base size a n : Nat) : Bool := base ≤ a && a + n ≤ base + size

/-- The memories that the region checker governs (R382): system SRAM, journal MRAM and DRAM. -/
def checkedMem (a n : Nat) : Bool :=
  within 0x10000000 0x800000 a n || within 0x20000000 0x1000000 a n || within 0x800000000 0x100000000 a n

/-- Kinds of access. -/
inductive Access where
  | read | write | exec
  deriving DecidableEq, Repr

/-- Bit of the permission fields of HW_RGN_PERM. -/
def Access.bitNo : Access → Nat
  | .read => 0
  | .write => 1
  | .exec => 2

/-- The range lies wholly in region `r`, which is valid. -/
def State.inRegion (s : State) (r a n : Nat) : Bool :=
  s.flag .HW_RGN_PERM_VALID r && within (s.rd .HW_RGN_BASE_LO r + 2 ^ 32 * s.rd .HW_RGN_BASE_HI r) (4096 * s.rd .HW_RGN_SIZE r) a n

/-- The decision of the region checker (R382): the first valid region that contains the whole access. -/
def State.regionOk (s : State) (w : World) (a n : Nat) (k : Access) : Bool :=
  match w with
  | .secure => true
  | w =>
    match (List.range 32).find? fun r => s.inRegion r a n with
    | some r => bit (s.rd (if w = .normal then .HW_RGN_PERM_N else .HW_RGN_PERM_S) r) k.bitNo
    | none => false

/-- The range lies in the parameter bank in force, which cannot be written (R109). -/
def State.bankInForce (s : State) (a n : Nat) : Bool :=
  within (gaugeSram + 0x84000 + 0x2000 * s.rd .GE_PARAM_SEL_BANK) 0x2000 a n

/-- The areas of Gauge SRAM that software may write (R125): the parameter bank not in force and the geometry shadow. -/
def State.gaugeWritable (s : State) (a n : Nat) : Bool :=
  within (gaugeSram + 0x84000 + 0x2000 * (1 - s.rd .GE_PARAM_SEL_BANK)) 0x2000 a n || within (gaugeSram + 0xA0000) 0x18000 a n

/-- An access to a memory of R335 is permitted to a world (R336, R382, R383): the boot ROM only to Headwater and the
loader, the measurement log and the Lalos image only to the secure world (R390, R449), and a write to the event log only to
it (R427). -/
def State.memOk (s : State) (master : Nat) (w : World) (a n : Nat) (k : Access) : Bool :=
  if checkedMem a n then s.regionOk w a n k && (w = .secure || (offSecure a n && (k != .write || offLog a n)))
  else if within gaugeSram 0x180000 a n then
    (match k with
      | .read => true
      | .write => (w = .secure && !s.bankInForce a n) || s.gaugeWritable a n
      | .exec => false)
  else if within 0x30000000 0x10000000 a n then k != .write
  else if within 0 0x40000 a n then k != .write && (master = 0x00 || master = 0x13)
  else false

/-- A range cut at 4 KiB boundaries; `fuel` bounds the number of pieces. -/
def pagesOf (fuel a n : Nat) : List (Nat × Nat) :=
  match fuel with
  | 0 => []
  | fuel + 1 =>
    if n = 0 then []
    else
      let m := min n (4096 - a % 4096)
      (a, m) :: pagesOf fuel (a + m) (n - m)

/-- A range accessed page by page. -/
def pages (a n : Nat) : List (Nat × Nat) := pagesOf (n / 4096 + 2) a n

/-- A range of memory is permitted to a master and a world. -/
def State.rangeOk (s : State) (master : Nat) (w : World) (a n : Nat) (k : Access) : Bool :=
  (pages a n).all fun p => s.memOk master w p.1 p.2 k

/-- The record of an access that the map or the region checker refuses to a master (R335): address and size, the latter cut to
its byte. -/
def State.denied (s : State) (master : Nat) (w : World) (a n : Nat) : State :=
  s.log 0x01 0x01 ⟨master, w⟩ (leBytes 5 a ++ [min n 255])

/-! ## Locks and claim -/

/-- Lock bit `n` of R443 is set. -/
def State.locked (s : State) (n : Nat) : Bool := bit (s.rd .LK_STAT_LOCKS) n

/-- Fields under lock `n` are frozen for a sender: the restore window opens them to the safety and secure worlds (R439). -/
def State.frozen (s : State) (who : Initiator) (n : Nat) : Bool :=
  s.locked n && !(s.flag .SYS_WAKE_RESTORE && s.worldOf who != .normal)

/-- The record of a write that would change a frozen field: address or index.sub, and value (R6, R428). -/
abbrev State.logLocked (s : State) (who : Initiator) (addr value : Nat) : State :=
  s.log 0x01 0x02 who (leBytes 5 addr ++ leBytes 4 value)

/-- The unit holds the active claim, after confirmation (R291). -/
abbrev State.claim (s : State) : Bool := s.flag .BR_STAT_CLAIM

/-- The unit runs in pair mode (R289). -/
abbrev State.pairMode (s : State) : Bool := s.rd .BR_CTL_MODE == 1

/-- Every lock of a master that is reset is released with ORPHAN (R352). -/
def State.releaseLocks (s : State) (master : Nat) : State :=
  s.each ((List.range 64).filter fun n => (s.lk n).owner == some master) fun s n => s.setLk n ⟨none, true⟩

/-! ## Ferry error log -/

/-- The lowest error log entry whose VALID is clear. -/
def State.freeElog (s : State) : Option Nat := (List.range 16).find? fun e => !s.flag .FY_ELOG_A_VALID e

/-- A failed posted write is logged with its initiator's world, or counted where the log is full (R345, R346). -/
def State.ferryFail (s : State) (die offset : Nat) (who : Initiator) (tag code : Nat) : State :=
  match s.freeElog with
  | none => s.inc .FY_ELOG_OVF
  | some e =>
    let st := s.stamp
    let s := { s with errWorld := NMap.put .normal s.errWorld e (s.worldOf who) }
    (((((((((s.wr .FY_ELOG_A_DIE die e).wr .FY_ELOG_A_OFFSET offset e).setF .FY_ELOG_A_VALID e).wr .FY_ELOG_B_MASTER
      who.master e).wr .FY_ELOG_B_TAG tag e).wr .FY_ELOG_B_CODE code e).wr .FY_ELOG_STAMP (cut 32 st) (2 * e)).wr
      .FY_ELOG_STAMP (st / 2 ^ 32) (2 * e + 1)).setF .FY_STAT_ERR).raiseFor 41 42 (s.worldOf who)

/-- The initiator posts its writes to the dies (R341). -/
def State.posts (s : State) (who : Initiator) : Bool :=
  who.master = 0x03 || who.master = 0x04 || (who.master = 0x01 && s.flag .FY_POSTEN_PAIR0)
    || (who.master = 0x02 && s.flag .FY_POSTEN_PAIR1) || (who.master = 0x00 && s.flag .FY_POSTEN_HW)

/-- The link of die `g` carries packets: its feed is up and its link is not down. -/
def State.dieLinked (s : State) (g : Nat) : Bool := (s.di g).up && !(s.di g).linkDown

/-- The die takes writes: its link carries packets, and it has not left three consecutive polls unanswered (R27, R343, R344). -/
def State.dieReach (s : State) (g : Nat) : Bool := s.dieLinked g && (s.di g).missed < 4

/-- A write to a die that takes none: a posted write is logged with LINK, a non-posted one returns an access fault
(R344, R345). The tag, which no rule assigns, is a free value (log entry 92). -/
def State.dieLost (s : State) (g offset : Nat) (who : Initiator) : State :=
  if s.posts who then (s.freshened).ferryFail g offset who (s.fresh % 256) 2 else s.answer .accessFault

/-- A posted write under way to die `g`; `bad` where its offset maps to no register there (R345). -/
def State.sent (s : State) (g offset : Nat) (who : Initiator) (bad : Bool := false) : State :=
  if s.posts who then { s with ferry := { s.ferry with writes := s.ferry.writes ++ [⟨g, offset, who, bad⟩] } } else s

/-- A write to a register of die `g` acts there, where the die takes writes (R342 to R345). -/
def State.toDie (s : State) (g offset : Nat) (who : Initiator) (f : State → State) : State :=
  if s.dieReach g then f (s.sent g offset who) else s.dieLost g offset who

/-- The writes of a die that go unacknowledged are logged with a code, one entry each (R345): those that it has not taken, and as many
of the latest as were still unacknowledged, a free number (log entry 92). -/
def State.writesLost (s : State) (g code : Nat) : State :=
  let (mine, rest) := s.ferry.writes.partition (·.die == g)
  let n := s.fresh % (mine.length + 1)
  let open' := mine.zipIdx.filter fun p => p.1.bad || mine.length - n ≤ p.2
  let s := { s.freshened with ferry := { s.ferry with writes := rest } }
  s.each open' fun s p => (s.freshened).ferryFail g p.1.offset p.1.who (s.fresh % 256) code

end Sys2Proof.Machine
end

