-- ==== Sys2Proof/Machine/JournalOps.lean ====
section
/-!
DEFINITION. Shared operations of Braid that every family needs: CRC-32, records on P9 (R302, R314), decisions (R307),
the journal in MRAM (R309, R311, R312), acceptance of work (R310) and release of inputs (R305).
-/
namespace Sys2Proof.Machine

/-- One bit step of the reflected CRC-32 of IEEE 802.3. -/
def crcStep (c : Nat) : Nat := if c % 2 = 1 then (c / 2) ^^^ 0xEDB88320 else c / 2

/-- Eight bit steps. -/
def crcByte (c b : Nat) : Nat :=
  crcStep (crcStep (crcStep (crcStep (crcStep (crcStep (crcStep (crcStep (c ^^^ b))))))))

/-- CRC-32 of IEEE 802.3 over bytes. -/
def crc32 (l : List Nat) : Nat := (l.foldl crcByte 0xFFFFFFFF) ^^^ 0xFFFFFFFF

/-- Base of the journal MRAM (R309). -/
abbrev mram : Nat := 0x20000000

/-- The unit is in the Braid state of R290 with this code. -/
abbrev State.brState (s : State) : Nat := s.rd .BR_STAT_STATE

/-- The unit sends records: it is ACTIVE, or ALONE with a partner in SYNC whose snapshot it has taken (R302,
R321). -/
abbrev State.sending (s : State) : Bool := s.brState == 5 || (s.brState == 6 && s.rd .BR_PEER % 16 == 3 && !s.braid.syncDue)

/-- The SEQ of the last record sent. -/
def State.lastSeq (s : State) : Nat := s.rd .BR_SEQ_LO + 2 ^ 32 * s.rd .BR_SEQ_HI

/-- A Braid frame on P9 without its FCS (R314): from the unit's own offset-9 address (R16, R17) to the partner's, which no rule
says how the unit learns and which is left open (log entry 82). -/
def State.p9Frame (s : State) (type seq : Nat) (body : List Nat) : List Nat :=
  beBytes 6 (16 * Config.partnerBlock + 9) ++ beBytes 6 (s.factory.base + 9) ++ [0x88, 0xB5]
    ++ [type, s.rd .BR_MIRFMT] ++ leBytes 2 body.length ++ leBytes 4 (s.rd .BR_EPOCH) ++ leBytes 6 seq ++ [s.rd .BR_STAT_UNIT, 0]
    ++ body ++ leBytes 6 seq ++ [0, 0]

/-! ## The shared buffer of Confluence -/

/-- Cells of a frame of `n` bytes with its FCS (R278), and of one as it stands in the buffer. -/
abbrev cellsFor (n : Nat) : Nat := ceilDiv n 64
abbrev cellsOf (f : EthFrame) : Nat := cellsFor f.len

/-- Queue `q` of port `p`; queue 7 of P9, the mirror class, stands in the Braid block. -/
abbrev State.queue (s : State) (p q : Nat) : List EthFrame := (s.pt p).queues.getD q []

/-- Cells of the mirror class. -/
def State.mirrorCells (s : State) : Nat := (s.braid.out.map fun f => cellsFor (f.2.length + 4)).sum

/-- Cells that queue `q` of port `p` holds. -/
def State.queueCells (s : State) (p q : Nat) : Nat :=
  ((s.queue p q).map cellsOf).sum + (if p = 9 && q = 7 then s.mirrorCells else 0)

/-- Pairs of port and queue. -/
def allQueues : List (Nat × Nat) := (List.range 10).flatMap fun p => (List.range 8).map fun q => (p, q)

/-- Cells in use; a frame is stored once (R278). -/
def State.cellsUsed (s : State) : Nat :=
  let all := allQueues.flatMap fun e => s.queue e.1 e.2
  ((all.foldl (fun acc f => if acc.any (·.id == f.id) then acc else f :: acc) ([] : List EthFrame)).map cellsOf).sum + s.mirrorCells

/-- Queue `q` of port `p` takes `n` more cells: within its MAX, and with reserved or common cells for them (R278). -/
def State.room (s : State) (p q n : Nat) : Bool :=
  let used := s.queueCells p q
  let lo := s.rd .CFP_QLIM_MIN (8 * p + q)
  let above (a b : Nat) : Nat := a - b
  let common := 65536 - (allQueues.map fun e => s.rd .CFP_QLIM_MIN (8 * e.1 + e.2)).sum
  let inCommon := (allQueues.map fun e => above (s.queueCells e.1 e.2) (s.rd .CFP_QLIM_MIN (8 * e.1 + e.2))).sum
  used + n ≤ s.rd .CFP_QLIM_MAX (8 * p + q) && inCommon + above (used + n) lo - above used lo ≤ common

/-- CF_BUF_FREE. -/
abbrev State.freeView (s : State) : State := s.wr .CF_BUF_FREE (65536 - s.cellsUsed)

/-- A Braid frame of a TYPE into the mirror class: queue 7 of P9 with its limits (R278, R279). A port that is off is no destination
(R262); without link the frame is counted as flushed (R284). -/
def State.mirror (s : State) (type : Nat) (b : List Nat) : State :=
  if !s.flag .CFP_CTL_EN 9 then s
  else if !s.flag .CFP_STAT_LINK 9 then s.inc .CFP_CNT_FLUSH 9
  else if !s.room 9 7 (cellsFor (b.length + 4)) then s.inc .CFP_CNT_BUFDROP 9
  else { s with braid := { s.braid with out := (type, b) :: s.braid.out } }.freeView

/-! ## Records -/

/-- A record with the next SEQ goes to the mirror class of P9, in a frame of R314 whose body's bytes no rule lays down, and stays
in the retransmit buffer of 65,536 records (R302, R315; log entry 82). -/
def State.sendRec (s : State) (r : BraidRec) : State :=
  if !s.sending then s
  else
    let q := (s.rd .BR_SEQ_LO + 2 ^ 32 * s.rd .BR_SEQ_HI + 1) % 2 ^ 48
    { (s.wr .BR_SEQ_LO (cut 32 q)).wr .BR_SEQ_HI (q / 2 ^ 32) with
      braid := { s.braid with sent := ((q, r) :: s.braid.sent).take 65536 } }.mirror r.type (s.p9Frame r.type q (Config.recordBody q))

/-- A frame for the mirror class of P9 that carries no SEQ of its own but the last one sent: heartbeat, acknowledgement, replay
request, and the standby's completion marks (R302, R314). -/
def State.sendFree (s : State) (type : Nat) (body : List Nat) : State :=
  s.mirror type (s.p9Frame type s.lastSeq body)

/-- A decision of a kind of R307 with its content: the active unit sends its CRC, the standby keeps it to compare. Kind 0x86 is a
Floodgate firing by what the unit's own dies report, which the partner's dies need not: it is sent and not compared (R302, R303;
DEDUCED, log entry 94). -/
def State.decision (s : State) (kind : Nat) (content : List Nat) : State :=
  if s.brState = 5 then s.sendRec (.decision kind (crc32 content))
  else if s.brState = 4 && kind < 0x80 then { s with braid := { s.braid with mine := s.braid.mine ++ [(kind, crc32 content, s.mr.turn)] } }
  else s

/-- The journal sequence of the lowest open entry (R309). -/
def Braid.lowOpen (b : Braid) : Nat :=
  match (b.jopen ++ b.waiting ++ b.arrived).map (·.jseq) with
  | [] => b.jseq
  | h :: t => t.foldl min h

/-- The lowest open sequence is shown in BR_JOPEN, and the ring is freed below it (R309). -/
def State.jView (s : State) : State :=
  let b := s.braid
  let low := b.lowOpen
  let ring := b.ring.filter fun e => low ≤ e.1
  let s := { s with braid := { b with ring := ring } }
  ((s.wr .BR_JOPEN_LO (cut 32 low)).wr .BR_JOPEN_HI (low / 2 ^ 32)).wr .BR_JUSED ((ring.map (·.2.1)).sum)

/-- Units of 32 bytes in the entry ring (R309). -/
abbrev journalUnits : Nat := (0x1000000 - 0x2000) / 32

/-- An entry's length in 32-byte units. -/
def entrySize (payload : List Nat) : Nat := ceilDiv (32 + payload.length) 32

/-- The bytes of an entry with its CRC (R309). -/
def entryBytes (kind jseq bseq epoch ref : Nat) (payload : List Nat) : List Nat :=
  let size := entrySize payload
  let head := leBytes 2 0xB7A1 ++ [kind, size] ++ leBytes 6 jseq ++ leBytes 6 bseq ++ leBytes 4 epoch ++ leBytes 4 ref
    ++ [0, 0, 0, 0]
  let body := padTo (32 * size - 32) payload
  head ++ leBytes 4 (crc32 (head ++ [0, 0, 0, 0] ++ body)) ++ body

/-- A store of the Braid block to journal MRAM, which the region checker governs as any other access (R326, R382): refused, it leaves a
record and no bytes. -/
def State.mramStore (s : State) (a : Nat) (l : List Nat) : State :=
  if s.rangeOk 0x14 .safety a l.length .write then s.setBytes a l else s.denied 0x14 .safety a l.length

/-- One entry appended to the ring: its bytes go to MRAM, the next JSEQ is taken. An entry that would pass the end of
the ring starts at its beginning (DESIGN CHOICE, log entry 10). -/
def State.jAppend (s : State) (kind ref : Nat) (payload : List Nat) : State :=
  let b := s.braid
  let size := entrySize payload
  let off := if 0x1000000 < b.wrOff + 32 * size then 0x2000 else b.wrOff
  let s := s.mramStore (mram + off) (entryBytes kind b.jseq s.lastSeq (s.rd .BR_EPOCH) ref payload)
  { s with braid := { b with jseq := (b.jseq + 1) % 2 ^ 48, wrOff := off + 32 * size, ring := b.ring ++ [(b.jseq, size, off)],
                             mark := if kind = 0x8 then some off else b.mark } }

/-- Entries an object value needs (R311). -/
def chainLen (n : Nat) : Nat := 1 + ceilDiv (n - 2134) 2144

/-- The continuation entries of a chain (R311). -/
def State.jChain (s : State) (opening : Nat) : Nat → List Nat → State
  | 0, _ => s
  | n + 1, rest => if rest.isEmpty then s else State.jChain (s.jAppend 0x9 (cut 32 opening) (rest.take 2144)) opening n (rest.drop 2144)

/-- The payload of a piece of work, and its KIND and REF (R309; payloads of kinds 2 to 5: log entry 10). -/
def Work.frame : Work → Nat × Nat × List Nat
  | .canPush k level e => (0x2, k + 16 * level + 128 * cut 25 e.tag,
      leBytes 4 (e.frame.id + 2 ^ 29 * b2n e.frame.ide + 2 ^ 30 * b2n e.frame.rtr) ++ [e.frame.fmt + 4 * b2n e.frame.brs
        + 16 * b2n e.frame.sec, e.frame.sdt, e.frame.vcid, b2n e.hold] ++ leBytes 4 e.frame.af ++ leBytes 2 e.frame.len
        ++ leBytes 4 e.tag ++ e.frame.data)
  | .canMove k op level dest dlevel _ => (0x3, k + 16 * level, leBytes 4 (op + 8 * level + 64 * dest + 1024 * dlevel))
  | .evt idx e cancel => (0x5, idx, leBytes 4 e.w0 ++ leBytes 4 e.w1 ++ leBytes 4 e.w2 ++ leBytes 4 e.w3 ++ [b2n cancel])
  | .delta q idx desc => (0x4, q, leBytes 2 idx ++ desc)
  | .obj r => (0x1, r.wsn, leBytes 2 r.index ++ [r.sub, 0] ++ leBytes 4 r.value.length ++ leBytes 2 (chainLen r.value.length)
      ++ r.value.take 2134)

/-- The rest of an object value that the opening entry does not hold. -/
def Work.rest : Work → List Nat
  | .obj r => r.value.drop 2134
  | _ => []

/-- Two pieces of work have the same entry. -/
def Work.same (a b : Work) : Bool := a.frame == b.frame && a.rest == b.rest

/-- Total units the entries of a piece of work take. -/
def Work.units (w : Work) : Nat :=
  entrySize w.frame.2.2 + ceilDiv w.rest.length 2144 * 68

/-- The journal has room for the work. -/
def State.jRoom (s : State) (w : Work) : Bool := s.rd .BR_JUSED + w.units ≤ journalUnits

/-- The entry of a piece of work appended, as an open entry or as one that waits for its acceptance. -/
def State.jWork (s : State) (w : Work) (wait : Bool) : State :=
  let f := w.frame
  let e : JEntry := ⟨s.braid.jseq, f.1, f.2.1, w.units, w, s.lastSeq⟩
  let s := (s.jAppend f.1 f.2.1 f.2.2).jChain e.jseq 64 w.rest
  let b := s.braid
  ({ s with braid := if wait then { b with waiting := b.waiting ++ [e] } else { b with jopen := b.jopen ++ [e] } }).jView

/-- The kind of R307 of journaled work. -/
def workKind (kind : Nat) : Nat := match kind with
  | 0x1 => 4
  | 0x2 | 0x3 => 3
  | 0x4 => 7
  | _ => 2

/-- How the unit accepts work now (R290, R310). A single unit accepts on its own MRAM. -/
inductive Accept where
  | own | both | wait
  deriving DecidableEq, Repr

def State.accepts (s : State) : Accept :=
  if !s.pairMode || s.brState = 1 || s.brState = 6 then .own else if s.brState = 5 then .both else .wait

/-- A piece of work presented for acceptance (R310): accepted at once on the unit's own MRAM and carried out by
`finish`, or waiting with its BUSY flag (`busy`) for the acknowledgement, the active unit's entry, or room; at once
where the active unit's entry has come first, while an entry of other content in its place is a divergence, which the comparison
of decisions finds. `finish` takes the JSEQ of the entry. -/
def State.submit (s : State) (w : Work) (busy : State → State) (finish : Nat → State → State) : State :=
  let hold (s : State) := { s with braid := { s.braid with held := s.braid.held ++ [(w.frame.1, w.frame.2.1, w)] } }
  match s.braid.arrived.find? fun e => e.work.same w with
  | some e =>
    let b := s.braid
    finish e.jseq { s with braid := { b with arrived := b.arrived.erase e, jopen := b.jopen ++ [e] } }
  | none => match s.accepts with
  | .wait =>
    match s.braid.arrived.find? fun e => s.brState = 4 && e.kind = w.frame.1 && e.ref = w.frame.2.1 with
    | some e =>
      busy (hold { s with braid := { s.braid with
        clash := some (workKind e.kind, crc32 (w.frame.2.2 ++ w.rest), crc32 (e.work.frame.2.2 ++ e.work.rest)) } })
    | none => busy (hold s)
  | .own =>
    if s.jRoom w then
      finish s.braid.jseq ((s.sendRec (.journal ⟨s.braid.jseq, w.frame.1, w.frame.2.1, w.units, w, 0⟩)).jWork w false)
    else busy (hold (s.setF .BR_STAT_JFULL))
  | .both =>
    if s.jRoom w then busy ((s.sendRec (.journal ⟨s.braid.jseq, w.frame.1, w.frame.2.1, w.units, w, 0⟩)).jWork w true)
    else busy (hold (s.setF .BR_STAT_JFULL))

/-- An open entry still has work to do: it is no object write whose outcome is stored (R423). -/
def State.entryOpen (s : State) (e : JEntry) : Bool := !(e.kind = 1 && s.braid.done.any (·.1 == e.ref))

/-- Accepted work is not complete, or waits for its acceptance. -/
def State.workOpen (s : State) : Bool := s.braid.jopen.any s.entryOpen || !s.braid.waiting.isEmpty

/-- A completion mark for the work with a JSEQ: the entry is no longer open (R312). JSEQ 0 names no work. -/
def State.complete (s : State) (jseq : Nat) : State :=
  if s.braid.jopen.any (·.jseq == jseq) then
    let s := s.jAppend 0x6 (cut 32 jseq) []
    ({ s with braid := { s.braid with jopen := s.braid.jopen.filter (·.jseq ≠ jseq) } }).jView
  else s

/-- The entries of a move to the partner that this unit keeps stand at its own level DLEVEL from now on (R300). -/
def State.keptHere (s : State) (which : JEntry → Bool) : State :=
  { s with braid := { s.braid with jopen := s.braid.jopen.map fun e => match e.work with
      | .canMove k 4 l _ dl es => if which e then { e with work := .canMove k 3 l k dl es } else e
      | _ => e } }

/-- A moved element has left the destination of a move: the move is complete when it was the last (R312). -/
def State.completeElem (s : State) (e : CanElem) : State :=
  match s.braid.jopen.find? (·.jseq == e.jseq) with
  | some ⟨_, _, _, _, .canMove k op l d dl es, _⟩ =>
    let rest := es.eraseP fun x => x.tag == e.tag && x.frame == e.frame
    if rest.isEmpty then s.complete e.jseq
    else { s with braid := { s.braid with jopen := s.braid.jopen.map fun j =>
            if j.jseq = e.jseq then { j with work := .canMove k op l d dl rest } else j } }
  | _ => s.complete e.jseq

/-- A dispatch mark of a repeating event table entry with its new TIME and COUNT (R312): from then on the entry is restored with
them (R313). -/
def State.dispatchMark (s : State) (jseq time count : Nat) : State :=
  let moved (e : JEntry) : JEntry := match e.work with
    | .evt i x c => if e.jseq = jseq then { e with work := .evt i { x with w0 := cut 32 time, w1 := time / 2 ^ 32 + 65536 * count } c } else e
    | _ => e
  if s.braid.jopen.any (·.jseq == jseq) then
    let s := s.jAppend 0x7 (cut 32 jseq) (leBytes 6 time ++ leBytes 2 count)
    ({ s with braid := { s.braid with jopen := s.braid.jopen.map moved } }).jView
  else s

/-- An accepted configuration write advances BR_CONFGEN (R317). -/
def State.confWrite (s : State) : State := s.wr .BR_CONFGEN ((s.rd .BR_CONFGEN + 1) % 2 ^ 32)

/-- What a release does: the write index of a ring or queue advances, or a pass may start (R305). -/
def State.doRelease (s : State) : Release → State
  | .canRing k r wr w => ((s.wr .CAN_RING_WR wr (4 * k + r)).setF .CAN_STAT_RXEVT k).raiseFor (48 + k) (64 + k) (World.ofCode w)
  | .edgeRing g wr chan => (s.wr .IO_EDGE_WR wr g).ioRaise g (s.ioWorld chan)
  | .sdo k data => s.hand (0x200 + k) data
  | .hostQueue q head => (s.wr .HQ_HEAD head q).raiseOf (96 + q) (World.ofCode (s.rd .HQ_CFG_WORLD q))
  | .gaugeClose turn => { s with gauge := { s.gauge with wait := some turn } }
  | .request _ => s
  | .dop p bytes => s.hand p bytes

/-- A release that waits for the acknowledgement of the last record sent, in ACTIVE; at once otherwise (R305). -/
def State.releaseAfter (s : State) (r : Release) : State :=
  if s.brState = 5 then { s with braid := { s.braid with releases := s.braid.releases ++ [(s.lastSeq, r)] } } else s.doRelease r

/-- An input that software may see: at once, or in ACTIVE once the standby has acknowledged its record, which is sent
here (R305). -/
def State.releaseInput (s : State) (b : BraidRec) (r : Release) : State :=
  (s.sendRec b).releaseAfter r

end Sys2Proof.Machine
end

