-- ==== Sys2Proof/Machine/CanOps.lean ====
section
/-!
DEFINITION. Shared operations of the CAN channels: message RAM (R220, R221), levels and placing (R222, R232, R240),
completion records (R224, R225), receive rings (R228), what is offered (R223) and error confinement (R230).
-/
namespace Sys2Proof.Machine

/-- Base of the block of CAN channel `k` (R235). -/
abbrev canBase (k : Nat) : Nat := 0x40100000 + k * 0x10000

/-- Base of the message RAM of channel `k` (R235). -/
abbrev canRam (k : Nat) : Nat := canBase k + 0x8000

/-- The bytes of a PSZ code (R220). -/
def pszBytes (c : Nat) : Nat := match c with | 0 => 8 | 1 => 64 | 2 => 256 | 3 => 512 | _ => 2048

/-- The payload size of the transmit pool. -/
abbrev State.poolSize (s : State) (k : Nat) : Nat := pszBytes (s.rd .CAN_TXPOOL_PSZ k)

/-- The channel enables a format (R211). -/
def State.fmtOk (s : State) (k fmt : Nat) : Bool :=
  fmt = 0 || (fmt = 1 && s.flag .CAN_CTL_FDOE k) || (fmt = 2 && s.flag .CAN_CTL_XLOE k)

/-- The data lengths of R221. -/
def lenOk (fmt len : Nat) : Bool :=
  match fmt with
  | 0 => len ≤ 8
  | 1 => len ≤ 8 || [12, 16, 20, 24, 32, 48, 64].contains len
  | _ => 1 ≤ len && len ≤ 2048

/-- The DLC code of a data length; 0 for XL (R221, ISO 11898-1). -/
def dlcOf (fmt len : Nat) : Nat :=
  if fmt = 2 then 0
  else if len ≤ 8 then len
  else match len with | 12 => 9 | 16 => 10 | 20 => 11 | 24 => 12 | 32 => 13 | 48 => 14 | _ => 15

/-- A frame as R221 allows it for transmission. -/
def CanFrame.ok (f : CanFrame) : Bool :=
  f.fmt ≤ 2 && lenOk f.fmt f.len && !(f.ide && f.fmt = 2) && !(f.rtr && f.fmt ≠ 0) && (f.ide || f.id < 2048) && f.id < 2 ^ 29

/-- The header of R221 of a ring entry. -/
def CanFrame.header (f : CanFrame) (lost trunc : Bool) (route : Nat) (noroute : Bool) : List Nat :=
  leBytes 4 (f.id + 2 ^ 29 * b2n f.ide + 2 ^ 30 * b2n f.rtr)
    ++ [f.fmt + 4 * b2n f.brs + 8 * b2n f.esi + 16 * b2n f.sec, f.sdt, f.vcid, b2n lost + 2 * b2n trunc]
    ++ leBytes 4 f.af ++ leBytes 2 (f.len + 4096 * (if f.fmt = 2 then 0 else f.dlc)) ++ leBytes 2 (route + 4096 * b2n noroute)
    ++ leBytes 8 f.sof ++ leBytes 8 f.eof

/-- The element in the staging window with its fields, and whether reserved bits or fields break R221 (R222). -/
def State.staged (s : State) (k : Nat) : CanElem × Bool :=
  let b := canBase k + 0x1000
  let w := s.word b
  let b4 := s.byteAt (b + 4)
  let len := cut 12 (s.byteAt (b + 12) + 256 * s.byteAt (b + 13))
  let isRtr := bit w 30
  let f : CanFrame :=
    { id := cut 29 w, ide := bit w 29, rtr := isRtr, fmt := b4 % 4, brs := bit b4 2, sec := bit b4 4,
      sdt := s.byteAt (b + 5), vcid := s.byteAt (b + 6), af := s.word (b + 8), len := len, dlc := dlcOf (b4 % 4) len,
      data := if isRtr then [] else s.bytesAt (b + 32) (min len 2048) }
  ({ frame := f, hold := bit (s.byteAt (b + 14)) 0, tag := s.word (b + 16) },
   !f.ok || bit w 31 || b4 / 32 ≠ 0 || s.byteAt (b + 7) / 4 ≠ 0)

/-! ## Levels -/

/-- Pool elements that moves to this channel hold while they wait for the journal (R225). -/
def State.moveHeld (s : State) (k : Nat) : Nat :=
  ((s.braid.waiting.map (·.work) ++ s.braid.held.map (·.2.2)).map fun
    | .canMove _ 3 _ dest _ es => if dest = k then es.length else 0
    | _ => 0).sum

/-- Pool elements in use; a copy under way holds one, and so does each entry that a move is bringing. -/
def State.poolUsed (s : State) (k : Nat) : Nat :=
  ((s.cn k).levels.map (·.length)).sum + s.rd .CAN_TXQ_RESULT_BUSY k + s.moveHeld k

/-- Level `l` of channel `k`. -/
abbrev State.level (s : State) (k l : Nat) : List CanElem := (s.cn k).levels.getD l []

/-- The completion ring has no free record (R224, R480). -/
def State.doneFull (s : State) (k : Nat) : Bool := (s.rd .CAN_TXDONE_WR k + 1) % 64 == s.rd .CAN_TXDONE_RD k

/-- The read-only views of the levels and of the completion ring. -/
def State.canView (s : State) (k : Nat) : State :=
  let c := s.cn k
  let s := s.each (List.range 8) fun s l =>
    let q := c.levels.getD l []
    let i := 8 * k + l
    ((((s.wr .CAN_TXQ_LVL_COUNT q.length i).putF .CAN_TXQ_LVL_HELD (q.head?.any (·.hold)) i).putF .CAN_TXQ_LVL_ACTIVE
      (c.tx == some (.level l)) i).when q.isEmpty (·.clrF .CAN_TXQ_LVL_STRANDED i))
  (s.putF .CAN_STAT_STRANDED ((List.range 8).any fun l => s.flag .CAN_TXQ_LVL_STRANDED (8 * k + l)) k).putF
    .CAN_STAT_DONEFULL (s.doneFull k) k

/-- Level `l` of channel `k` replaced. -/
def State.setLevel (s : State) (k l : Nat) (q : List CanElem) : State :=
  let c := s.cn k
  (s.setCn k { c with levels := c.levels.set l q }).canView k

/-- The bytes of a transmit element (R221). -/
def CanElem.bytes (e : CanElem) : List Nat :=
  let f := e.frame
  leBytes 4 (f.id + 2 ^ 29 * b2n f.ide + 2 ^ 30 * b2n f.rtr) ++ [f.fmt + 4 * b2n f.brs + 16 * b2n f.sec, f.sdt, f.vcid, 0]
    ++ leBytes 4 f.af ++ leBytes 2 f.len ++ leBytes 2 (b2n e.hold) ++ leBytes 4 e.tag ++ List.replicate 12 0 ++ f.data

/-- The pool element that a new entry takes: the lowest free one; the rules leave the choice open (DESIGN CHOICE, log entry 89). -/
def State.freeElem (s : State) (k : Nat) : Nat :=
  ((List.range (s.rd .CAN_TXPOOL_NTX k)).find? fun n => !((s.cn k).levels.any (·.any (·.slot == n)))).getD 0

/-- An element at the tail of a level, in an element of the pool (R220); in BUSOFF and RECOVER it is stranded (R232). -/
def State.append (s : State) (k l : Nat) (e : CanElem) : State :=
  let n := s.freeElem k
  let s := s.setBytes (canRam k + n * (32 + s.poolSize k)) e.bytes
  let s := s.setLevel k l (s.level k l ++ [{ e with slot := n, onBus := false }])
  (s.when (s.rd .CAN_STAT_STATE k = 4 || s.rd .CAN_STAT_STATE k = 5) (·.setF .CAN_TXQ_LVL_STRANDED (8 * k + l))).canView k

/-- The channel can take an element that Weir or the object engine places (R240). -/
def State.canTake (s : State) (k : Nat) (f : CanFrame) : Bool :=
  s.poolUsed k < s.rd .CAN_TXPOOL_NTX k && f.len ≤ s.poolSize k && s.fmtOk k f.fmt

/-! ## Completion records -/

/-- The record of R224. -/
def doneBytes (tag level status attempts dest : Nat) (partner : Bool) (stamp : Nat) : List Nat :=
  leBytes 4 tag ++ [level + 8 * status, attempts, dest + 16 * b2n partner, 0] ++ leBytes 8 stamp

/-- A record into the completion ring; it waits while the ring has no room (R224, R225). -/
def State.writeDone (s : State) (k : Nat) (rec : List Nat) : State :=
  let c := s.cn k
  if s.doneFull k || !c.doneWait.isEmpty then s.setCn k { c with doneWait := c.doneWait ++ [rec] }
  else
    let w := s.rd .CAN_TXDONE_WR k
    (((s.setBytes (canRam k + 0x7C00 + 16 * w) rec).wr .CAN_TXDONE_WR ((w + 1) % 64) k).setF .CAN_STAT_DONEEVT k).canView k

/-- A move from this channel waits for its journal entry (R225). -/
def State.moveWaits (s : State) (k : Nat) : Bool :=
  let here : Work → Bool := fun w => match w with
    | .canMove k' .. => k' == k
    | _ => false
  s.braid.waiting.any (fun e => here e.work) || s.braid.held.any fun e => here e.2.2

/-- The records that wait, written as far as the ring has room; BUSY clears with the last (R225). -/
def State.drainDone (s : State) (k : Nat) : State :=
  let c := s.cn k
  let s := (s.setCn k { c with doneWait := [] }).each c.doneWait (·.writeDone k ·)
  if (s.cn k).doneWait.isEmpty && (s.cn k).pendCmd.isNone && !s.moveWaits k then s.clrF .CAN_TXQ_CMDRES_BUSY k else s

/-! ## Receive rings -/

/-- RAM offset of ring `r` (R220). -/
def State.ringBase (s : State) (k r : Nat) : Nat :=
  (List.range r).foldl (fun a i => a + s.rd .CAN_RINGCFG_DEPTH (4 * k + i) * (32 + pszBytes (s.rd .CAN_RINGCFG_PSZ (4 * k + i))))
    (s.rd .CAN_TXPOOL_NTX k * (32 + s.poolSize k))

/-- A frame into ring `r`, or counted as not written (R228); software sees it once its record is acknowledged (R305). -/
def State.ringWrite (s : State) (k r : Nat) (f : CanFrame) (route : Nat) (noroute : Bool) : State :=
  let i := 4 * k + r
  let depth := s.rd .CAN_RINGCFG_DEPTH i
  let c := s.cn k
  let w := ((c.ringNext.getD r none).getD (s.rd .CAN_RING_WR i))
  if depth = 0 || (w + 1) % depth = s.rd .CAN_RING_RD i then
    ((s.inc .CAN_RING_OVF k).setF .CAN_STAT_RINGOVF k).setCn k { c with ringLost := c.ringLost.set r true }
  else
    let psz := pszBytes (s.rd .CAN_RINGCFG_PSZ i)
    let w' := (w + 1) % depth
    let s := (s.setBytes (canRam k + s.ringBase k r + w * (32 + psz))
      (f.header (c.ringLost.getD r false) (psz < f.data.length) route noroute ++ f.data.take psz)).setCn k
      { c with ringLost := c.ringLost.set r false, ringNext := c.ringNext.set r (some w') }
    s.releaseAfter (.canRing k r w' (s.rd .CAN_RINGCFG_WORLD i))

/-! ## What is offered -/

/-- The unit is a standby whose channel offers its proxy entries alone (R300). -/
def State.proxyOnly (s : State) : Bool := s.pairMode && !s.claim

/-- The position in a level of the element under transmission, else of the one that may be offered: its head, or the first
proxy entry (R223, R300). -/
def State.headIdx (s : State) (q : List CanElem) : Option Nat :=
  if q.any (·.onBus) then q.findIdx? (·.onBus)
  else if s.proxyOnly then q.findIdx? (·.proxy) else if q.isEmpty then none else some 0

/-- The element at that position. -/
def State.headElem (s : State) (k l : Nat) : Option CanElem :=
  match s.headIdx (s.level k l) with
  | some i => (s.level k l)[i]?
  | none => none

/-- A head that may be offered: not held, in a format that the channel enables, and with room for the record it would write
(R211, R223, R224). -/
def State.eligible (s : State) (k l : Nat) : Bool :=
  match s.headElem k l with
  | some e => !e.hold && s.fmtOk k e.frame.fmt && (e.origin ≠ 0 || !s.doneFull k)
  | none => false

/-- The frame offered next (R223, R226, R296). -/
def State.choice (s : State) (k : Nat) : Option TxSlot :=
  let c := s.cn k
  if c.refFrame.isSome && !s.proxyOnly && s.fmtOk k 1 then some .reference
  else if c.presence && !s.proxyOnly then some .presence
  else ((List.range 8).find? (s.eligible k)).map .level

/-- An element changed in place. -/
def State.modElem (s : State) (k l : Nat) (g : CanElem → CanElem) : State :=
  match s.headIdx (s.level k l) with
  | some i => s.setLevel k l ((s.level k l).modify i g)
  | none => s

/-- The channel holds an entry moved to it by the partner (R300). -/
def State.hasProxy (s : State) (k : Nat) : Bool := (s.cn k).levels.any (·.any (·.proxy))

/-- The reference frame of a channel has been sent, or seen by a standby: its SOF stands for SOF_PREV and RESYNC of the next one (R66). -/
def State.refSent (s : State) (k sof : Nat) : State :=
  { s with mr := { s.mr with sent := if bit s.mr.sent k then s.mr.sent else s.mr.sent + 2 ^ k,
                             sofPrev := s.mr.sofPrev.set k (cut 24 sof),
                             refAngles := ((k, bits sof 24 24, cut 24 sof) :: s.mr.refAngles).take 64 } }

/-! ## States -/

/-- The transceiver of the channel is in normal mode (R213). -/
abbrev State.busUp (s : State) (k : Nat) : Bool := s.rd .XCVR_STAT_MODE k == 0

/-- Entry into ACTIVE, or MONITOR, with both counters at 0 (R213, R214, R231). -/
def State.onBus (s : State) (k : Nat) : State :=
  let mon := s.flag .CAN_CTL_LISTEN k || (!s.claim && !s.hasProxy k)
  let s := ((s.wr .CAN_ECNT_TEC 0 k).wr .CAN_ECNT_REC 0 k).clrF .CAN_STAT_EWARN k
  let s := s.wr .CAN_STAT_STATE (if mon then 6 else 2) k
  if mon then s.canView k else (s.each (List.range 8) (fun s l => s.clrF .CAN_TXQ_LVL_STRANDED (8 * k + l))).canView k

/-- The channel enters MONITOR (R214). -/
def State.toMonitor (s : State) (k : Nat) : State :=
  (((s.setCn k { s.cn k with tx := none, leaving := false }).wr .CAN_STAT_STATE 6 k).wr .CAN_ECNT_TEC 0 k).wr .CAN_ECNT_REC 0 k
    |>.clrF .CAN_STAT_EWARN k |>.canView k

/-- The states that follow from the counters (R230, R232). -/
def State.confine (s : State) (k : Nat) : State :=
  let tec := s.rd .CAN_ECNT_TEC k
  let rec' := s.rd .CAN_ECNT_REC k
  let st := s.rd .CAN_STAT_STATE k
  let s := s.putF .CAN_STAT_EWARN (96 ≤ tec || 96 ≤ rec') k
  if st ≠ 2 && st ≠ 3 then s
  else if 256 ≤ tec then
    let s := ((s.wr .CAN_ECNT_TEC 256 k).wr .CAN_STAT_STATE 4 k).setF .CAN_STAT_BOEVT k
    let s := s.each (List.range 8) fun s l => s.when (!(s.level k l).isEmpty) (·.setF .CAN_TXQ_LVL_STRANDED (8 * k + l))
    (s.canView k).log 0x07 0x01 Initiator.hw ([k] ++ leBytes 2 256)
  else if 128 ≤ tec || 128 ≤ rec' then (if st = 2 then (s.wr .CAN_STAT_STATE 3 k).setF .CAN_STAT_PASSEVT k else s)
  else s.wr .CAN_STAT_STATE 2 k

/-- An error recorded (R230). -/
def State.canError (s : State) (k code : Nat) (dataPhase : Bool) : State :=
  ((s.wr .CAN_LEC_CODE code k).putF .CAN_LEC_DATA dataPhase k).inc .CAN_CNT_ERR k

/-- The unit has gained the claim: MONITOR to INTEGRATE where LISTEN is 0; moved entries become ordinary (R214, R300). -/
def State.canClaimGained (s : State) (k : Nat) : State :=
  let c := s.cn k
  let s := (s.setCn k { c with leaving := false, levels := c.levels.map (·.map fun e => { e with proxy := false }) }).canView k
  if s.rd .CAN_STAT_STATE k = 6 && !s.flag .CAN_CTL_LISTEN k then
    ((s.wr .CAN_STAT_STATE 1 k).wr .CAN_ECNT_TEC 0 k).wr .CAN_ECNT_REC 0 k
  else s

/-- The unit has lost the claim: a frame being sent is finished first (R214). -/
def State.canClaimLost (s : State) (k : Nat) : State :=
  let st := s.rd .CAN_STAT_STATE k
  if st ≠ 2 && st ≠ 3 then s
  else if (s.cn k).tx.isSome then s.setCn k { s.cn k with leaving := true }
  else s.toMonitor k

/-- A channel of a unit without the claim that holds no moved entry any more returns to MONITOR (R214, R300). -/
def State.noneMoved (s : State) (k : Nat) : State := if s.claim || s.hasProxy k then s else s.canClaimLost k

/-- The element offered removed from its level. -/
def State.dropHead (s : State) (k l : Nat) : State :=
  match s.headIdx (s.level k l) with
  | some i => (s.setLevel k l ((s.level k l).eraseIdx i)).noneMoved k
  | none => s

end Sys2Proof.Machine
end

