-- ==== Sys2Proof/Machine/WeirOps.lean ====
section
/-!
DEFINITION. Shared operations of Weir: routing lookup and revocation (R238, R239, R243), drain (R242), placing on a
channel (R240, R247), segments, transceivers, wake and the sleep round (R237, R247 to R257); and what a level gains
or loses (R222, R225, R299) where it touches them.
-/
namespace Sys2Proof.Machine

/-! ## Routing -/

/-- The generation number of a frame is earlier than `g` (R242: signed 24-bit difference). -/
def genBefore (a g : Nat) : Bool := 2 ^ 23 ≤ (a + 2 ^ 24 - g % 2 ^ 24) % 2 ^ 24

/-- The elements that moves hold: those whose entry waits for its acceptance, and those the partner has (R225, R300). -/
def State.moving (s : State) : List CanElem :=
  ((s.braid.waiting ++ s.braid.jopen).map (·.work) ++ s.braid.held.map (·.2.2)).flatMap fun
    | .canMove _ _ _ _ _ es => es
    | _ => []

/-- WE_DRAIN.DONE: no frame with an earlier generation is inside Weir, in a level, a move or a PDU that gathers (R242). -/
def State.drained (s : State) : Bool :=
  let g := s.rd .WE_DRAIN_GEN
  let early (e : CanElem) : Bool := e.origin = 1 && genBefore e.gen g
  !((List.range 16).any fun k => (s.cn k).levels.any (·.any early)) && !s.moving.any early
    && !(s.stream.any fun p => p.2.gathered.any fun m => genBefore m.1 g)

/-- The read-only view WE_DRAIN.DONE. -/
def State.weView (s : State) : State := s.putF .WE_DRAIN_DONE s.drained

/-- A routing entry matches a frame that arrived on channel `k` (R238). -/
def RouteEntry.hits (e : RouteEntry) (k : Nat) (f : CanFrame) : Bool :=
  bit e.w3 31 && bit e.w2 k && ((f.id ^^^ cut 29 e.w0) &&& cut 29 e.w1) == 0 && bit e.w0 29 == f.ide
    && (bits e.w0 30 2 == 0 || bits e.w0 30 2 == f.fmt + 1)

/-- The first valid entry that matches, in ascending index order (R238). -/
def State.lookup (s : State) (k : Nat) (f : CanFrame) : Option (Nat × RouteEntry) := s.route.find? fun p => p.2.hits k f

/-- The decision stands for a frame of a revoking entry: the entry that now matches first still delivers (R243). -/
def State.stillRouted (s : State) (k : Nat) (f : CanFrame) (to' : RouteEntry → Bool) : Bool :=
  match s.lookup k f with
  | some (_, e) => to' e
  | none => false

/-- A frame that R243 drops. -/
def State.revoked (s : State) : State := (s.inc .WE_CNT_REVOKED).setF .WE_STAT_REVOKED

/-- A frame of a revoking entry is checked once, when it reaches the head of its level; heads that the tables in force no
longer route are dropped (R243). -/
def State.revokeHead (s : State) (k : Nat) : List CanElem → State × List CanElem
  | [] => (s, [])
  | e :: rest =>
    if e.origin = 1 && e.revoke && !(s.stillRouted e.srcCh e.frame fun r => bit r.w2 (16 + k)) then
      State.revokeHead s.revoked k rest
    else (s, { e with revoke := false } :: rest)

/-- The check at the head of every level of a channel (R243); a standby's channel that thereby loses its last moved entry returns to
MONITOR (R214). -/
def State.revokeHeads (s : State) (k : Nat) : State :=
  (s.each (List.range 8) fun s l =>
    let r := s.revokeHead k (s.level k l)
    if r.2 = s.level k l then s else r.1.setLevel k l r.2).weView.noneMoved k

/-! ## Segments and transceivers -/

/-- The unit runs rounds and commands segment states (R257). -/
abbrev State.runsSegs (s : State) : Bool := !s.pairMode || s.claim

/-- The segment of channel `k` (R237). -/
def State.segOf (s : State) (k : Nat) : Nat := bits (s.rd .WE_SEGMAP (k / 8)) (4 * (k % 8)) 3

/-- The channels of segment `n`. -/
def State.segChans (s : State) (n : Nat) : List Nat := (List.range 16).filter fun k => s.segOf k = n

/-- The enabled channels of segment `n`. -/
def State.segOn (s : State) (n : Nat) : List Nat := (s.segChans n).filter (s.flag .CAN_CTL_EN ·)

/-- Forwarding into the segment of channel `k` is suppressed (R247). -/
def State.segShut (s : State) (k : Nat) : Bool := 2 ≤ s.rd .WE_SLP_STAT_STATE (s.segOf k)

/-- A transceiver's mode set; INH follows it (R248, R249). -/
def State.setXcvr (s : State) (k mode : Nat) : State := (s.wr .XCVR_STAT_MODE mode k).putF .XCVR_STAT_INH (mode ≠ 3) k

/-- The transceivers of a segment. -/
def State.segXcvr (s : State) (n mode : Nat) : State := s.each (s.segChans n) (·.setXcvr · mode)

/-- The mode of the transceivers of a segment in Run and Trim (R247, R248). -/
def segMode (st : Nat) : Nat := if st = 2 then 1 else if st = 3 || st = 4 then 3 else 0

/-- Every transceiver in the mode of its segment's state, in Run and Trim (R248). -/
def State.xcvrFollow (s : State) : State :=
  if s.rd .SYS_PWR_STAT_STATE = 1 || s.rd .SYS_PWR_STAT_STATE = 2 then
    s.each (List.range 16) fun s k => s.setXcvr k (segMode (s.rd .WE_SLP_STAT_STATE (s.segOf k)))
  else s

/-- A segment state taken from the partner, with the transceiver modes that go with it; one that the partner wakes has source 6,
and its REQ clears (R250, R255, R257). -/
def State.segTaken (s : State) (n st : Nat) : State :=
  let old := s.rd .WE_SLP_STAT_STATE n
  let s := s.when ((old = 3 && st ≠ 3) || (old = 2 && st = 0)) fun s => (s.wr .WE_SLP_STAT_WAKESRC 6 n).clrF .WE_SLP_CTL_REQ n
  (s.wr .WE_SLP_STAT_STATE st n).xcvrFollow

/-- A segment state, with the record a standby takes it from (R257, R302). -/
def State.segState (s : State) (n st : Nat) : State :=
  let s := s.wr .WE_SLP_STAT_STATE st n
  s.sendRec (.segment n st (s.rd .WE_SLP_STAT_ROUND n) (s.rd .WE_SLP_STAT_RESULT n))

/-- A sleep frame of Weir (R252). -/
def State.sleepFrame (s : State) (n type window : Nat) : CanFrame :=
  let t := if s.rd .MR_STAT_STATE ≤ 1 then 0xFFFFFF else s.mr.turn
  { id := s.rd .WE_SLP_ID_ID, len := 8, dlc := 8,
    data := [16 * type, s.rd .WE_SLP_STAT_ROUND n, n] ++ leBytes 2 window ++ leBytes 3 t }

/-- A sleep frame queued on each enabled channel of the segment; the channels that have to send it are noted. -/
def State.queueSleep (s : State) (n type window : Nat) : State :=
  let f := s.sleepFrame n type window
  let ks := s.segOn n
  let s := s.each ks fun s k =>
    s.when (s.canTake k f) (·.append k (s.rd .WE_SLP_ID_LEVEL) { frame := f, origin := 3, srcCh := n, route := type })
  if type = 3 then s else s.setSg n { s.sg n with unsent := (ks.map (2 ^ ·)).sum }

/-- Wake frames with the source that woke the segment (R250, R255). -/
def State.wakeFrames (s : State) (n : Nat) : State := s.queueSleep n 3 (s.rd .WE_SLP_STAT_WAKESRC n)

/-- The lists of the last round that ended (R256). -/
def State.roundLists (s : State) (n : Nat) (held silent : List Nat) : State :=
  let w (l : List Nat) (i : Nat) : Nat := ((l.filter fun x => x / 32 = i).map fun x => 2 ^ (x % 32)).sum
  s.each (List.range 4) fun s i => (s.wr .WE_HOLD (w held i) (4 * n + i)).wr .WE_SILENT (w silent i) (4 * n + i)

/-- COMMIT aborts: transceivers to normal, wake frames, AWAKE with WOKEN (R255). -/
def State.segAbort (s : State) (n src : Nat) : State :=
  let s := ((s.segXcvr n 0).wr .WE_SLP_STAT_WAKESRC src n).wr .WE_SLP_STAT_RESULT 3 n |>.clrF .WE_SLP_CTL_REQ n
  let s := (s.setSg n {}).roundLists n [] []
  (s.segState n 0).wakeFrames n

/-- A wake request for segment `n` from a source of R250: it aborts a commit, and wakes a sleeping segment, on the unit that
commands segment states (R257). -/
def State.segWake (s : State) (n src : Nat) : State :=
  if !s.runsSegs then s
  else match s.rd .WE_SLP_STAT_STATE n with
  | 2 => s.segAbort n src
  | 3 => (s.wr .WE_SLP_STAT_WAKESRC src n).segState n 4
  | _ => s

/-- An entry placed in a level: it aborts a commit (R255), and a push wakes a sleeping segment (R247). -/
def State.segQueued (s : State) (k : Nat) (push : Bool) : State :=
  let n := s.segOf k
  if s.rd .WE_SLP_STAT_STATE n = 2 || push then s.segWake n (if s.rd .WE_SLP_STAT_STATE n = 2 && !push then 3 else 4) else s

/-- The start of a round (R251): VOTING, intent frames on every enabled channel. -/
def State.roundStart (s : State) (n : Nat) : State :=
  let s := s.wr .WE_SLP_STAT_ROUND (s.rd .WE_SLP_STAT_ROUND n + 1) n
  let s := (s.segState n 1).setSg n { phase := 1 }
  let s := s.queueSleep n 1 (s.rd .WE_SLP_TIMES_VOTEW n)
  if (s.sg n).unsent = 0 then s.setSg n { s.sg n with phase := 2 } else s

/-- A round runs where REQ is 1, the segment is AWAKE, and this unit runs rounds (R251, R257). -/
def State.roundMay (s : State) (n : Nat) : State :=
  if s.flag .WE_SLP_CTL_REQ n && s.rd .WE_SLP_STAT_STATE n = 0 && (s.sg n).phase = 0 && s.runsSegs then s.roundStart n else s

/-- The claim changes hands (R251, R257): the unit that loses it gives its rounds up; the one that gains it starts anew a round that
the other had begun, ends a COMMIT at its window, and runs rounds where REQ asks for them (DESIGN CHOICE, log entry 90). -/
def State.segsClaim (s : State) (c : Bool) : State :=
  s.each (List.range 8) fun s n =>
    if !c then s.setSg n {}
    else match s.rd .WE_SLP_STAT_STATE n with
      | 1 => (s.wr .WE_SLP_STAT_STATE 0 n).roundMay n
      | 2 => s.setSg n { phase := 4 }
      | _ => s.roundMay n

/-- The end of a round without sleep: AWAKE, then the retry (R251). -/
def State.roundRetry (s : State) (n result : Nat) : State :=
  let s := (s.wr .WE_SLP_STAT_RESULT result n).segState n 0
  if s.rd .WE_SLP_TIMES_RETRY n = 0 then (s.setSg n {}).clrF .WE_SLP_CTL_REQ n else s.setSg n { phase := 5 }

/-- Intent or commit frames sent on all channels: the vote window opens, or COMMIT is entered (R251). -/
def State.sleepSent (s : State) (k n type : Nat) : State :=
  let g := s.sg n
  if (type = 1 && g.phase = 1) || (type = 2 && g.phase = 3) then
    let left := if bit g.unsent k then g.unsent - 2 ^ k else g.unsent
    let s := s.setSg n { g with unsent := left }
    if left ≠ 0 then s
    else if type = 1 then s.setSg n { s.sg n with phase := 2 }
    else ((s.setSg n { s.sg n with phase := 4 }).segXcvr n 1).segState n 2
  else s

/-- A vote frame of the current round (R253). -/
def State.vote (s : State) (k : Nat) (f : CanFrame) : State :=
  let n := s.segOf k
  let b := s.rd .WE_SLP_ID_VOTEBASE
  let g := s.sg n
  if f.fmt = 0 && !f.ide && !f.rtr && f.dlc = 2 && b + 1 ≤ f.id && f.id ≤ b + 127 && (g.phase = 1 || g.phase = 2)
      && f.data.getD 0 0 = s.rd .WE_SLP_STAT_ROUND n then
    let node := f.id - b
    let a := g.agreed.filter (· ≠ node)
    let h := g.heldBy.filter (· ≠ node)
    s.setSg n (if f.data.getD 1 0 = 1 then { g with agreed := node :: a, heldBy := h } else { g with agreed := a, heldBy := node :: h })
  else s

/-! ## What a level gains -/

/-- Two frames agree in identifier, format and payload (R299). -/
def CanFrame.same (a b : CanFrame) : Bool := a.id == b.id && a.ide == b.ide && a.fmt == b.fmt && a.rtr == b.rtr && a.data == b.data

/-- A standby retires the head of the lowest level that matches a frame observed completing: the element is freed,
with a SENT record (R299). -/
def State.retire (s : State) (k : Nat) : State :=
  let c := s.cn k
  let c := { c with seen := c.seen.filter fun p => s.now ≤ p.1 + 800000 }
  let hit (l : Nat) : Option (Nat × CanFrame) :=
    match s.level k l with
    | e :: _ => if e.proxy then none else c.seen.find? fun p => e.frame.same p.2
    | [] => none
  match (List.range 8).find? fun l => (hit l).isSome with
  | some l =>
    match hit l, s.level k l with
    | some p, e :: rest =>
      let s := (s.setCn k { c with seen := c.seen.erase p }).setLevel k l rest
      let s := if e.origin = 0 then s.writeDone k (doneBytes e.tag l 0 e.attempts 0 false p.2.eof) else s
      (s.completeElem e).revokeHeads k
    | _, _ => s
  | none => s.setCn k c

/-- An element placed at the tail of a level; at a standby it is retired at once where its frame has been observed (R299). -/
def State.join (s : State) (k l : Nat) (e : CanElem) : State :=
  let s := s.append k l e
  if s.pairMode && s.brState = 4 then s.retire k else s

/-- A frame that Weir or the object engine places at a level (R240): refused where the channel cannot take it; one that could
be placed is not where its segment is shut (R247). One that stands at the head at once is not checked again (R243). -/
def State.place (s : State) (k l : Nat) (e : CanElem) (drop : State → State) : State :=
  if !s.canTake k e.frame then drop s
  else if s.segShut k then s.inc .WE_CNT_ASLEEP
  else s.join k l { e with revoke := e.revoke && !(s.level k l).isEmpty }

/-- The push of an element is accepted: it stands at the tail of its level (R222). -/
def State.pushDone (s : State) (k l : Nat) (e : CanElem) (jseq : Nat) : State :=
  let s := (s.clrF .CAN_TXQ_RESULT_BUSY k).wr .CAN_TXQ_RESULT_CODE 0 k
  (s.join k l { e with jseq := jseq }).segQueued k true

/-- A move is accepted: the entries stand at the destination, for OP 4 at the partner; a unit that has lost its partner meanwhile, or
has taken over, keeps them at level DLEVEL of its own channel (R225, R300). -/
def State.moveDone (s : State) (k op dest dlevel : Nat) (elems : List CanElem) (jseq : Nat) : State :=
  let s := if op = 3 then
    (s.each elems fun s e => s.join dest dlevel { e with attempts := 0, jseq := jseq }).segQueued dest false
  else if s.brState = 4 then
    let s := s.each elems fun s e => s.append k dlevel { e with attempts := 0, jseq := jseq, proxy := true }
    if s.rd .CAN_STAT_STATE k = 6 then s.wr .CAN_STAT_STATE 1 k else s
  else if s.brState = 5 then s
  else (s.each elems fun s e => s.append k dlevel { e with attempts := 0, jseq := jseq }).keptHere (·.jseq == jseq)
  (if (s.cn k).doneWait.isEmpty then s.clrF .CAN_TXQ_CMDRES_BUSY k else s).weView

end Sys2Proof.Machine
end

