-- ==== Sys2Proof/Machine/Can.lean ====
section
/-!
DEFINITION. Commands and events of the CAN channels (R210 to R236, R296, R299, R300).
-/
namespace Sys2Proof.Machine

/-- A write to the block of channel `k`: another world's is ignored and sets REFUSED (R235). -/
def State.canWrite (s : State) (who : Initiator) (k : Nat) (g : State → State) : State :=
  if owns (s.worldOf who) (s.canWorld k) then g s else s.setF .CAN_STAT_REFUSED k

/-! ## States -/

/-- A bit time of `n` quanta of `brp` CAN clocks: its rate lies between `lo` and `hi` bit/s (R210). -/
def rateOk (brp n lo hi : Nat) : Bool := lo * (brp * n) ≤ 80000000 && 80000000 ≤ hi * (brp * n)

/-- The first reason that refuses EN: 1 TIMING, 2 RATE, 3 PWM, 4 RAM; 0 for none (R215). -/
def State.enableError (s : State) (k : Nat) : Nat :=
  let r (f : Fld) : Nat := s.rd f k
  let fd := s.flag .CAN_CTL_FDOE k
  let xl := s.flag .CAN_CTL_XLOE k
  let tms := s.flag .CAN_CTL_TMS k
  let n := 1 + r .CAN_NBT_NTSEG1 + r .CAN_NBT_NTSEG2
  let d := 1 + r .CAN_DBT_DTSEG1 + r .CAN_DBT_DTSEG2
  let x := 1 + r .CAN_XBT_DTSEG1 + r .CAN_XBT_DTSEG2
  let ring (i : Nat) : Nat := s.rd .CAN_RINGCFG_DEPTH (4 * k + i) * (32 + pszBytes (s.rd .CAN_RINGCFG_PSZ (4 * k + i)))
  if !(8 ≤ n && n ≤ 385 && r .CAN_NBT_NSJW ≤ r .CAN_NBT_NTSEG1 && r .CAN_NBT_NSJW ≤ r .CAN_NBT_NTSEG2)
      || (fd && !(5 ≤ d && d ≤ 49 && r .CAN_DBT_DSJW ≤ r .CAN_DBT_DTSEG2))
      || (xl && !(5 ≤ x && x ≤ 49 && r .CAN_XBT_DSJW ≤ r .CAN_XBT_DTSEG2)) then 1
  else if !rateOk (r .CAN_NBT_NBRP) n 10000 1000000 || (fd && !rateOk (r .CAN_DBT_DBRP) d 0 8000000)
      || (xl && !rateOk (r .CAN_XBT_DBRP) x 0 (if tms then 10000000 else 8000000)) then 2
  else if xl && tms && r .CAN_PWM_PWMS + r .CAN_PWM_PWML ≠ r .CAN_XBT_DBRP * x then 3
  else if 0x7C00 < s.ringBase k 3 + ring 3 then 4
  else 0

/-- CAN_ENABLE (R213, R215): a write of 1 to CAN_CTL.EN. -/
def execCanEnable (who : Initiator) (k : Nat) (s : State) : Out := s.asMaster who <|
  let k := k % 16
  let s := s.answer .none
  .next <| if s.flag .CAN_CTL_EN k then s
  else s.canWrite who k fun s =>
      let e := s.enableError k
      if e ≠ 0 then (s.setF .CAN_STAT_REFUSED k).wr .CAN_STAT_CFGERR e k
      else (((s.setF .CAN_CTL_EN k).wr .CAN_STAT_STATE 1 k).wr .CAN_ECNT_TEC 0 k).wr .CAN_ECNT_REC 0 k |>.confWrite

/-- CAN_INTEGRATION_DONE (R213, R214): eleven recessive bits have passed in INTEGRATE. -/
def execCanIntegrationDone (k : Nat) (s : State) : Out := s.running <|
  let k := k % 16
  .next <| if s.rd .CAN_STAT_STATE k = 1 then s.onBus k else s

/-- CAN_RECOVER (R231): a write of 1 to CAN_CTL.RECOVER. -/
def execCanRecover (who : Initiator) (k : Nat) (s : State) : Out := s.asMaster who <|
  let k := k % 16
  .next <| (s.answer .none).canWrite who k fun s =>
    if s.rd .CAN_STAT_STATE k = 4 then s.wr .CAN_STAT_STATE 5 k else s.setF .CAN_STAT_REFUSED k

/-- CAN_RECOVERY_DONE (R231, R232): 128 occurrences of eleven recessive bits; the flags of stranded levels clear. -/
def execCanRecoveryDone (k : Nat) (s : State) : Out := s.running <|
  let k := k % 16
  .next <| if s.rd .CAN_STAT_STATE k = 5 then s.onBus k else s

/-! ## Queue commands -/

/-- The outcome of a queue command (R225). -/
abbrev State.cmdRes (s : State) (k code count : Nat) : State :=
  (s.wr .CAN_TXQ_CMDRES_CODE code k).wr .CAN_TXQ_CMDRES_COUNT count k

/-- A release (R223): the held head of a level becomes eligible; one that finds none sets NOREL. -/
def State.canRelease (s : State) (k l : Nat) : State × Bool :=
  match s.level k l with
  | e :: rest => if e.hold then (s.setLevel k l ({ e with hold := false } :: rest), true) else (s.setF .CAN_STAT_NOREL k, false)
  | [] => (s.setF .CAN_STAT_NOREL k, false)

/-- Elements withdrawn: one record each with the stamp of the command, and the work is complete (R224, R225, R312). -/
def State.withdraw (s : State) (k l status dest : Nat) (partner : Bool) (stamp : Nat) (elems : List CanElem) : State :=
  (s.each elems fun s e =>
    let s := if e.origin = 0 then s.writeDone k (doneBytes e.tag l status e.attempts dest partner stamp) else s
    s.completeElem e).noneMoved k

/-- Why a move of elements is refused, in the order EMPTY, FULL, TOOBIG, FORMAT; 0 where it is not (R225). -/
def State.moveError (s : State) (op dest : Nat) (q : List CanElem) : Nat :=
  if q.isEmpty then 2
  else if op ≠ 3 then 0
  else if s.rd .CAN_TXPOOL_NTX dest < s.poolUsed dest + q.length then 3
  else if q.any fun e => s.poolSize dest < e.frame.len then 4
  else if q.any fun e => !s.fmtOk dest e.frame.fmt then 5
  else 0

/-- A cancel or a move carried out: it acts on the whole level, or for OP 1 on its head, or on nothing (R225). -/
def State.cmdAct (s : State) (k op l dest dlevel stamp : Nat) : State :=
  let q := s.level k l
  if op ≤ 2 then
    let n := if op = 1 then 1 else q.length
    if q.isEmpty then s.cmdRes k 2 0
    else
      let s := (((s.setLevel k l (q.drop n)).withdraw k l 1 0 false stamp (q.take n)).cmdRes k 0 (min n q.length)).revokeHeads k
      s.putF .CAN_TXQ_CMDRES_BUSY (!(s.cn k).doneWait.isEmpty) k
  else
    let e := s.moveError op dest q
    if e ≠ 0 then (s.cmdRes k e 0).clrF .CAN_TXQ_CMDRES_BUSY k
    else
      let d := if op = 3 then dest else k
      let s := s.setLevel k l []
      let s := (if op = 4 && s.standby then s.each q fun s e => s.completeElem e else s.withdraw k l 2 d (op = 4) stamp q).cmdRes k 0 q.length
      let s := s.setF .CAN_TXQ_CMDRES_BUSY k
      (s.submit (.canMove k op l dest dlevel q) id fun j s => s.moveDone k op dest dlevel q j).weView

/-- The entries that a move of this channel has taken to level `l` of the partner's channel and that have not left there
(R300). -/
def State.partnerHolds (s : State) (k l : Nat) : List CanElem :=
  s.braid.jopen.flatMap fun e =>
    match e.work with
    | .canMove k' 4 _ _ dl es => if k' = k && dl = l then es else []
    | _ => []

/-- A cancel of the proxy entries of a level at the standby (R300): of the first one with OP 1, of all with OP 2. Each leaves a record
CANCELLED, and a completion mark for the active unit. -/
def State.proxyCancel (s : State) (k op l stamp : Nat) : State :=
  let q := s.level k l
  let hit := (q.filter (·.proxy)).take (if op = 1 then 1 else q.length)
  let s := s.setLevel k l (q.filter (!hit.contains ·))
  let s := s.each hit fun s e =>
    let s := if e.origin = 0 then s.writeDone k (doneBytes e.tag l 1 e.attempts 0 false stamp) else s
    (s.completeElem e).sendFree 0x06 ([k] ++ leBytes 6 e.jseq ++ doneBytes e.tag l 1 e.attempts 0 true stamp)
  (s.noneMoved k).revokeHeads k

/-- A command that waited for the attempt of a head has its turn (R225): with OP 1 it acts on that head alone. OP 5 and 6 stand for
OP 1 and 2 on proxy entries. -/
def State.runPend (s : State) (k : Nat) (sent : Bool) : State :=
  let c := s.cn k
  match c.pendCmd with
  | none => s
  | some (op, l, dest, dlevel, stamp) =>
    let s := s.setCn k { c with pendCmd := none }
    if 5 ≤ op then (if sent && op = 5 then s else s.proxyCancel k (op - 4) l stamp)
    else if sent && (op = 1 || (s.level k l).isEmpty) then (s.cmdRes k 0 0).clrF .CAN_TXQ_CMDRES_BUSY k
    else s.cmdAct k op l dest dlevel stamp

/-- A cancel that acts on the proxy entries at the standby (R300): the active unit orders it, with a record; the standby's own command
leaves the entries to that record. OK, with the entries concerned (DEDUCED, log entry 95). -/
def State.cancelOrdered (s : State) (k op l : Nat) : State :=
  let n := if s.standby then ((s.level k l).filter (·.proxy)).length else (s.partnerHolds k l).length
  ((s.decision 3 [k, op, l, k, 0]).sendRec (.proxyCancel k op l)).cmdRes k 0 (if op = 1 then 1 else n)

/-- The record of such a cancel at the standby; one whose entry is under transmission completes its attempt first (R225). -/
def State.cancelIn (s : State) (k op l : Nat) : State :=
  if (s.cn k).tx = some (.level l) then s.setCn k { s.cn k with pendCmd := some (op + 4, l, k, 0, s.stamp) }
  else s.proxyCancel k op l s.stamp

/-- A write of CAN_TXQ_CMD with OP, tested in the order PARAM, NOPARTNER, NOTOFF, WORLD, EMPTY (R225). -/
def State.queueCmd (s : State) (who : Initiator) (k op l dest dlevel : Nat) : State :=
  s.canWrite who k fun s =>
    if s.flag .CAN_TXQ_CMDRES_BUSY k || s.flag .CAN_TXQ_RESULT_BUSY k then s.setF .CAN_STAT_REFUSED k
    else if 4 < op || (op = 3 && dest = k) then s.cmdRes k 8 0
    else if op = 0 then (if (s.canRelease k l).2 then ((s.canRelease k l).1.decision 3 [k, 0, l, k, 0]).cmdRes k 0 1 else (s.canRelease k l).1.cmdRes k 1 0)
    else if op = 4 && !s.standby && (s.brState ≠ 5 || s.rd .BR_PEER % 16 ≠ 4) then s.cmdRes k 7 0
    else if op = 4 && !s.standby && s.rd .CAN_STAT_STATE k ≠ 4 && s.rd .CAN_STAT_STATE k ≠ 5 then s.cmdRes k 9 0
    else if op = 3 && !owns (s.worldOf who) (s.canWorld dest) then s.cmdRes k 6 0
    else if op ≤ 2 && ((s.standby && (s.level k l).any (·.proxy)) || (s.brState = 5 && !(s.partnerHolds k l).isEmpty)) then
      s.cancelOrdered k op l
    else if (s.level k l).isEmpty then s.cmdRes k 2 0
    else
      let s := s.decision 3 [k, op, l, dest, dlevel]
      if (s.cn k).tx = some (.level l) then
        (s.setCn k { s.cn k with pendCmd := some (op, l, dest, dlevel, s.stamp) }).setF .CAN_TXQ_CMDRES_BUSY k
      else s.cmdAct k op l dest dlevel s.stamp

/-- CAN_RELEASE (R225 OP 0). -/
def execCanRelease (who : Initiator) (k l : Nat) (s : State) : Out := s.asMaster who <|
  .next ((s.answer .none).queueCmd who (k % 16) 0 (l % 8) 0 0)

/-- CAN_CANCEL_HEAD (R225 OP 1). -/
def execCanCancelHead (who : Initiator) (k l : Nat) (s : State) : Out := s.asMaster who <|
  .next ((s.answer .none).queueCmd who (k % 16) 1 (l % 8) 0 0)

/-- CAN_CANCEL_LEVEL (R225 OP 2). -/
def execCanCancelLevel (who : Initiator) (k l : Nat) (s : State) : Out := s.asMaster who <|
  .next ((s.answer .none).queueCmd who (k % 16) 2 (l % 8) 0 0)

/-- CAN_MOVE_CHANNEL (R225 OP 3). -/
def execCanMoveChannel (who : Initiator) (k l dest dlevel : Nat) (s : State) : Out := s.asMaster who <|
  .next ((s.answer .none).queueCmd who (k % 16) 3 (l % 8) (dest % 16) (dlevel % 8))

/-- CAN_MOVE_PARTNER (R225 OP 4, R300). -/
def execCanMovePartner (who : Initiator) (k l dlevel : Nat) (s : State) : Out := s.asMaster who <|
  .next ((s.answer .none).queueCmd who (k % 16) 4 (l % 8) (k % 16) (dlevel % 8))

/-- CAN_COMPLETION_DEFERRED (R225): the records of a command that waited are written as the ring has room. -/
def execCanCompletionDeferred (k : Nat) (s : State) : Out := s.running <| .next (s.drainDone (k % 16))

/-- CAN_TX_PUSH (R222): the staging window goes to the tail of a level, as accepted work. The causes are tested in the
order BUSY, FORMAT, TOOBIG, FULL (log entry 20). -/
def execCanTxPush (who : Initiator) (k l : Nat) (s : State) : Out := s.asMaster who <|
  let k := k % 16
  let l := l % 8
  .next <| (s.answer .none).canWrite who k fun s =>
    let (e, bad) := s.staged k
    if s.flag .CAN_TXQ_RESULT_BUSY k || s.flag .CAN_TXQ_CMDRES_BUSY k then s.wr .CAN_TXQ_RESULT_CODE 5 k
    else if bad || !s.fmtOk k e.frame.fmt then s.wr .CAN_TXQ_RESULT_CODE 3 k
    else if s.poolSize k < e.frame.len then s.wr .CAN_TXQ_RESULT_CODE 2 k
    else if s.rd .CAN_TXPOOL_NTX k ≤ s.poolUsed k then s.wr .CAN_TXQ_RESULT_CODE 1 k
    else
      let s := s.decision 3 ([k, 0x10 + l] ++ leBytes 4 e.tag ++ leBytes 4 e.frame.id ++ e.frame.data)
      s.submit (.canPush k l e) (·.setF .CAN_TXQ_RESULT_BUSY k) fun j s => s.pushDone k l e j

/-! ## Transmission -/

/-- An attempt ends: the slot is free, a waiting command acts, and a unit that has lost the claim leaves the bus
(R213, R214, R225). -/
def State.attemptEnd (s : State) (k : Nat) (sent : Bool) : State :=
  let c := s.cn k
  let levels := c.levels.map (·.map fun e => { e with onBus := false })
  let s := ((s.setCn k { c with tx := none, leaving := false, levels := levels }).canView k).runPend k sent
  if c.leaving && (s.rd .CAN_STAT_STATE k = 2 || s.rd .CAN_STAT_STATE k = 3) then s.toMonitor k else s

/-- CAN_DISABLE (R213): a write of 0 to CAN_CTL.EN; a transmission ends, levels and rings keep their content. -/
def execCanDisable (who : Initiator) (k : Nat) (s : State) : Out := s.asMaster who <|
  let k := k % 16
  let s := s.answer .none
  .next <| if !s.flag .CAN_CTL_EN k then s
  else s.canWrite who k fun s =>
      let s := (((s.clrF .CAN_CTL_EN k).wr .CAN_STAT_STATE 0 k).wr .CAN_ECNT_TEC 0 k).wr .CAN_ECNT_REC 0 k
      ((s.clrF .CAN_STAT_EWARN k).attemptEnd k false).confWrite

/-- CAN_FRAME_OFFER (R223, R224, R243): the bus allows a transmission; one frame starts. -/
def execCanFrameOffer (k : Nat) (s : State) : Out := s.running <|
  let k := k % 16
  .next <|
    if (s.rd .CAN_STAT_STATE k = 2 || s.rd .CAN_STAT_STATE k = 3) && s.busUp k && (s.cn k).tx.isNone then
      let s := (s.revokeHeads k).canView k
      match s.choice k with
      | none => s
      | some slot =>
        let s := match slot with
          | .level l => s.modElem k l fun e => { e with attempts := min 255 (e.attempts + 1), onBus := true }
          | _ => s
        (s.setCn k { s.cn k with tx := some slot }).canView k
    else s

/-- CAN_ARBITRATION_LOST (R223): the frame stays at the head of its level. -/
def execCanArbitrationLost (k : Nat) (s : State) : Out := s.running <|
  let k := k % 16
  .next <| if (s.cn k).tx.isSome then s.attemptEnd k false else s

/-- The transmitter delay that the controller measures (R218). -/
def State.measureDelay (s : State) (k : Nat) (fmt delay : Nat) : State :=
  let go (en off fil val : Fld) : State :=
    if !s.flag en k then s
    else
      let s := if delay < s.rd fil k then s else s.wr val (min delay 127) k
      if 127 < s.rd val k + s.rd off k then s.setF .CAN_STAT_TDCERR k else s
  match fmt with
  | 1 => go .CAN_TDCF_TDCE .CAN_TDCF_TDCO .CAN_TDCF_TDCF .CAN_TDCF_TDCV
  | 2 => go .CAN_TDCX_TDCE .CAN_TDCX_TDCO .CAN_TDCX_TDCF .CAN_TDCX_TDCV
  | _ => s

/-- The effects of an element that counts as sent: freed, completion record, and completion of its work; a proxy entry
reports to the active unit (R224, R251, R300, R312). -/
def State.elemSent (s : State) (k l : Nat) (e : CanElem) : State :=
  let s := (s.dropHead k l).inc .CAN_CNT_TX k
  let rec' := doneBytes e.tag l 0 e.attempts 0 false s.stamp
  let s := match e.origin with
    | 0 => s.writeDone k rec'
    | 3 => s.sleepSent k e.srcCh e.route
    | _ => s
  let s := s.completeElem e
  let s := if e.proxy then
    s.sendFree 0x06 ([k] ++ leBytes 6 e.jseq ++ doneBytes e.tag l 0 e.attempts 0 true s.stamp)
  else s
  s.revokeHeads k

/-! ## Frames taken -/

/-- The frame is a presence frame (R296). -/
def State.isPresence (s : State) (k : Nat) (f : CanFrame) : Bool :=
  bit (s.rd .BR_FENCE_FENCECH) k && f.fmt = 0 && !f.ide && f.id = s.rd .BR_FENCE_FENCEID && s.pairMode

/-- The frame is an SDO request (R233). -/
def State.isSdo (s : State) (k : Nat) (f : CanFrame) : Bool :=
  s.flag .CAN_CTRLCFG_CTRL k && f.fmt = 0 && !f.ide && !f.rtr && f.dlc = 8 && f.id = 0x600 + s.rd .CAN_CTRLCFG_NODE k

/-- The frame is the active unit's reference frame of the channel (R65, R66). -/
def State.isReference (s : State) (k : Nat) (f : CanFrame) : Bool :=
  bit (s.rd .MR_REFCH) k && f.fmt = 1 && f.ide == s.flag .MR_REFID_IDE && f.data.length = 16 && f.data.getD 0 0 / 16 = 1
    && f.id = (if f.ide then s.rd .MR_REFID_ID else s.rd .MR_REFID_ID % 2048)

/-- A frame staged for Weir, or discarded where all four staging elements are occupied (R227). -/
def State.stageFrame (s : State) (k : Nat) (f : CanFrame) : State :=
  let c := s.cn k
  if 4 ≤ c.stage.length then (s.inc .CAN_STAGE_OVF k).setF .CAN_STAT_STAGEOVF k
  else s.setCn k { c with stage := c.stage ++ [f] }

/-- An SDO request handed to the object engine, in a pair once it is agreed (R233, R302, R305). -/
def State.sdoRequest (s : State) (k : Nat) (f : CanFrame) : State :=
  s.releaseInput (.can k f) (.sdo k f.data)

/-- A valid frame taken: counted, then for Braid, for the object engine or staged (R227, R233, R296). A standby keeps its copy
for comparison and for R299 and takes the active unit's record instead (R302). -/
def State.takeFrame (s : State) (k : Nat) (f : CanFrame) : State :=
  let s := s.inc .CAN_CNT_RX k
  if s.isPresence k f then { s with braid := { s.braid with presenceAt := some s.now } }
  else if s.pairMode && s.brState = 4 then
    let s := s.setCn k { s.cn k with seen := (s.cn k).seen ++ [(s.now, f)] }
    let s := if s.isReference k f then s.refSent k f.sof else s
    let s := { s with braid := { s.braid with own := s.braid.own ++ [(1, [k] ++ leBytes 4 f.id ++ f.data, f.eof)] } }
    s.retire k
  else if s.isSdo k f then s.sdoRequest k f
  else s.stageFrame k f

/-! ## Attempts that end -/

/-- MILL ticks from the sample point of the sixth bit of EOF to the end of EOF (R229): the rest of that bit after NTSEG1, and one bit
more. -/
def State.eofTail (s : State) (k : Nat) : Nat :=
  (1 + s.rd .CAN_NBT_NTSEG1 k + 2 * s.rd .CAN_NBT_NTSEG2 k) * s.rd .CAN_NBT_NBRP k * 5 / 4

/-- CAN_FRAME_SENT (R224, R218, R230): the transmission ends without error; `sof` is the 48-bit time of its SOF and
`delay` the delay measured. In loop-back the frame is received too (CAN_CTL.LOOP), an FD frame with the ESI that the controller
has sent, its own state (R221). Where the transceiver is not normal no
frame can end so, and the attempt is over (R213). -/
def execCanFrameSent (k sof delay : Nat) (s : State) : Out := s.running <|
  let k := k % 16
  let c := s.cn k
  let passive := s.rd .CAN_STAT_STATE k = 3
  let heard (s : State) (f : CanFrame) : State :=
    if s.flag .CAN_CTL_LOOP k then
      s.takeFrame k { f with esi := f.fmt = 1 && passive, sof := cut 48 sof + s.stampKind * 2 ^ 48, eof := s.stampBefore (s.eofTail k) }
    else s
  .next <| match c.tx with
  | none => s
  | some slot =>
    if !s.busUp k then s.attemptEnd k false
    else
      let s := (s.wr .CAN_ECNT_TEC (s.rd .CAN_ECNT_TEC k - 1) k).confine k
      let s := match slot with
        | .reference =>
          let s := ((s.measureDelay k 1 delay).inc .CAN_CNT_TX k).setCn k { s.cn k with refFrame := none } |>.refSent k sof
          heard s (c.refFrame.getD {})
        | .presence => (s.inc .CAN_CNT_TX k).setCn k { s.cn k with presence := false }
        | .level l =>
          match s.headElem k l with
          | some e => heard ((s.measureDelay k e.frame.fmt delay).elemSent k l e) e.frame
          | none => s
      s.attemptEnd k true

/-- The format of the frame under transmission. -/
def State.txFmt (s : State) (k : Nat) : Nat :=
  match (s.cn k).tx with
  | some (.level l) => ((s.headElem k l).map (·.frame.fmt)).getD 0
  | some .reference => 1
  | _ => 0

/-- CAN_TX_ERROR (R213, R218, R230, R232): an error in a transmission, or in the error flag of one that has ended so; `exempt`
where ISO 11898-1 leaves TEC unchanged. An attempt that has come as far as the data phase or the ACK slot has passed the
edge at which the delay is measured, any other may have: whether it had, and the delay, are free values (log entry 88).
Where the transceiver is not normal the controller sends nothing, and the attempt is over. -/
def execCanTxError (k code : Nat) (dataPhase exempt : Bool) (s : State) : Out := s.running <|
  let k := k % 16
  let st := s.rd .CAN_STAT_STATE k
  let add (s : State) : State :=
    let s := s.canError k (code % 8) dataPhase
    (if exempt then s else s.wr .CAN_ECNT_TEC (min 511 (s.rd .CAN_ECNT_TEC k + 8)) k).confine k
  .next <| if !s.busUp k then (if (s.cn k).tx.isSome then s.attemptEnd k false else s)
  else if (s.cn k).tx.isNone then (if st = 2 || st = 3 then add s else s)
  else
    let v := s.fresh
    let fmt := s.txFmt k
    let s := if fmt = 0 then s
      else if dataPhase || code % 8 = 3 || bit v 8 then s.freshened.measureDelay k fmt (v % 256) else s.freshened
    (add s).attemptEnd k false

/-! ## Reception -/

/-- CAN_RX_ERROR (R212, R214, R230): an error in a reception; `heavy` where ISO 11898-1 adds 8 to REC, `xl` for a
frame in XL format. In MONITOR, and for an XL frame with TMS, the counters hold. -/
def execCanRxError (k code : Nat) (dataPhase heavy xl : Bool) (s : State) : Out := s.running <|
  let k := k % 16
  let st := s.rd .CAN_STAT_STATE k
  .next <| if (st ≠ 2 && st ≠ 3 && st ≠ 6) || !s.busUp k then s
  else
    let s := s.canError k (code % 8) dataPhase
    if st = 6 || (xl && s.flag .CAN_CTL_TMS k) then s
    else (s.wr .CAN_ECNT_REC (min 255 (s.rd .CAN_ECNT_REC k + (if heavy then 8 else 1))) k).confine k

/-- A protocol exception (R211). -/
def State.protoExcept (s : State) (k : Nat) : State := (s.setF .CAN_STAT_PXE k).inc .CAN_CNT_ERR k

/-- CAN_PROTOCOL_EXCEPTION (R211): a frame in a format that the channel does not enable. -/
def execCanProtocolException (k : Nat) (s : State) : Out := s.running <|
  let k := k % 16
  let st := s.rd .CAN_STAT_STATE k
  .next <| if (st = 2 || st = 3 || st = 6) && s.busUp k then s.protoExcept k else s

/-- CAN_FRAME_RECEIVED (R211, R227, R229, R230): a valid frame, whose `sof` and `eof` are 48-bit times. LEN of a classic frame with
DLC 9 to 15 is 8 (R221). -/
def execCanFrameReceived (k : Nat) (f : CanFrame) (s : State) : Out := s.running <|
  let k := k % 16
  let st := s.rd .CAN_STAT_STATE k
  .next <| if !(st = 2 || st = 3 || st = 6) || !s.busUp k then s
  else if !s.fmtOk k f.fmt then s.protoExcept k
  else
    let kind := s.stampKind * 2 ^ 48
    let f := { f with sof := cut 48 f.sof + kind, eof := cut 48 f.eof + kind, len := if f.fmt = 0 && 8 < f.dlc then 8 else f.len }
    let r := s.rd .CAN_ECNT_REC k
    let s := if st = 6 then s else (s.wr .CAN_ECNT_REC (if 127 < r then 119 else r - 1) k).confine k
    s.takeFrame k f

end Sys2Proof.Machine
end

