-- ==== Sys2Proof/Machine/ConfluenceOps.lean ====
section
/-!
DEFINITION. Shared operations of Confluence: reading a frame, tables (R268 to R271), buffer and egress queues (R278,
R279), host queues (R275), the forwarding decision (R266) and the PTP clock (R286).
-/
namespace Sys2Proof.Machine

/-! ## Frames (bytes from the destination address on, without FCS) -/

/-- `n` bytes at `i`, in network byte order. -/
abbrev be (b : List Nat) (i n : Nat) : Nat := beVal ((b.drop i).take n)

/-- The frame carries an 802.1Q tag. -/
def ethTagged (b : List Nat) : Bool := be b 12 2 == 0x8100

/-- The frame without its tag. -/
def ethInner (b : List Nat) : List Nat := if ethTagged b then b.take 12 ++ b.drop 16 else b

/-- The frame with a tag. -/
def ethTag (b : List Nat) (vid pcp : Nat) : List Nat := b.take 12 ++ beBytes 2 0x8100 ++ beBytes 2 (vid + 8192 * pcp) ++ b.drop 12

/-- EtherType of an untagged frame. -/
abbrev ethType (b : List Nat) : Nat := be b 12 2

/-- The frame is an IPv4 packet. -/
abbrev isIp (b : List Nat) : Bool := ethType b == 0x0800

/-- Length of the IPv4 header. -/
abbrev ipHead (b : List Nat) : Nat := 4 * (b.getD 14 0 % 16)

/-- Destination port of a TCP or UDP frame. -/
abbrev l4Port (b : List Nat) : Nat := be b (16 + ipHead b) 2

/-- The IPv4 fragment offset is zero. -/
abbrev ipWhole (b : List Nat) : Bool := be b 20 2 % 8192 == 0

/-- A frame for the object engine: UDP over IPv4, destination port 28160. -/
def isDop (b : List Nat) : Bool := isIp b && b.getD 23 0 == 17 && ipWhole b && l4Port b == 28160

/-- A PTP event message (R285). -/
def isPtpEvent (b : List Nat) : Bool :=
  (ethType b == 0x88F7 && b.getD 14 0 % 16 ≤ 3)
    || (isIp b && b.getD 23 0 == 17 && ipWhole b && l4Port b == 319 && b.getD (14 + ipHead b + 8) 0 % 16 ≤ 3)

/-! ## PTP clock -/

/-- The PTP clock in ns (R286). -/
def State.ptpNow (s : State) : Nat :=
  let dt := s.now - s.conf.ptpAt
  (((s.conf.ptp + 10 * dt : Nat) : Int) + s.rdI .CF_PTP_ADJ * (10 * dt : Nat) / (65536 * 1000000000)).toNat

/-- The PTP clock set to `ns`. -/
def State.setPtp (s : State) (ns : Nat) : State := { s with conf := { s.conf with ptp := ns % (2 ^ 48 * 1000000000), ptpAt := s.now } }

/-- The PTPTS field of a descriptor (R275) of a time in ns. -/
def ptpStamp (ns : Nat) : Nat := ns % 1000000000 + 2 ^ 32 * (ns / 1000000000 % 2 ^ 32)

/-- The stamp of a PTP event message on P0 or P1 with the correction of CFP_PTPCOMP (R285; sign: log entry 24). -/
def State.ptpOf (s : State) (p : Nat) (b : List Nat) (egress : Bool) : Nat :=
  if p ≤ 1 && isPtpEvent (ethInner b) then
    let c := s.rdI .CFP_PTPCOMP p
    ptpStamp ((s.ptpNow : Int) + (if egress then c else -c)).toNat
  else 0

/-! ## Address block -/

/-- Base of the address block in use (R17). -/
def State.ownMac (s : State) : Nat := s.rd .CF_OWNMAC_LO + 2 ^ 32 * s.rd .CF_OWNMAC_HI

/-- The broadcast address. -/
abbrev broadcast : Nat := 0xFFFFFFFFFFFF

/-! ## Tables -/

/-- The VLAN is valid. -/
abbrev State.vlanOk (s : State) (vid : Nat) : Bool := bit (NMap.at 0 s.conf.vlan vid) 31

/-- Members of a VLAN, as a bit set of ports. -/
abbrev State.members (s : State) (vid : Nat) : Nat := if s.vlanOk vid then cut 10 (NMap.at 0 s.conf.vlan vid) else 0

/-- The key of the MAC table. -/
abbrev macKey (mac vid : Nat) : Nat := mac * 4096 + vid

/-- Two keys fall in one set (R268). -/
def sameSet (a b : Nat) : Bool := a == b || Config.macHash a % 2048 == Config.macHash b % 2048

/-- Entries of the set of a key. -/
def State.macSet (s : State) (key : Nat) : List MacEntry := s.conf.mac.filter fun e => sameSet (macKey e.mac e.vid) key

/-- The entry of a key. -/
def State.macFind (s : State) (mac vid : Nat) : Option MacEntry := s.conf.mac.find? fun e => e.mac == mac && e.vid == vid

/-- The MAC table replaced. -/
abbrev State.setMac (s : State) (l : List MacEntry) : State := { s with conf := { s.conf with mac := l } }

/-- Learning of a unicast source address (R268). -/
def State.learn (s : State) (mac vid p : Nat) : State :=
  if bit (mac / 2 ^ 40) 0 then s
  else match s.macFind mac vid with
  | some e => if e.static then s
    else s.setMac (s.conf.mac.map fun x => if x = e then { x with mask := 2 ^ p, last := s.now } else x)
  | none =>
    if 4 ≤ (s.macSet (macKey mac vid)).length then s.inc .CF_CNT_LEARNFULL
    else s.setMac (s.conf.mac ++ [⟨mac, vid, 2 ^ p, false, 0, s.now⟩])

/-- An ACL rule matches a frame without its tag (R271). -/
def aclHits (w : List Nat) (b : List Nat) (vid pcp inPort : Nat) : Bool :=
  let g (i : Nat) : Nat := w.getD i 0
  let mac := g 0 + 2 ^ 32 * cut 16 (g 1)
  let mm := g 2 + 2 ^ 32 * cut 16 (g 3)
  let addr := be b (if bit (g 1) 16 then 6 else 0) 6
  let ip4 := isIp b && ipWhole b
  let ip := be b (if bit (g 8) 0 then 26 else 30) 4
  bit (g 11) 31 && bit (g 10) inPort && ((mac ^^^ addr) &&& mm) == 0
    && ((cut 16 (g 4) ^^^ ethType b) &&& (g 4 / 65536)) == 0 && ((cut 12 (g 5) ^^^ vid) &&& bits (g 5) 12 12) == 0
    && (!bit (g 5) 27 || bits (g 5) 24 3 == pcp) && (g 7 == 0 || (ip4 && ((g 6 ^^^ ip) &&& g 7) == 0))
    && (!bit (g 8) 16 || (ip4 && bits (g 8) 8 8 == b.getD 23 0))
    && (g 9 / 65536 == 0 || (ip4 && (b.getD 23 0 == 6 || b.getD 23 0 == 17) && ((cut 16 (g 9) ^^^ l4Port b) &&& (g 9 / 65536)) == 0))

/-- The first valid rule that matches, in ascending index (R266). -/
def State.acl (s : State) (b : List Nat) (vid pcp inPort : Nat) : Option (List Nat) :=
  (s.conf.acl.find? fun e => aclHits e.2 b vid pcp inPort).map (·.2)

/-! ## Buffer and egress queues -/

/-- CF_BUF_FREE and CF_DRAIN.DONE. -/
def State.confView (s : State) : State :=
  let g := s.rd .CF_DRAIN_GEN
  s.freeView.putF .CF_DRAIN_DONE
    !(allQueues.any fun e => (s.queue e.1 e.2).any fun f => genBefore f.gen g)

/-- A queue replaced. -/
abbrev State.setQueue (s : State) (p q : Nat) (l : List EthFrame) : State :=
  s.setPt p { s.pt p with queues := (s.pt p).queues.set q l }

/-- A frame into an egress queue within its limits (R278). -/
def State.enqueue (s : State) (p q : Nat) (f : EthFrame) : State :=
  let q := if p = 9 && q = 7 then 6 else q
  if !s.room p q (cellsOf f) then s.inc .CFP_CNT_BUFDROP p
  else (s.setQueue p q (s.queue p q ++ [f])).confView

/-- A new number for a stored frame. -/
abbrev State.newId (s : State) : State := { s with conf := { s.conf with nextId := s.conf.nextId + 1 } }

/-- A frame that P8 or a unit behind it sends into queue `q` of port `p` as it stands, without a lookup (R275). -/
def State.sendPlain (s : State) (p q : Nat) (b : List Nat) (desc : Option (Nat × Nat)) : State :=
  (s.enqueue p q
    { id := s.conf.nextId, bytes := b, vid := 0, pcp := 0, gen := s.rd .CF_GEN, inPort := 8, revoke := false, desc := desc,
      len := b.length + 4 }).newId

/-- A queued frame as it leaves port `p` (R267), by the decision it carries (R273). -/
def onWire (p : Nat) (f : EthFrame) : List Nat :=
  if f.vid = 0 || bit f.untag p then f.bytes else ethTag f.bytes f.vid f.pcp

/-! ## Host queues -/

/-- Descriptors of host queue `i` (transmit queues from 16 on). -/
abbrev State.hqSize (s : State) (i : Nat) : Nat := 2 ^ (s.rd .HQ_CFG_SIZE i + 6)

/-- Address of descriptor `n` of host queue `i`. -/
abbrev State.hqDesc (s : State) (i n : Nat) : Nat := s.rd .HQ_BASE_LO i + 2 ^ 32 * s.rd .HQ_BASE_HI i + 32 * n

/-- The head of a host queue as hardware has it. -/
abbrev State.hqHead (s : State) (i : Nat) : Nat := (NMap.at none s.conf.hqNext i).getD (s.rd .HQ_HEAD i)

/-- An access of the host port for host queue `i`, with the world of the queue (R326, R382). -/
abbrev State.hqOk (s : State) (i a n : Nat) (k : Access) : Bool := s.rangeOk 0x11 (World.ofCode (s.rd .HQ_CFG_WORLD i)) a n k

/-- The record of such an access refused (R335). -/
abbrev State.hqDenied (s : State) (i a n : Nat) : State := s.denied 0x11 (World.ofCode (s.rd .HQ_CFG_WORLD i)) a n

/-- The host port may read and write the descriptor at `d` of queue `i`. -/
abbrev State.descOk (s : State) (i d : Nat) : Bool := s.hqOk i d 32 .read && s.hqOk i d 32 .write

/-- A frame or a sampled copy to receive queue `i`, with the fields of R275 and its ingress stamps; dropped where no
descriptor is free, the buffer is too short, or the region checker refuses either (R382; DESIGN CHOICE, log entry 13). `agreed` where
software sees it once its record is acknowledged (R305); any other waits where an earlier frame of the queue does. -/
def State.toHost (s : State) (i p : Nat) (b : List Nat) (trunc : Bool) (orig sseq stamp ptp : Nat) (agreed : Bool) : State :=
  let h := s.hqHead i
  let d := s.hqDesc i h
  let own := bit (s.byteAt (d + 8)) 5
  let size := cut 14 (s.byteAt (d + 6) + 256 * s.byteAt (d + 7))
  let addr := leVal (s.bytesAt d 5)
  if !s.flag .HQ_CFG_EN i then s.inc .HQ_DROP i
  else if !s.descOk i d then (s.hqDenied i d 32).inc .HQ_DROP i
  else if !own || size < b.length then s.inc .HQ_DROP i
  else if !s.hqOk i addr b.length .write then (s.hqDenied i addr b.length).inc .HQ_DROP i
  else
    let h' := (h + 1) % s.hqSize i
    let s := s.setBytes addr b
    let s := s.setBytes (d + 6) (leBytes 2 b.length ++ [p + 64 * b2n trunc, 0] ++ leBytes 2 orig ++ leBytes 4 sseq
      ++ leBytes 8 stamp ++ leBytes 8 ptp)
    let s := { s with conf := { s.conf with hqNext := NMap.put none s.conf.hqNext i (some h') } }
    let r := Release.hostQueue i h'
    let ahead (x : Nat × Release) : Bool := match x.2 with
      | .hostQueue j _ => j == i
      | _ => false
    if agreed then s.releaseAfter r
    else match s.braid.releases.reverse.find? ahead with
      | some x => { s with braid := { s.braid with releases := s.braid.releases ++ [(x.1, r)] } }
      | none => s.doRelease r

/-! ## The forwarding decision -/

/-- The stream_id of an AVTP PDU and whether Weir takes the frame: NTSCF or TSCF to a valid ingress stream (R245). -/
def State.isAcf (s : State) (b : List Nat) : Bool :=
  ethType b == 0x22F0 && (b.getD 14 0 == 0x82 || b.getD 14 0 == 0x05)
    && s.stream.any fun e => bit (e.2.words.getD 4 0) 0 && bit (e.2.words.getD 4 0) 1
        && leBytes 4 (e.2.words.getD 0 0) ++ leBytes 4 (e.2.words.getD 1 0) == (b.drop 18).take 8

/-- The unit that a frame leaving P8 reaches: Weir, or its host receive queues (R244, R245, R271, R275). A standby discards
what comes from P0 to P7 for software (R302). -/
def State.toP8 (s : State) (f : EthFrame) : State :=
  let p := f.inPort
  let b := onWire 8 f
  if s.isAcf f.bytes then s.hand 0x100 (f.bytes.drop 14)
  else if s.pairMode && s.brState = 4 && p ≤ 7 then s.inc .CFP_CNT_RXDROP p
  else f.host.foldl (fun s hq =>
    (s.when (p ≤ 7) (·.sendRec (.eth hq p b f.stamp f.ptp))).toHost hq p b false 0 0 f.stamp f.ptp (p ≤ 7)) s

/-- The bucket of port `p` filled to now at the rate in force (R281). -/
def State.polFill (s : State) (p : Nat) : State :=
  let t := s.pt p
  s.setPt p { t with deficit := t.deficit - (s.now - t.polAt) * s.rd .CFP_POL_CIR p, polAt := s.now }

/-- The bucket of port `p` keeps what it holds, up to its new size, where CFP_POL_CBS goes to `cbs` (R281). -/
def State.polSize (s : State) (p cbs : Nat) : State :=
  let s := s.polFill p
  let t := s.pt p
  s.setPt p { t with deficit := 800 * cbs - min (800 * cbs) (800 * s.rd .CFP_POL_CBS p - t.deficit) }

/-- The policer: tokens for a frame of `len` bytes with FCS, and what it charges (R281). -/
def State.police (s : State) (p len : Nat) : State × Bool :=
  if s.rd .CFP_POL_CIR p = 0 || 8 < p then (s, true)
  else
    let s := s.polFill p
    let t := s.pt p
    let ok := t.deficit + 800 * len ≤ 800 * s.rd .CFP_POL_CBS p
    (s.setPt p { t with deficit := if ok then t.deficit + 800 * len else t.deficit }, ok)

/-- The storm limit of the kind of a flood frame is reached; else the frame is counted (R282). -/
def State.storm (s : State) (p : Nat) (mac : Nat) (mcast : Bool) : State × Bool :=
  let t := s.pt p
  let (lim, n, t') :=
    if mac = broadcast then (s.rd .CFP_STORM_BC p, t.bc, { t with bc := t.bc + 1 })
    else if mcast then (s.rd .CFP_STORM_MC p, t.mc, { t with mc := t.mc + 1 })
    else (s.rd .CFP_STORM_UU p, t.uu, { t with uu := t.uu + 1 })
  if lim ≠ 0 && lim ≤ n then (s, true) else (s.setPt p t', false)

/-- The port receives and takes frames for transmission: on, and its link up; P8 has no link (R262, R284). -/
abbrev State.portUp (s : State) (p : Nat) : Bool := s.flag .CFP_CTL_EN p && (p == 8 || s.flag .CFP_STAT_LINK p)

/-- The pseudocode of R266 from the classification on, for a frame from port `p` (P8: 8). `b` is the frame as received,
`desc` the descriptor to which a frame of P8 returns its stamps. -/
def State.switch (s : State) (p : Nat) (b : List Nat) (desc : Option (Nat × Nat)) : State :=
  let gen := s.rd .CF_GEN
  let drop (f : Fld) (s : State) : State := s.inc f p
  let tagged := ethTagged b
  let tvid := be b 14 2 % 4096
  let vid := if tagged && tvid ≠ 0 then tvid else s.rd .CFP_VLAN_PVID p
  let pcp := if tagged then be b 14 2 / 8192 else s.rd .CFP_VLAN_DPCP p
  let inner := ethInner b
  let acc := s.rd .CFP_VLAN_ACCEPT p
  let dmac := be inner 0 6
  let mcast := bit (dmac / 2 ^ 40) 0
  let len := b.length + 4
  if (acc = 1 && !(tagged && tvid ≠ 0)) || (acc = 2 && tagged && tvid ≠ 0) then drop .CFP_CNT_RXDROP s
  else if !s.vlanOk vid || (s.flag .CFP_VLAN_IFILT p && !bit (s.members vid) p) then drop .CFP_CNT_RXDROP s
  else if p ≤ 7 && isDop inner && (dmac = s.ownMac + 1 + p || dmac = broadcast) then
    if s.pairMode && s.brState = 4 then drop .CFP_CNT_RXDROP s
    else
      let (s, ok) := s.police p len
      (s.when (!ok) (·.inc .CFP_CNT_POLICED p)).releaseInput (.eth 16 p inner s.stamp 0) (.dop p inner)
  else
    let (s, ok) := s.police p len
    if !ok then drop .CFP_CNT_POLICED s
    else
      let rule := s.acl inner vid pcp p
      let w (i : Nat) : Nat := (rule.getD []).getD i 0
      let act := bits (w 11) 0 3
      let queue := if rule.isSome && act = 2 then bits (w 11) 3 3 else bits (s.rd .CFP_QMAP p) (3 * pcp) 3
      if rule.isSome && act = 1 then drop .CFP_CNT_RXDROP s
      else
        let s := if s.flag .CFP_CTL_LEARN p && p ≤ 7 then s.learn (be inner 6 6) vid p else s
        let hit := s.macFind dmac vid
        let found := hit.isSome && !mcast || (hit.any (·.static))
        let dest0 := if found then (hit.map (·.mask)).getD 0 else s.members vid
        let (s, stormy) := if found then (s, false) else s.storm p dmac mcast
        if stormy then drop .CFP_CNT_STORM s
        else
          let eg := if rule.isSome then bits (w 11) 11 10 else 0x1FF
          let only := rule.isSome && act = 3
          let copy := rule.isSome && act = 4
          let dest := (if only then 2 ^ 8 else if copy then dest0 ||| 2 ^ 8 else dest0) &&& eg
          let ports := (List.range 9).filter fun q => bit dest q && q ≠ p && bit (s.members vid) q && s.flag .CFP_CTL_EN q
          let up := ports.filter s.portUp
          if ports.isEmpty then drop .CFP_CNT_RXDROP s
          else if up.isEmpty then drop .CFP_CNT_FLUSH s
          else
            let host := (if !only && bit dest0 8 then [s.rd .CFP_CTL_HQDEF p] else []) ++ (if only || copy then [bits (w 11) 6 4] else [])
            let f : EthFrame :=
              { id := s.conf.nextId, bytes := inner, vid := vid, pcp := pcp, gen := gen, inPort := p
                revoke := rule.isSome && bit (w 11) 10, desc := desc, len := len, untag := bits (NMap.at 0 s.conf.vlan vid) 10 9
                host := host, stamp := s.stamp, ptp := s.ptpOf p b false }
            up.foldl (fun s q => s.enqueue q queue f) s.newId

/-- The sampler of a port (R283). -/
def State.sample (s : State) (p : Nat) (b : List Nat) : State :=
  let n := s.rd .CFP_SAMPLE_N p
  if n = 0 then s
  else
    let t := s.pt p
    let c := t.seen + 1
    let s := s.setPt p { t with seen := c }
    if c % n = 0 then
      (s.inc .CFP_CNT_SAMPLED p).toHost (s.rd .CFP_SAMPLE_HQ p) p (b.take 128) true b.length (c % 2 ^ 32) s.stamp (s.ptpOf p b false) false
    else s

/-- The frame is of a length that port `p` takes, from the destination address to the FCS (R265). -/
abbrev State.lenOk (s : State) (p : Nat) (b : List Nat) : Bool := 64 ≤ b.length + 4 && b.length + 4 ≤ s.rd .CFP_MAXLEN p

/-- A frame with a good FCS comes in on port `p` (R262, R265, R283): it is counted and sampled, and goes to `go` unless it is of
a wrong length or a MAC control frame. -/
def State.take (s : State) (p : Nat) (b : List Nat) (go : State → State) : State :=
  if !s.lenOk p b then s.inc .CFP_CNT_RXLEN p
  else
    let s := (s.inc .CFP_CNT_RXOK p).sample p b
    if ethType (ethInner b) = 0x8808 then s.inc .CFP_CNT_RXDROP p else go s

/-- A frame from P9 for P8, in the queue that CFP_QMAP of P9 gives (R263, R266, R279). -/
def State.p9ToP8 (s : State) (b : List Nat) : State :=
  let pcp := if ethTagged b then be b 14 2 / 8192 else s.rd .CFP_VLAN_DPCP 9
  if s.flag .CFP_CTL_EN 8 then
    (s.enqueue 8 (bits (s.rd .CFP_QMAP 9) (3 * pcp) 3)
      { id := s.conf.nextId, bytes := b, vid := 0, pcp := pcp, gen := s.rd .CF_GEN, inPort := 9, revoke := false, desc := none
        len := b.length + 4, host := [s.rd .CFP_CTL_HQDEF 9], stamp := s.stamp }).newId
  else s.inc .CFP_CNT_RXDROP 9

/-- A frame that P8 receives for the switch, or for the egress port that its descriptor names (R262, R265, R275). -/
def State.p8In (s : State) (b : List Nat) (go : State → State) : State :=
  if s.flag .CF_CTL_EN && s.flag .CFP_CTL_EN 8 then s.take 8 b go else s

/-- A frame that Weir sends through P8 (R244). -/
def State.fromP8 (s : State) (b : List Nat) : State := s.p8In b (·.switch 8 b none)

/-! ## Claim -/

/-- A frame of a unit behind P8 for egress port `p` (R262, R284): without link it has no destination and is counted. -/
def State.sendTo (s : State) (p q : Nat) (b : List Nat) (desc : Option (Nat × Nat)) : State :=
  if s.portUp p then s.sendPlain p q b desc else if s.flag .CFP_CTL_EN p then s.inc .CFP_CNT_FLUSH 8 else s

/-- The announce frame of R298 on every enabled port, from the pair address block. -/
def State.announce (s : State) : State :=
  (List.range 8).foldl (fun s p =>
    s.sendTo p 7 (beBytes 6 broadcast ++ beBytes 6 (s.ownMac + 1 + p) ++ beBytes 2 0x88B5
      ++ [0x0B, s.rd .BR_MIRFMT, 0, 0] ++ leBytes 4 (s.rd .BR_EPOCH) ++ leBytes 6 s.lastSeq ++ [s.rd .BR_STAT_UNIT, 0]
      ++ leBytes 6 s.lastSeq ++ [0, 0]) none) s

end Sys2Proof.Machine
end

