-- ==== Sys2Proof/Machine/Confluence.lean ====
section
/-!
DEFINITION. Commands and events of the Ethernet switch Confluence (R261 to R287).
-/
namespace Sys2Proof.Machine

/-- A replay request for the first missing record (R315). -/
def State.askReplay (s : State) : State :=
  { s with braid := { s.braid with gap := true } }.sendFree 0x08 (leBytes 6 (s.braid.rxSeq + 1))

/-- ETH_FRAME_RECEIVE (R262 to R266, R283): a whole frame has arrived on port `p`; `bytes` are those before the FCS,
`good` tells a good FCS. A unit in single mode ignores P9 (R289). P8 has no line: what it sends comes from HOST_QUEUE_DOORBELL and Weir. -/
def execEthFrameReceive (p : Nat) (bytes : List Nat) (good : Bool) (s : State) : Out := s.running <|
  let p := p % 10
  .next <| if !s.portUp p || p = 8 || !s.flag .CF_CTL_EN || (p = 9 && !s.pairMode) then s
  else if !good then
    let s := s.inc .CFP_CNT_RXFCS p
    if p = 9 then (s.inc .BR_CNT_BADREC).askReplay else s
  else s.take p bytes fun s =>
    if p = 9 then (if ethType bytes = 0x88B5 then s else s.p9ToP8 bytes) else s.switch p bytes none

/-- The check of a revoking decision at the head of a queue (R274): whether the frame still goes. -/
def State.stillAllowed (s : State) (p : Nat) (f : EthFrame) : Bool :=
  match s.acl f.bytes f.vid f.pcp f.inPort with
  | some w => bits (w.getD 11 0) 0 3 ≠ 1 && bit (bits (w.getD 11 0) 11 10) p
  | none => true

/-- The oldest frame of the mirror class starts on P9 and ends with its FCS, inverted where a cell proves bad (R280). The answer
holds the bytes sent, FCS last. -/
def State.mirrorStart (s : State) (bad : Bool) : State :=
  match s.braid.out.getLast? with
  | none => s.answer .none
  | some (_, b) =>
    let s := ({ s with braid := { s.braid with out := s.braid.out.dropLast } }).freeView.inc .CFP_CNT_TXOK 9
    let s := if bad then (s.inc .CF_CNT_STOMP).setF .CF_STAT_STOMP else s
    s.answer (.data (b ++ leBytes 4 (crc32 b ^^^ (if bad then 0xFFFFFFFF else 0))))

/-- ETH_FRAME_TRANSMIT (R264, R274, R279, R285): port `p` is idle; the head of its highest non-empty queue leaves, or is
dropped. On P9 the mirror class comes first. What leaves P8 reaches Weir or its host queues. The answer holds the bytes sent,
without FCS. -/
def execEthFrameTransmit (p : Nat) (s : State) : Out := s.running <|
  let p := p % 10
  .next <| if !s.portUp p then s.answer .none
  else if p = 9 && !s.braid.out.isEmpty then s.mirrorStart false
  else match (List.range 8).reverse.find? fun q => !(s.queue p q).isEmpty with
  | none => s.answer .none
  | some q =>
    match s.queue p q with
    | [] => s.answer .none
    | f :: rest =>
      let s := ((s.setQueue p q rest).confView).answer .none
      if p ≤ 7 && !s.claim then s.inc .CFP_CNT_STBY p
      else if f.revoke && !s.stillAllowed p f then s.inc .CFP_CNT_REVOKED p
      else
        let s := s.inc .CFP_CNT_TXOK p
        let s := match f.desc with
          | some (i, d) =>
            if s.hqOk i (d + 16) 16 .write then s.setBytes (d + 16) (leBytes 8 s.stamp ++ leBytes 8 (s.ptpOf p f.bytes true))
            else s.hqDenied i (d + 16) 16
          | none => s
        (if p = 8 then s.toP8 f else s).answer (.data (onWire p f))

/-- MIRROR_FRAME_START (R280): a frame of the mirror class starts on P9 with its first cell; with `bad` a later cell
proves bad, and the frame ends with its FCS inverted. -/
def execMirrorFrameStart (bad : Bool) (s : State) : Out := s.running <|
  .next <| if !s.portUp 9 then s.answer .none else s.mirrorStart bad

/-! ## Host queues -/

/-- One transmit descriptor of queue `i` carried out (R275). Ports 8 to 14 name no egress port, and a buffer that the region checker
refuses holds no frame (R382): nothing is sent. -/
def State.hostSend (s : State) (i d : Nat) : State :=
  let addr := leVal (s.bytesAt d 5)
  let len := cut 14 (s.byteAt (d + 6) + 256 * s.byteAt (d + 7))
  let b8 := s.byteAt (d + 8)
  let port := b8 % 16
  let bytes := s.dataAt addr len
  let desc := if bit b8 4 then some (i, d) else none
  if !s.hqOk i addr len .read then s.hqDenied i addr len
  else s.p8In bytes fun s =>
    if port = 15 then s.switch 8 bytes desc
    else if 7 < port then s
    else if !s.flag .CFP_CTL_EN port then s.inc .CFP_CNT_RXDROP 8
    else if s.portUp port then s.sendPlain port (s.byteAt (d + 9) % 8) bytes desc
    else s.inc .CFP_CNT_FLUSH 8

/-- Transmit descriptors from the head on while they belong to hardware, up to the tail, and while the region checker lets the host
port read and write them (R382). -/
def State.hostDrain (s : State) (i : Nat) : Nat → State
  | 0 => s
  | n + 1 =>
    let h := s.rd .HQ_HEAD i
    let d := s.hqDesc i h
    if h = s.rd .HQ_TAIL i then s
    else if !s.descOk i d then s.hqDenied i d 32
    else if !bit (s.byteAt (d + 8)) 5 then s
    else
      let s := s.hostSend i d
      let s := s.setBytes (d + 8) [s.byteAt (d + 8) - 32 * b2n (bit (s.byteAt (d + 8)) 5)]
      State.hostDrain (s.wr .HQ_HEAD ((h + 1) % s.hqSize i) i) i n

/-- HOST_QUEUE_DOORBELL (R275): a write of HQ_TAIL of host queue `i` (receive 0 to 15, transmit 16 to 31). -/
def execHostQueueDoorbell (who : Initiator) (i tail : Nat) (s : State) : Out := s.asMaster who <|
  let i := i % 32
  let s := s.answer .none
  .next <| if !owns (s.worldOf who) (World.ofCode (s.rd .HQ_CFG_WORLD i)) || s.hqSize i ≤ tail then
    s.setF .CF_STAT_REFUSED
  else
    let s := s.wr .HQ_TAIL tail i
    if 16 ≤ i && s.flag .HQ_CFG_EN i then s.hostDrain i 4096 else s

/-! ## Tables -/

/-- The staging words. -/
abbrev State.cfStage (s : State) (i : Nat) : Nat := s.rd .CF_STAGE i

/-- The outcome of a table command (R272); an accepted one advances the generation (R273). -/
def State.cfResult (s : State) (code : Nat) : State :=
  let s := s.wr .CF_TBL_RESULT_CODE code
  if code = 0 then (s.wr .CF_GEN (s.rd .CF_GEN + 1)).confView.confWrite else s

/-- A valid entry that another world owns. -/
def foreign (w : World) (valid : Bool) (owner : Nat) : Bool := valid && !owns w (World.ofCode owner)

/-- A static MAC entry from the staging words: OWNER, FIELD, FULL (R269, R272). -/
def State.macCommit (s : State) (w : World) : State :=
  let mac := s.cfStage 0 + 2 ^ 32 * cut 16 (s.cfStage 1)
  let vid := bits (s.cfStage 1) 16 12
  let mask := cut 10 (s.cfStage 2)
  let old := s.macFind mac vid
  if old.any fun e => e.static && foreign w true e.world then s.cfResult 1
  else if bits (s.cfStage 1) 28 4 ≠ 0 || vid = 0 || vid = 4095 || bit mask 9 || bits (s.cfStage 2) 11 17 ≠ 0 || bit (s.cfStage 2) 30 then
    s.cfResult 2
  else
    let e : MacEntry := ⟨mac, vid, mask, true, w.code, s.now⟩
    let put (l : List MacEntry) : State := (s.setMac (l ++ [e])).cfResult 0
    if old.isSome then put (s.conf.mac.filter fun x => !(x.mac == mac && x.vid == vid))
    else
      let set := s.macSet (macKey mac vid)
      if set.length < 4 then put s.conf.mac
      else match (set.filter fun x => !x.static) with
      | [] => s.cfResult 3
      | x :: rest =>
        let oldest := rest.foldl (fun a b => if b.last < a.last then b else a) x
        put (s.conf.mac.erase oldest)

/-- A VLAN entry (R270). -/
def State.vlanCommit (s : State) (w : World) (i : Nat) : State :=
  let old := NMap.at 0 s.conf.vlan i
  let v := s.cfStage 0
  if 4096 ≤ i then s.cfResult 5
  else if foreign w (bit old 31) (bits old 28 2) then s.cfResult 1
  else if i = 0 || i = 4095 || bits v 20 8 ≠ 0 || bit v 30 then s.cfResult 2
  else ({ s with conf := { s.conf with vlan := NMap.put 0 s.conf.vlan i (cut 20 v + 2 ^ 28 * w.code + 2 ^ 31 * b2n (bit v 31)) } }).cfResult 0

/-- Reserved bits of an ACL rule are not zero, a VID is out of range where it is compared whole, or EGMASK sets bit 9. -/
def aclBad (w : List Nat) : Bool :=
  let g (i : Nat) : Nat := w.getD i 0
  bits (g 1) 17 15 ≠ 0 || bits (g 3) 16 16 ≠ 0 || bits (g 5) 28 4 ≠ 0 || (bits (g 5) 12 12 == 4095 && (cut 12 (g 5) == 0 || cut 12 (g 5) == 4095))
    || bits (g 8) 1 7 ≠ 0 || bits (g 8) 17 15 ≠ 0 || bits (g 10) 9 23 ≠ 0 || 4 < bits (g 11) 0 3 || bit (g 11) 20
    || bits (g 11) 21 7 ≠ 0 || bit (g 11) 30

/-- An ACL rule (R271). -/
def State.aclCommit (s : State) (w : World) (i : Nat) : State :=
  let old := NMap.at [] s.conf.acl i
  let o11 := old.getD 11 0
  let new := (List.range 12).map s.cfStage
  let n11 := new.getD 11 0
  if 512 ≤ i then s.cfResult 5
  else if foreign w (bit o11 31) (bits o11 28 2) then s.cfResult 1
  else if aclBad new then s.cfResult 2
  else
    let rule := new.set 11 (cut 21 n11 + 2 ^ 28 * w.code + 2 ^ 31 * b2n (bit n11 31))
    ({ s with conf := { s.conf with acl := NMap.put [] s.conf.acl i rule } }).cfResult 0

/-- CF_TABLE_COMMIT (R269 to R273): CF_TBL_CMD with OP 0. -/
def execCfTableCommit (who : Initiator) (table index : Nat) (s : State) : Out := s.asMaster who <|
  let s := s.answer .none
  let w := s.worldOf who
  .next <| match table % 4 with
  | 0 => s.macCommit w
  | 1 => s.vlanCommit w (index % 8192)
  | 2 => s.aclCommit w (index % 8192)
  | _ => (s.cfResult 5).setF .CF_STAT_REFUSED

/-- CF_TABLE_REMOVE (R269 to R273): CF_TBL_CMD with OP 1. -/
def execCfTableRemove (who : Initiator) (table index : Nat) (s : State) : Out := s.asMaster who <|
  let s := s.answer .none
  let w := s.worldOf who
  let i := index % 8192
  .next <| match table % 4 with
  | 0 =>
    let mac := s.cfStage 0 + 2 ^ 32 * cut 16 (s.cfStage 1)
    match s.macFind mac (bits (s.cfStage 1) 16 12) with
    | none => s.cfResult 4
    | some e => if e.static && foreign w true e.world then s.cfResult 1 else (s.setMac (s.conf.mac.erase e)).cfResult 0
  | 1 =>
    let old := NMap.at 0 s.conf.vlan i
    if 4096 ≤ i then s.cfResult 5
    else if !bit old 31 then s.cfResult 4
    else if foreign w true (bits old 28 2) then s.cfResult 1
    else ({ s with conf := { s.conf with vlan := NMap.put 0 s.conf.vlan i 0 } }).cfResult 0
  | 2 =>
    let old := (NMap.at [] s.conf.acl i).getD 11 0
    if 512 ≤ i then s.cfResult 5
    else if !bit old 31 then s.cfResult 4
    else if foreign w true (bits old 28 2) then s.cfResult 1
    else ({ s with conf := { s.conf with acl := NMap.put [] s.conf.acl i [] } }).cfResult 0
  | _ => (s.cfResult 5).setF .CF_STAT_REFUSED

/-- MAC_AGEING (R268): the learned entry of a key goes where no frame has refreshed it for CF_CTL.AGE seconds. -/
def execMacAgeing (mac vid : Nat) (s : State) : Out := s.running <|
  let age := s.rd .CF_CTL_AGE
  .next <| if age = 0 then s
  else s.setMac (s.conf.mac.filter fun e =>
    e.static || !(e.mac == mac && e.vid == vid && e.last + 100000000 * age ≤ s.now))

/-- STORM_WINDOW (R282): a window of 1 ms ends on port `p`. -/
def execStormWindow (p : Nat) (s : State) : Out := s.running <|
  let p := p % 10
  .next (s.setPt p { s.pt p with bc := 0, uu := 0, mc := 0 })

/-! ## Links -/

/-- LINKEVT with the interrupt of the port's world (R287). -/
def State.linkEvent (s : State) (p : Nat) (up : Bool) : State :=
  (s.putF .CFP_STAT_LINK up p).setF .CFP_STAT_LINKEVT p

/-- The egress queues of port `p` empty; the mirror class is queue 7 of P9 (R279, R284). -/
def State.emptyQueues (s : State) (p : Nat) : State :=
  let s := s.setPt p { s.pt p with queues := List.replicate 8 [] }
  if p = 9 then { s with braid := { s.braid with out := [] } } else s

/-- LINK_DOWN (R284): queues flushed, learned entries of the port removed. -/
def execLinkDown (p : Nat) (s : State) : Out := s.running <|
  let p := p % 10
  .next <| if !s.flag .CFP_STAT_LINK p then s
  else
    let n := ((s.pt p).queues.map (·.length)).sum + (if p = 9 then s.braid.out.length else 0)
    let s := ((s.linkEvent p false).inc .CFP_CNT_FLUSH p n).emptyQueues p
    (s.setMac (s.conf.mac.filter fun e => e.static || e.mask ≠ 2 ^ p)).confView

/-- LINK_UP (R284): the link of an enabled port returns; its queues start empty. -/
def execLinkUp (p : Nat) (s : State) : Out := s.running <|
  let p := p % 10
  .next <| if !s.flag .CFP_CTL_EN p || s.flag .CFP_STAT_LINK p then s
  else ((s.linkEvent p true).emptyQueues p).confView

/-! ## PTP clock -/

/-- Access to the clock: the world of CF_PTP_CTL.WORLD (R286, R287). -/
def State.ptpWrite (s : State) (who : Initiator) (g : State → State) : State :=
  if owns (s.worldOf who) (World.ofCode (s.rd .CF_PTP_CTL_WORLD)) then g s
  else s.setF .CF_STAT_REFUSED

/-- PTP_CLOCK_SET (R286): CF_PTP_CTL.SET loads the clock from the registers. -/
def execPtpClockSet (who : Initiator) (s : State) : Out := s.asMaster who <|
  .next <| (s.answer .none).ptpWrite who fun s =>
    s.setPtp ((s.rd .CF_PTP_SEC_LO + 2 ^ 32 * s.rd .CF_PTP_SEC_HI) * 1000000000 + s.rd .CF_PTP_NS)

/-- PTP_CLOCK_STEP (R286): CF_PTP_STEP shifts the clock by a signed number of ns. -/
def execPtpClockStep (who : Initiator) (step : Nat) (s : State) : Out := s.asMaster who <|
  .next <| (s.answer .none).ptpWrite who fun s => s.setPtp ((s.ptpNow : Int) + toInt 32 step).toNat

/-- CF_PTP_ADJ or SYNC is written (R286). -/
def State.ptpKeep (s : State) : State := { s with conf := { s.conf with ptpKept := s.now } }

/-- PTP_SYNC_EXPIRE (R286): neither CF_PTP_ADJ nor SYNC has been written for HOLD seconds. The event is the end of that time. -/
def execPtpSyncExpire (s : State) : Out := s.running <|
  .next ({ s with now := max s.now (s.conf.ptpKept + 100000000 * s.rd .CF_PTP_CTL_HOLD) }.clrF .CF_PTP_CTL_SYNC)

/-- PTP_CLOCK_READ (R287): a read of CF_PTP_SEC_LO latches the other registers. -/
def execPtpClockRead (s : State) : Out := s.running <|
  let t := s.ptpNow
  let sec := t / 1000000000
  .next <| (((s.wr .CF_PTP_SEC_LO (cut 32 sec)).wr .CF_PTP_SEC_HI (sec / 2 ^ 32)).wr .CF_PTP_NS (t % 1000000000)).answer (.value (cut 32 sec))

end Sys2Proof.Machine
end

