-- ==== Sys2Proof/Machine/SluiceOps.lean ====
section
/-!
DEFINITION. Shared operations of the load channels: place of a channel (R134), pairs (R135), turn-on and turn-off
(R139 to R144), commands and their refusals (R136 to R138, R155), trips and retries (R160 to R165), Spillway
(R171 to R173), shedding (R154) and Floodgate (R174 to R180).
-/
namespace Sys2Proof.Machine

/-! ## Places -/

/-- The die of channel `k` (R134). -/
def dieOf (k : Nat) : Nat := if k < 8 then k / 2 else (k - 8) / 6

/-- The local number of channel `k` (R134). -/
def localOf (k : Nat) : Nat := if k < 8 then k % 2 else 2 + (k - 8) % 6

/-- The channel with local number `l` on die `g` (R134). -/
def chanOf (g l : Nat) : Nat := if l < 2 then 2 * g + l else 8 + 6 * g + (l - 2)

/-- The eight channels of die `g`. -/
def chansOf (g : Nat) : List Nat := (List.range 8).map (chanOf g)

/-- Offset of the block of channel `k` in its die window (R134). -/
def chanOffset (k : Nat) : Nat := 0x100 + localOf k * 0x80

/-- The channel is local channel 1 of a heavy pair (R135). -/
def State.isFollow (s : State) (k : Nat) : Bool := k < 8 && k % 2 == 1 && s.flag .SL_DIE_CFG_PAIR (k / 2)

/-- The channel that acts for `k`: the master of its pair, or itself (R135). -/
def State.lead (s : State) (k : Nat) : Nat := if s.isFollow k then k - 1 else k

/-- The channel is the master of a heavy pair. -/
def State.isPair (s : State) (k : Nat) : Bool := k < 8 && k % 2 == 0 && s.flag .SL_DIE_CFG_PAIR (k / 2)

/-! ## Turn-on and turn-off -/

/-- The output gate of R293 holds the channels of die `g` off. -/
def State.gated (s : State) (g : Nat) : Bool :=
  (s.di g).pairFlag && !s.flag .SL_WD_STAT_ACT g && !s.flag .SL_WD_STAT_FAILSAFE g

/-- A PWM on phase is long enough not to be suppressed (R142). -/
def pwmOn (duty freq : Nat) : Bool := duty ≠ 0 && 10 * freq ≤ duty * 1000

/-- A PWM off phase is long enough not to be suppressed (R142). -/
def pwmOff (duty freq : Nat) : Bool := duty < 1000 && 10 * freq ≤ (1000 - duty) * 1000

/-- The channel's switch conducts. -/
def State.conducts (s : State) (k : Nat) : Bool := (s.ch k).cond && !(s.ch k).rev

/-- The state a channel shows while its switch is off: LOCKED, FAULT, or `st` (R163). -/
def State.offState (s : State) (k st : Nat) : Nat :=
  if s.flag .SL_PROT_STAT_SPLOCK k then 6 else if s.rd .SL_PROT_STAT_CAUSE k ≠ 0 then 5 else st

/-- A conducting switch opens. Whether the load then drives the clamp into conduction until the pulse ends (CLAMP_PULSE_END)
no command says: SL_PROT_STAT.CLAMP is a free value (R144, R186; log entry 78). -/
def State.clampStart (s : State) (k : Nat) : State :=
  if (s.ch k).cond then (s.freshened).putF .SL_PROT_STAT_CLAMP (s.fresh % 2 == 1) k else s

/-- The switch turns off; an open window closes; STATE becomes LOCKED, FAULT or `st` (R141, R144, R163). -/
def State.turnOff (s : State) (k st : Nat) : State :=
  let s := s.clampStart k
  ((((s.setCh k { s.ch k with cond := false, ramping := false, nextDuty := none, inrPend := false, rev := false }).clrF
    .SL_STAT_INRUSH k).clrF .SL_STAT_LIMIT k).wr .SL_STAT_STATE (s.offState k st) k)

/-- Turn-on in the mode of an on-command, with a new window (R139 to R142). While the group is off for under-voltage
the channel waits with UVOFF set (R138), and while the output gate holds it only its commanded state counts (R293). -/
def State.turnOn (s : State) (k act duty : Nat) : State :=
  let g := dieOf k
  if s.flag .SL_UV_STAT_UVOFF g then (s.setF .SL_PROT_STAT_UVOFF k).wr .SL_STAT_STATE (s.offState k 0) k
  else if s.gated g then s.wr .SL_STAT_STATE (s.offState k 0) k
  else
    let mode := if act = 2 then 0 else if act = 3 then 2 else s.rd .SL_CFG_MODE k
    let d := if act = 3 then duty else s.rd .SL_DUTY k
    let on := mode ≠ 2 || pwmOn d (s.rd .SL_PWMF k)
    let win := s.rd .SL_INRUSH_T k ≠ 0
    let c := s.ch k
    ((((s.setCh k { c with cond := on, ramping := mode == 1, duty := d, nextDuty := none, inrPend := win && !on,
                           pauseMs := 0, olCount := 0, rev := false }).putF .SL_STAT_INRUSH (win && on) k).clrF
      .SL_PROT_STAT_UVOFF k).putF .SL_PROT_STAT_CLAMP (!on && s.flag .SL_PROT_STAT_CLAMP k) k).wr .SL_STAT_STATE (if mode = 0 then 2 else if mode = 1 then 1 else 3) k

/-- The gate of R293 closes: every channel of the die that is on turns off. -/
def State.gateOff (s : State) (g : Nat) : State :=
  s.each (chansOf g) fun s k =>
    let st := s.rd .SL_STAT_STATE k
    if st = 1 || st = 2 || st = 3 then s.turnOff k 0 else s

/-! ## Commands -/

/-- A refused command: REFUSED and WHY set, the channel unchanged (R138). -/
def State.refuseCmd (s : State) (k why : Nat) : State :=
  ((s.setF .SL_STAT_REFUSED k).wr .SL_STAT_WHY why k).when (why == 1) (·.setF .SL_DIE_STAT_BUDGET (dieOf k))

/-- The command would turn the channel on (it is in OFF or SHED). -/
def State.wouldTurnOn (s : State) (k action : Nat) : Bool :=
  action ≠ 0 && (s.rd .SL_STAT_STATE k == 0 || s.rd .SL_STAT_STATE k == 4)

/-- The admission check of R155 fails. -/
def State.overBudget (s : State) (k : Nat) : Bool :=
  let g := dieOf k
  s.flag .SL_FEED_CFG_ADMIT g &&
    decide (s.rdI .SL_FEED_SUM g + 20 * (s.rd .SL_BUDGET_NOM k : Int) > 20 * (s.rd .SL_FEED_LIM g : Int))

/-- The reason for which the die refuses a command, in the order PAIRED, PARAM, BLOCKED, BUDGET; 0 where it takes it
(R138, R178, R182, R183). `src` is the source of the command as SL_STAT.SRC codes it. -/
def State.cmdRefusal (s : State) (k action param src : Nat) : Nat :=
  let g := dieOf k
  let held := s.rd .SL_PROT_STAT_CAUSE k ≠ 0 || s.flag .SL_PROT_STAT_SPLOCK k
  if s.isFollow k then 2
  else if action > 3 || (action == 3 && param > 1000) || s.rd .SL_CFG_MODE k == 3 then 4
  else if (held && action ≠ 0) || (action ≠ 0 && !s.flag .SL_WD_STAT_SERVED g)
      || (src ≠ 3 && s.flag .SL_WD_STAT_FAILSAFE g) then 3
  else if s.wouldTurnOn k action && !s.flag .SL_UV_STAT_UVOFF g
      && (s.flag .SL_DIE_STAT_SHEDDING g || (src ≠ 2 && s.overBudget k)) then 1
  else 0

/-- The table of R137 for a command that is not refused. Every on-command, a change of duty too, is taken as the turn-on command that
clears OPENON (R150; DESIGN CHOICE, log entry 103). A channel in PWM that goes fully on before its first on edge opens its
window then (R141). -/
def State.actOn (s : State) (k action param : Nat) : State :=
  let c := s.ch k
  let st := s.rd .SL_STAT_STATE k
  if action = 0 then
    let s := ((s.setCh k { c with cmdOn := false, retryDue := false }).clrF .SL_PROT_STAT_RETRY_PEND k).clrF
      .SL_PROT_STAT_UVOFF k
    if st = 1 || st = 2 || st = 3 then s.turnOff k 0 else s
  else
    let s := (s.setCh k { c with cmdOn := true, onAct := action, onDuty := param }).clrF .SL_STAT_OPENON k
    let c := s.ch k
    let mode := s.rd .SL_CFG_MODE k
    let full := (s.setCh k { c with cond := true, ramping := false, nextDuty := none, inrPend := false }).clrF .SL_PROT_STAT_CLAMP k
    let full := (full.when c.inrPend (·.setF .SL_STAT_INRUSH k)).wr .SL_STAT_STATE 2 k
    let pwm (d : Nat) := (s.setCh k { c with nextDuty := some d }).wr .SL_STAT_STATE 3 k
    match st with
    | 1 => if action = 2 then full else if action = 3 then (s.setCh k { c with duty := param }).wr .SL_STAT_STATE 3 k
           else s
    | 2 => if action = 3 then (s.setCh k { c with duty := param }).wr .SL_STAT_STATE 3 k
           else if action = 1 && mode = 2 then pwm (s.rd .SL_DUTY k) else s
    | 3 => if action = 3 then s.setCh k { c with nextDuty := some param }
           else if action = 2 || mode ≠ 2 then full else s
    | _ => s.turnOn k action param

/-- A command applied at the die (R136 to R138, R179). -/
def State.applyCmd (s : State) (k action param src : Nat) : State :=
  let why := s.cmdRefusal k action param src
  if why ≠ 0 then s.refuseCmd k why
  else
    let on := s.wouldTurnOn k action
    let fg := src == 2 && (s.flag .SL_PROT_STAT_FGON k || (action != 0 && on))
    ((s.actOn k action param).wr .SL_STAT_SRC src k).putF .SL_PROT_STAT_FGON fg k

/-! ## Faults, retries -/

/-- DATA of R428 for a load channel: channel, cause, last ms current. -/
def State.slData (s : State) (k : Nat) : List Nat :=
  [k, s.rd .SL_PROT_STAT_CAUSE k] ++ leBytes 3 (s.rd .SL_INOW k)

/-- A fault of die `g` that waits for the next status poll (R185, R343; log entry 105). -/
def State.dieReport (s : State) (g evt : Nat) (data : List Nat) (w : World) : State :=
  { s with ferry := { s.ferry with reports := s.ferry.reports ++ [⟨g, s.stamp, evt, data, w⟩] } }

/-- A report has arrived: its record, the Sluice interrupt of its world, and the event for the standby (R185, R302). -/
def State.reported (s : State) (r : DieReport) : State :=
  ((s.logStamped r.stamp 0x04 r.evt Initiator.hw r.data).slIrq r.die r.world).sendRec (.dieEvent r.evt r.data)

/-- An event of R185 of channel `k`, for the world that owns it. -/
def State.slReport (s : State) (k evt : Nat) : State := s.dieReport (dieOf k) evt (s.slData k) (s.chanWorld k)

/-- DATA of R428 for group `g`. -/
def State.groupData (s : State) (g : Nat) : List Nat := [0x80 + g, 0] ++ leBytes 3 (s.rd .SL_FEED_SUM g)

/-- An event of R185 of group `g`, for the safety world. -/
def State.groupReport (s : State) (g evt : Nat) : State := s.dieReport g evt (s.groupData g) .safety

/-- A veto of R164 holds. -/
def State.vetoed (s : State) (k : Nat) : Bool :=
  s.flag .SL_PROT_STAT_TLATCH k || s.flag .SL_PROT_STAT_SPLOCK k || s.flag .SL_UV_STAT_UVOFF (dieOf k)
    || s.flag .SL_WD_STAT_FAILSAFE (dieOf k)

/-- A retry attempt (R164). -/
def State.attempt (s : State) (k : Nat) : State :=
  let c := s.ch k
  let s := ((((s.setCh k { c with retryDue := false }).inc .SL_PROT_STAT_RETRIES k).clrF .SL_PROT_STAT_RETRY_PEND k).slReport
    k 0x02).wr .SL_PROT_STAT_CAUSE 0 k
  s.turnOn k c.onAct c.onDuty

/-- An attempt whose interval has run out is made once the last veto ends (R164). -/
def State.retryRelease (s : State) (k : Nat) : State :=
  if s.flag .SL_PROT_STAT_RETRY_PEND k && (s.ch k).retryDue && !s.vetoed k then s.attempt k else s

/-- A trip of a conducting channel with a cause; a REFLEX cause stays (R160 to R165). -/
def State.trip (s : State) (k cause : Nat) : State :=
  let old := s.rd .SL_PROT_STAT_CAUSE k
  let c := s.ch k
  let retry := c.cmdOn && s.rd .SL_PROT_STAT_RETRIES k < s.rd .SL_PROT_CFG_RETRY_N k && !s.flag .SL_PROT_STAT_FGON k
  let s := (s.wr .SL_PROT_STAT_CAUSE (if old = 4 then 4 else cause) k).turnOff k 0
  (((s.setCh k { s.ch k with retryDue := false }).putF .SL_PROT_STAT_RETRY_PEND retry k).inc .SL_TRIPS k).slReport k 0x01

/-! ## Spillway -/

/-- The window sum of R171 over bucket energies, present bucket first. -/
def windowSum (buckets : List Nat) (win : Nat) : Nat := min ((buckets.take (10 * win)).sum) 0xFFFFFF

/-- Buckets until the sum falls below the budget (R173). With a budget of 0 it never does, and the manual states no
value: that one is left open (log entry 67). -/
def freeIn (buckets : List Nat) (win budget : Nat) : Nat :=
  if budget = 0 then Config.neverFree win
  else ((List.range (10 * win)).find? fun n => (buckets.take (10 * win - n)).sum < budget).getD (10 * win)

/-- SP_SUM and SP_FREE_IN follow the buckets. -/
def State.spillView (s : State) (k : Nat) : State :=
  let b := (s.ch k).buckets
  (s.wr .SP_SUM (windowSum b (s.rd .SP_WIN k)) k).wr .SP_FREE_IN
    (min 1023 (freeIn b (s.rd .SP_WIN k) (s.rd .SP_BUDGET k))) k

/-- A pulse counts in the present bucket; one without energy leaves the list as it is. -/
def addPulse (b : List Nat) (e : Nat) : List Nat :=
  if e = 0 then b
  else match b with
    | [] => [e]
    | h :: r => (h + e) :: r

/-- A bucket passes; a list of zeros is kept empty. -/
def pushBucket (b : List Nat) : List Nat := if b.all (· == 0) then [] else 0 :: b.take 599

/-- The single-pulse rating of R170, 0.1 mJ. -/
def State.pulseRating (s : State) (k : Nat) : Nat :=
  if s.isPair k then 12000 else if isHeavy k then 6000 else 1200

/-! ## Floodgate -/

/-- A source event of R174. -/
structure FgEvent where
  stype : Nat
  code : Nat
  index : Nat
  level : Bool
  deriving DecidableEq, Repr

/-- Entry `e` matches the event (R174). -/
def State.fgMatch (s : State) (e : Nat) (v : FgEvent) : Bool :=
  let src := s.rd .FG_SRC e
  bits src 0 3 == v.stype && bits src 3 4 == v.code
    && (bits src 7 6 == v.index || (v.stype == 1 && bits src 7 6 == 63))
    && (v.stype ≠ 3 || bit src 13 == v.level)

/-- MASK of entry `e` selects channel `k`; either half selects a pair (R180). -/
def State.fgSelects (s : State) (e k : Nat) : Bool :=
  bit (s.rd .FG_MASK e) k || (s.isPair k && bit (s.rd .FG_MASK e) (k + 1))

/-- The stronger of two actions (ACTION, DUTY) for one channel (R177). -/
def fgMerge (a b : Nat × Nat) : Nat × Nat :=
  if a.1 = 1 || b.1 = 1 then (1, 0)
  else if a.1 = 0 || b.1 = 0 then (0, 0)
  else if a.1 = 3 && b.1 = 3 then (3, min a.2 b.2)
  else if a.1 = 3 then a else if b.1 = 3 then b else (2, 0)

/-- The merged action of the fired entries for channel `k`. -/
def State.fgAction (s : State) (hits : List Nat) (k : Nat) : Option (Nat × Nat) :=
  (hits.filter (s.fgSelects · k)).foldl (fun m e =>
    let a := (bits (s.rd .FG_ACT e) 0 2, bits (s.rd .FG_ACT e) 2 10)
    some (match m with | none => a | some b => fgMerge b a)) none

/-- A Floodgate action at the die (R178): off and latch, off, on hard, PWM. A new FAULT state raises the Sluice interrupt
(R157). -/
def State.fgApply (s : State) (k : Nat) (a : Nat × Nat) : State :=
  s.toDie (dieOf k) (chanOffset k) ⟨0x03, .safety⟩ fun s =>
  if a.1 = 1 then
    if s.cmdRefusal k 0 0 2 ≠ 0 then s.refuseCmd k (s.cmdRefusal k 0 0 2)
    else
      let t := (s.wr .SL_PROT_STAT_CAUSE 4 k).applyCmd k 0 0 2
      let t := t.wr .SL_STAT_STATE (t.offState k 0) k
      t.when (t.rd .SL_STAT_STATE k == 5 && s.rd .SL_STAT_STATE k != 5) (·.slRaise (dieOf k) (s.chanWorld k))
  else s.applyCmd k a.1 a.2 2

/-- The fields of a channel that an action may change. -/
def actFields : List Fld :=
  [.SL_STAT_STATE, .SL_STAT_REFUSED, .SL_STAT_WHY, .SL_STAT_SRC, .SL_STAT_INRUSH, .SL_STAT_LIMIT, .SL_STAT_OPENON,
   .SL_PROT_STAT_CLAMP, .SL_PROT_STAT_UVOFF, .SL_PROT_STAT_FGON, .SL_PROT_STAT_RETRY_PEND, .SL_PROT_STAT_CAUSE]

/-- A channel as it stands, and put back so. BUDGET stays where another channel of the die was refused for it. -/
def State.chanImage (s : State) (k : Nat) : ChanImage :=
  ⟨s.ch k, actFields.map (s.rd · k), s.rd .SL_DIE_STAT_BUDGET (dieOf k)⟩
def State.imageBack (s : State) (k : Nat) (m : ChanImage) : State :=
  let s := s.each (actFields.zip m.vals) fun s p => s.wr p.1 p.2 k
  let other := (chansOf (dieOf k)).any fun j => j ≠ k && s.flag .SL_STAT_REFUSED j && s.rd .SL_STAT_WHY j == 1
  (s.setCh k m.chan).when (!other) (·.wr .SL_DIE_STAT_BUDGET m.budget (dieOf k))

/-- The merged action of a tick reaches the die as one command (R177): where the channel stands as an earlier firing of the tick
left it, the effect of that one is taken back first. -/
def State.fgTick (s : State) (k : Nat) (a : Nat × Nat) : State :=
  let before := s.gate.acts.find? (·.1 == k)
  match before with
  | some (_, b, e) =>
    if s.chanImage k ≠ e then s.fgApply k a
    else if !s.dieReach (dieOf k) then s
    else
      let t := (s.imageBack k b).fgApply k a
      { t with gate := { t.gate with acts := (k, b, t.chanImage k) :: t.gate.acts.filter (·.1 ≠ k) } }
  | none =>
    let t := s.fgApply k a
    { t with gate := { t.gate with acts := (k, s.chanImage k, t.chanImage k) :: t.gate.acts } }

/-- Channels that entered FAULT or LOCKED between two states, as source events (R174). -/
def faultEvents (old new : State) : List FgEvent :=
  ((List.range 32).filter fun k =>
    let st := new.rd .SL_STAT_STATE k
    (st == 5 || st == 6) && old.rd .SL_STAT_STATE k ≠ st).map fun k => ⟨2, 0, k, false⟩

/-- The die and world interrupts of the channels in the masks of the fired entries (R185). -/
def State.fgIrqs (s : State) (hits : List Nat) : State :=
  s.each ((List.range 32).filter fun k => hits.any (s.fgSelects · k)) fun s k => s.slRaise (dieOf k) (s.chanWorld k)

/-- The entries fired in this MILL tick, `hits` among them: their actions merge (R177, log entry 79). -/
def State.tickHits (s : State) (hits : List Nat) : List Nat :=
  (if s.gate.tick = s.now then s.gate.hits.filter (!hits.contains ·) else []) ++ hits

/-- Source events fire every matching armed entry; the merged actions act at the dies, and a channel that an action
puts into FAULT is a source event in its turn (R176, R177). `n` bounds the chain: each round puts at least one more
channel into FAULT or LOCKED, so 33 rounds reach its end. -/
def State.fire : Nat → List FgEvent → State → State
  | 0, _, s => s
  | n + 1, evs, s =>
    let hits := if s.flag .FG_CTL_EN then (List.range 64).filter fun e =>
      bit (s.rd .FG_ACT e) 31 && evs.any (s.fgMatch e) else []
    if hits.isEmpty then s
    else
      let s1 := s.each hits fun s e => (((s.inc .FG_CNT e).putBit (if e < 32 then .FG_FIRED_LO else .FG_FIRED_HI) (e % 32)
        true).log 0x05 0x01 ⟨0x03, .safety⟩ (e :: leBytes 4 (s.rd .FG_SRC e)))
      let s2 := ((s1.setF .FG_STAT_FIRED).raise 40).fgIrqs hits
      let all := s.tickHits hits
      let dies := evs.all fun v => v.stype == 2 || v.stype == 4
      let s2 := { s2.decision (if dies then 0x86 else 6) hits with gate := ⟨s.now, all, if s.gate.tick = s.now then s.gate.acts else []⟩ }
      if !s.claim then s2
      else
        let s3 := s2.each ((List.range 32).filter fun k => !s.isFollow k && hits.any (s.fgSelects · k)) fun t k =>
          match s.fgAction all k with
          | none => t
          | some a => t.fgTick k a
        State.fire n (faultEvents s2 s3) s3

/-- Source events presented to Floodgate. -/
abbrev State.fireAll (s : State) (evs : List FgEvent) : State := State.fire 33 evs s

/-- An operation whose entries into FAULT or LOCKED are presented to Floodgate (R174). -/
def State.watched (s : State) (f : State → State) : State := (f s).fireAll (faultEvents s (f s))

/-! ## Shedding -/

/-- A channel is a candidate of R154: in ON, PWM or RAMP with priority 1 to 15 (R179: FGON counts as priority 0). -/
def State.candidate (s : State) (k : Nat) : Bool :=
  let st := s.rd .SL_STAT_STATE k
  (st == 1 || st == 2 || st == 3) && s.rd .SL_BUDGET_PRIO k ≠ 0 && !s.flag .SL_PROT_STAT_FGON k && !s.isFollow k

/-- The candidate with the highest priority number, on equal numbers the highest channel number (R154). -/
def State.shedPick (s : State) (g : Nat) : Option Nat :=
  ((chansOf g).filter s.candidate).foldl (fun m k => match m with
    | none => some k
    | some j => if s.rd .SL_BUDGET_PRIO j < s.rd .SL_BUDGET_PRIO k
        || (s.rd .SL_BUDGET_PRIO j == s.rd .SL_BUDGET_PRIO k && j < k) then some k else some j) none

/-- One pass of the loop of R154: shed the next candidate, or flag that there is none and end the round. -/
def State.shedStep (s : State) (g : Nat) : State :=
  match s.shedPick g with
  | none => ((s.setF .SL_DIE_STAT_FEEDOVR g).clrF .SL_DIE_STAT_SHEDDING g).setDi g { s.di g with overMs := 0 }
  | some k => ((s.setCh k { s.ch k with cmdOn := false }).turnOff k 4).setF .SL_DIE_STAT_SHED g

end Sys2Proof.Machine
end

