-- ==== Sys2Proof/Machine/FieldIo.lean ====
section
/-!
DEFINITION. Field inputs and outputs (R192 to R207): debounce, edges and their ring, output commands, readback.
-/
namespace Sys2Proof.Machine

/-- The die of field channel `k` (R192). -/
abbrev ioDieOf (k : Nat) : Nat := k / 12

/-- Offset of the block of field channel `k` in its die window (R192). -/
abbrev ioOffset (k : Nat) : Nat := 0x600 + (k % 12) * 0x20

/-- The logical comparator level: the comparator, inverted where INV is set (R193). -/
def State.ioRaw (s : State) (k : Nat) : Bool := (s.fio k).comp != s.flag .IO_CFG_INV k

/-- The input stage of the channel reads the pin: IN or OUTRB (R192). -/
def State.ioReads (s : State) (k : Nat) : Bool := s.rd .IO_CFG_MODE k == 0 || s.rd .IO_CFG_MODE k == 2

/-- An overtemperature turn-off: OTP, OTPEVT with its interrupt, and IO_OTPCNT (R200, R207). -/
def State.ioOverTemp (s : State) (k : Nat) : State :=
  (((s.setF .IO_STAT_OTP k).setF .IO_STAT_OTPEVT k).inc .IO_OTPCNT k).ioIrq (ioDieOf k) (s.ioWorld k)

/-- DRIVE follows the commanded state, the output gate of R293 and the overtemperature turn-off: a stage that comes to
conduct with a hot junction turns off at once (R200). A stage that does not conduct limits no current. -/
def State.ioRefresh (s : State) (k : Nat) : State :=
  let on := (s.fio k).cmdOn && s.rd .IO_CFG_MODE k != 0 && !s.gated (ioDieOf k)
  let s := if on && (s.fio k).hot && !s.flag .IO_STAT_OTP k then s.ioOverTemp k else s
  let drive := on && !s.flag .IO_STAT_OTP k
  (s.putF .IO_STAT_DRIVE drive k).putF .IO_STAT_LIMIT (drive && s.flag .IO_STAT_LIMIT k) k

/-- The stage limits its current, or no longer does: LIMIT, and its interrupt where it sets (R200, R207). -/
def State.ioLimit (s : State) (k : Nat) (on : Bool) : State :=
  (s.putF .IO_STAT_LIMIT on k).when (on && !s.flag .IO_STAT_LIMIT k) (·.ioIrq (ioDieOf k) (s.ioWorld k))

/-- The readback comparison of R202: MISMATCH sets or clears; a setting raises the interrupt and a record. A pin that a
conducting stage does not pull up is held low by a short, which also sets LIMIT (log entry 72). -/
def State.ioCompare (s : State) (k : Nat) : State :=
  let act := s.flag .SL_WD_STAT_ACT (ioDieOf k)
  if s.rd .IO_CFG_MODE k ≠ 2 || (s.fio k).hold || !(act || s.flag .IO_CFG_JOINED k) then s
  else if s.flag .IO_STAT_LEVEL k = (s.fio k).cmdOn then (s.clrF .IO_STAT_MISMATCH k).clrF .IO_STAT_LIMIT k
  else
    let s := if s.flag .IO_STAT_MISMATCH k then s
      else ((s.setF .IO_STAT_MISMATCH k).log 0x06 0x01 Initiator.hw [k, b2n (s.fio k).cmdOn]).ioIrq (ioDieOf k) (s.ioWorld k)
    s.ioLimit k ((s.fio k).cmdOn && s.flag .IO_STAT_DRIVE k)

/-- The debounced level shown by IO_STAT and IO_IN. -/
def State.ioLevel (s : State) (k : Nat) (b : Bool) : State :=
  (s.putF .IO_STAT_LEVEL b k).putBit .IO_IN (k % 12) b (ioDieOf k)

/-- The raw level shown by IO_RAW. -/
def State.ioRawView (s : State) (k : Nat) : State := s.putBit .IO_RAW (k % 12) (s.ioRaw k) (ioDieOf k)

/-- The level takes the raw value without an edge (after the die starts and after MODE changes, R195). -/
def State.ioSettle (s : State) (k : Nat) : State :=
  ((s.setIo k { s.fio k with pend := false }).ioLevel k (s.ioRaw k)).ioRawView k

/-- A write of a threshold, debounce time, INV or PROF discards a pending run; where raw differs from the level, a new
run starts (R195). -/
def State.ioRerun (s : State) (k : Nat) : State :=
  (s.setIo k { s.fio k with pend := s.ioReads k && s.ioRaw k != s.flag .IO_STAT_LEVEL k, start := s.stamp }).ioRawView k

/-- An edge at the die: level, edge number, FIFO. The next status poll carries it to IO_LAST, IO_EDGE_LOST and Floodgate
(R197 to R199). -/
def State.ioEdge (s : State) (k : Nat) (b : Bool) (stamp : Nat) : State :=
  let g := ioDieOf k
  let d := s.di g
  let c := s.fio k
  let s := (s.ioLevel k b).setIo k { c with pend := false }
  let sel := if b then s.flag .IO_CFG_EDGE_R k else s.flag .IO_CFG_EDGE_F k
  let full := sel && 16 ≤ d.fifo.length
  let s := s.setDi g { d with edgeSeq := (d.edgeSeq + 1) % 256, news := d.news ++ [(k, b, stamp, full)] }
  let s := if full then ((s.setIo k { s.fio k with lost := true }).setF .IO_DSTAT_FIFOOVF g).setF .IO_STAT_LOST k
    else if sel then (s.setDi g { s.di g with fifo := d.fifo ++ [⟨stamp, k, b, c.lost, d.edgeSeq⟩] }).setIo k { s.fio k with lost := false }
    else s
  s.ioCompare k

/-- The edges that a status poll carries apart from the FIFO: IO_LAST, the count of those the full FIFO did not take, and
the Floodgate source event of type 3 (R197 to R199). -/
def State.ioNews (s : State) (g : Nat) : State :=
  (s.setDi g { s.di g with news := [] }).each (s.di g).news fun s e =>
    let s := (s.wr .IO_LAST (cut 32 e.2.2.1) (2 * e.1)).wr .IO_LAST (e.2.2.1 / 2 ^ 32) (2 * e.1 + 1)
    (s.when e.2.2.2 (·.inc .IO_EDGE_LOST g)).fireAll [⟨3, 0, e.1, e.2.1⟩]

/-- FIELD_INPUT_CHANGE (R195): the comparator takes a level; a run starts or is discarded. A pin that falls while the stage drives
it is pulled down against the limit of 0.7 A, in mode OUT as in OUTRB, and one that rises no longer is (R200; log entry 72). -/
def execFieldInputChange (k : Nat) (comp : Bool) (s : State) : Out :=
  let k := k % 48
  let s := (s.setIo k { s.fio k with comp := comp }).ioRawView k
  let s := s.when (s.flag .IO_STAT_DRIVE k) (·.ioLimit k (!comp))
  .next <| if !(s.di (ioDieOf k)).up || !s.ioReads k then s
  else if s.ioRaw k = s.flag .IO_STAT_LEVEL k then s.setIo k { s.fio k with pend := false }
  else if (s.fio k).pend then s
  else s.setIo k { s.fio k with pend := true, start := s.stamp }

/-- DEBOUNCE_ACCEPT (R195, R196): the run has lasted IO_DEB; the edge carries the stamp of its start. -/
def execDebounceAccept (k : Nat) (s : State) : Out :=
  let k := k % 48
  .next <| if (s.fio k).pend && (s.di (ioDieOf k)).up then s.ioEdge k (s.ioRaw k) (s.fio k).start else s

/-- The write index of the edge ring, ahead of the one software sees while records wait for their acknowledgement
(R305). -/
abbrev State.edgeWr (s : State) (g : Nat) : Nat := (s.di g).edgeNext.getD (s.rd .IO_EDGE_WR g)

/-- The ring of 128 records is full for a read index in use (R197, R480). -/
def State.edgeRingFull (s : State) (g : Nat) : Bool :=
  let w := (s.edgeWr g + 1) % 128
  w == s.rd .IO_EDGE_RD_S g || (s.flag .IO_EDGE_CTL_NRING g && w == s.rd .IO_EDGE_RD_N g)

/-- An edge that finds the ring full is not written but counted (R197, R480). -/
def State.edgeLost (s : State) (g chan : Nat) : State :=
  ((s.inc .IO_EDGE_LOST g).setIo chan { s.fio chan with ringLost := true }).setF .IO_STAT_LOST chan

/-- A record of 16 bytes into the edge ring; software sees it once it is agreed (R197, R305). -/
def State.edgePut (s : State) (g chan : Nat) (rec' : List Nat) : State :=
  let w := s.edgeWr g
  let s := (s.setBytes (dieWindow g + 0xB400 + 16 * w) rec').setDi g { s.di g with edgeNext := some ((w + 1) % 128) }
  s.releaseAfter (.edgeRing g ((w + 1) % 128) chan)

/-- EDGE_RECORD_WRITE (R197, R198, R302, R303): the oldest polled edge goes into the ring, or is counted as lost. A
standby deposits its own edge 0x4000 higher and keeps it to compare. -/
def execEdgeRecordWrite (g : Nat) (s : State) : Out := s.running <|
  let g := g % 4
  let d := s.di g
  .next <| match d.polled with
  | [] => s
  | e :: rest =>
    let s := s.setDi g { d with polled := rest }
    let c := s.fio e.chan
    let rec' (lost : Bool) := leBytes 8 e.stamp ++ [e.chan + 64 * b2n e.level + 128 * b2n (e.lost || lost), e.seq] ++ List.replicate 6 0
    if s.standby then
      let w := s.word (dieWindow g + 0xFF04) % 128
      let s := (s.setBytes (dieWindow g + 0xF400 + 16 * w) (rec' false)).setWord (dieWindow g + 0xFF04) ((w + 1) % 128)
      { s with braid := { s.braid with own := s.braid.own ++ [(2, [e.chan, b2n e.level], e.stamp)] } }
    else if s.edgeRingFull g then
      s.edgeLost g e.chan
    else ((s.sendRec (.edge g e.chan (rec' c.ringLost))).setIo e.chan { c with ringLost := false }).edgePut g e.chan (rec' c.ringLost)

/-- The reason for which the die refuses an output command, in the order MODE, PARAM, BLOCKED; 0 where it takes it
(R201, R203, R204). -/
def State.ioRefusal (s : State) (k action src : Nat) : Nat :=
  let g := ioDieOf k
  if s.rd .IO_CFG_MODE k = 0 then 2
  else if action > 1 then 3
  else if (action = 1 && !s.flag .SL_WD_STAT_SERVED g) || (src ≠ 3 && s.flag .SL_WD_STAT_FAILSAFE g) then 1
  else 0

/-- The commanded state set: OUT, IO_OUT, SRC, the readback hold. -/
def State.ioSet (s : State) (k action src : Nat) : State :=
  let c := s.fio k
  let on := action == 1
  let s := ((((s.setIo k { c with cmdOn := on, hold := c.hold || c.cmdOn != on }).putF .IO_STAT_OUT on k).putBit .IO_OUT
    (k % 12) on (ioDieOf k)).wr .IO_STAT_SRC src k)
  (s.ioRefresh k).ioCompare k

/-- An output command applied at the die. -/
def State.ioApply (s : State) (k action src : Nat) : State :=
  let why := s.ioRefusal k action src
  if why ≠ 0 then (s.setF .IO_STAT_REFUSED k).wr .IO_STAT_WHY why k else s.ioSet k action src

/-- An output command as a Ferry write (R201, R342), a decision of kind 1 (R307). -/
def State.ioCmd (s : State) (who : Initiator) (k action src : Nat) : State :=
  let g := ioDieOf k
  let s := s.decision 1 [2, k, action, 0, 0]
  s.toDie g (ioOffset k) who fun s =>
    if !owns (s.worldOf who) (s.ioWorld k) then s.setF .IO_DSTAT_REFUSED g
    else s.ioApply k action src

/-- FIELD_OUTPUT_OFF (R201): command 0x0. -/
def execFieldOutputOff (who : Initiator) (k : Nat) (s : State) : Out := s.asMaster who <|
  .next ((s.answer .none).ioCmd who (k % 48) 0 0)

/-- FIELD_OUTPUT_ON (R201): command 0x1. -/
def execFieldOutputOn (who : Initiator) (k : Nat) (s : State) : Out := s.asMaster who <|
  .next ((s.answer .none).ioCmd who (k % 48) 1 0)

/-- READBACK_HOLD_END (R202): the comparison is no longer held. -/
def execReadbackHoldEnd (k : Nat) (s : State) : Out :=
  let k := k % 48
  .next ((s.setIo k { s.fio k with hold := false }).ioCompare k)

/-- FIELD_OUTPUT_OVERTEMP (R200): the junction exceeds 160 °C; a conducting stage turns off. -/
def execFieldOutputOvertemp (k : Nat) (s : State) : Out :=
  let k := k % 48
  .next ((s.setIo k { s.fio k with hot := true }).ioRefresh k)

/-- FIELD_OUTPUT_OTP_RECOVER (R200): the junction has fallen below 140 °C. -/
def execFieldOutputOtpRecover (k : Nat) (s : State) : Out :=
  let k := k % 48
  .next (((s.setIo k { s.fio k with hot := false }).clrF .IO_STAT_OTP k).ioRefresh k)

end Sys2Proof.Machine
end

