-- ==== Sys2Proof/Machine/Sluice.lean ====
section
/-!
DEFINITION. Commands and events of the load channels: switching and measurement (R133 to R157).
-/
namespace Sys2Proof.Machine

/-- A command to load channel `k` as a Ferry write: reach of the die, world of the initiator (R136, R342), the refusals
of R138 and the table of R137; a decision of kind 1 (R307); a channel that reads LOCKED after it is a Floodgate source event. -/
def State.chanCmd (s : State) (who : Initiator) (k action param src : Nat) : State :=
  let g := dieOf k
  let s := s.decision 1 ([1, k, action] ++ leBytes 2 param)
  s.toDie g (chanOffset k) who fun s =>
    if !owns (s.worldOf who) (s.chanWorld k) then s.setF .SL_DIE_STAT_REFUSED g
    else s.watched (·.applyCmd k action param src)

/-- CHANNEL_OFF (R137): command 0x0. -/
def execChannelOff (who : Initiator) (k : Nat) (s : State) : Out := s.asMaster who <|
  .next ((s.answer .none).chanCmd who (k % 32) 0 0 0)

/-- CHANNEL_ON (R137): command 0x1. -/
def execChannelOn (who : Initiator) (k : Nat) (s : State) : Out := s.asMaster who <|
  .next ((s.answer .none).chanCmd who (k % 32) 1 0 0)

/-- CHANNEL_ON_HARD (R139): command 0x2. -/
def execChannelOnHard (who : Initiator) (k : Nat) (s : State) : Out := s.asMaster who <|
  .next ((s.answer .none).chanCmd who (k % 32) 2 0 0)

/-- CHANNEL_PWM (R137): command 0x3 with a duty in 0.1 %. -/
def execChannelPwm (who : Initiator) (k duty : Nat) (s : State) : Out := s.asMaster who <|
  .next ((s.answer .none).chanCmd who (k % 32) 3 duty 0)

/-- RAMP_COMPLETE (R140): the output is within 0.5 V of the feed; the switch goes fully on, and STATE goes
from RAMP to ON, also where the ramp was cut by a reverse block and conduction resumed hard (R151). In PWM the ramp goes
on until the first off edge with the switch fully on (R137). -/
def execRampComplete (k : Nat) (s : State) : Out :=
  let k := s.lead (k % 32)
  .next <| if (s.ch k).ramping || (s.conducts k && s.rd .SL_STAT_STATE k = 1) then
    let s' := s.setCh k { s.ch k with ramping := false }
    if s.rd .SL_STAT_STATE k = 1 then s'.wr .SL_STAT_STATE 2 k else s'
  else s

/-- INRUSH_WINDOW_END (R141, R161, R168): the window runs out; a window that a dip pauses does not. -/
def execInrushWindowEnd (k : Nat) (s : State) : Out :=
  let k := s.lead (k % 32)
  .next <| if s.flag .SL_STAT_INRUSH k && !(s.flag .SL_UV_STAT_DIP (dieOf k) && (s.ch k).pauseMs < 100) then
    s.clrF .SL_STAT_INRUSH k
  else s

/-- PWM_EDGE (R142, R141, R173): the period start (`rise`), at which a new duty takes effect, or the off edge. -/
def execPwmEdge (k : Nat) (rise : Bool) (s : State) : Out :=
  let k := s.lead (k % 32)
  let c := s.ch k
  let f := s.rd .SL_PWMF k
  .next <| if s.rd .SL_STAT_STATE k ≠ 3 then s
  else if rise then
    let d := c.nextDuty.getD c.duty
    let on := pwmOn d f
    let s := s.setCh k { c with duty := d, nextDuty := none, cond := on, inrPend := c.inrPend && !on }
    let s := s.when on (·.clrF .SL_PROT_STAT_CLAMP k)
    if c.inrPend && on then s.setF .SL_STAT_INRUSH k else s
  else if !pwmOff c.duty f && c.duty ≠ 0 then s
  else if s.flag .SL_PROT_STAT_SPLOCK k then s.watched (·.turnOff k 0)
  else (s.clampStart k).setCh k { c with cond := false, ramping := false }

/-- A value in the channel's reporting unit, with the saturation of R146; the second part is FOVR. -/
def reported (fine : Bool) (coarse fineVal : Int) : Int × Bool :=
  if fine then (max (-5000) (min 5000 fineVal), decide (fineVal > 5000))
  else (max (-8388607) (min 8388607 coarse), false)

/-- Channel `k` reports in the fine unit (R146). -/
def State.isFine (s : State) (k : Nat) : Bool := !isHeavy k && s.flag .SL_CFG_FINE k

/-- The group sum in units of 5 mA from the coarse values of the eight channels, heavy ones in 5 mA and light ones in
1 mA, rounded to nearest (R153). -/
def groupSum (coarse : List Int) : Int :=
  let ma : Int := ((coarse.take 2).map (· * 5)).sum + ((coarse.drop 2).take 6).sum
  (2 * ma + 5).fdiv 10

/-- MILLISECOND_MEAN (R147, R150, R153, R161, R168): the means of the eight channels on the coarse and the fine path,
their means over the on phases alone (in the reporting unit), the feed voltage in mV and the junction temperatures. In a
millisecond without an on phase the operand's value counts like any other for OPENON (DESIGN CHOICE, log entry 103). -/
def execMillisecondMean (g : Nat) (coarse fine onPhase : List Int) (feed : Int) (tj : List Int) (s : State) : Out :=
  let g := g % 4
  if !(s.di g).up then .next s else
  let sum := groupSum coarse
  let s := (s.wrI .SL_FEED_SUM sum g).wrI .SL_FEED_V feed g
  let high := decide (sum > 20 * (s.rd .SL_FEED_LIM g : Int))
  let dip := s.flag .SL_UV_STAT_DIP g
  let s := s.each (List.range 8) fun s l =>
    let k := chanOf g l
    let r := reported (s.isFine k) (coarse.getD l 0) (fine.getD l 0)
    let c := s.ch k
    let st := s.rd .SL_STAT_STATE k
    let counts := s.flag .SL_CFG_OLON k && (st == 2 || st == 3) && !s.flag .SL_STAT_INRUSH k
    let low := decide ((onPhase.getD l 0) < (s.rd .SL_OLTHR k : Int))
    let c := { c with
      pauseMs := if dip && s.flag .SL_STAT_INRUSH k && c.pauseMs < 100 then c.pauseMs + 1 else c.pauseMs,
      olCount := if !counts then c.olCount else if low then c.olCount + 1 else 0 }
    (((s.setCh k c).wrI .SL_INOW r.1 k).putF .SL_STAT_FOVR r.2 k).wrI .SL_TJ (tj.getD l 0) k
  let d := s.di g
  let fm := ((List.range 8).map fun l => if s.isFine (chanOf g l) then 2 ^ l else 0).sum
  let ov := ((List.range 8).map fun l => if s.flag .SL_STAT_FOVR (chanOf g l) && !bit d.fovr l then 2 ^ l else 0).sum
  .next (s.setDi g { d with
    seq := (d.seq + 1) % 65536,
    msVals := (List.range 8).map fun l => s.rdI .SL_INOW (chanOf g l),
    msFine := fm,
    fovr := d.fovr + ov,
    overMs := if high && !s.flag .SL_DIE_STAT_SHEDDING g then d.overMs + 1 else 0 })

/-- A stream record into the ring at window offset 0x8000 (R147). -/
def State.streamPut (s : State) (g : Nat) (rec' : List Nat) : State :=
  let r := s.rd .SL_STRM_WR g
  (s.setBytes (dieWindow g + 0x8000 + 0x30 * r) rec').wr .SL_STRM_WR ((r + 1) % 256) g

/-- A turn record into its half, `off` the window offset of the halves: DONE goes to 0 first and is written last (R148). -/
def State.turnPut (s : State) (g off n : Nat) (body : List Nat) : State :=
  let a := dieWindow g + off + (n % 2) * 0x40
  ((s.setWord (a + 0x3C) 0).setBytes a body).setWord (a + 0x3C) (n + 2 ^ 31)

/-- The die is reachable over Ferry: it takes transfers, and its polls are answered (R27, R343, R344). -/
def State.dieHeard (s : State) (g : Nat) : Bool := s.dieReach g && bit (s.rd .FY_STAT_REACH) g

/-- STREAM_RECORD_DEPOSIT (R147, R303): the record of the last millisecond goes to the ring and SL_STRM_WR advances;
while the die is unreachable none is written. A standby deposits its own records 0x4000 higher. -/
def execStreamRecordDeposit (g : Nat) (s : State) : Out := s.running <|
  let g := g % 4
  .next <| if !s.dieHeard g then s else
    let d := s.di g
    let rec' := leBytes 2 d.seq ++ [d.msFine % 256, 0] ++ leBytes 8 s.stamp
      ++ (d.msVals.map fun v => leBytes 4 (ofInt 32 v)).flatten ++ [0, 0, 0, 0]
    if s.standby then
      let r := s.word (dieWindow g + 0xFF00) % 256
      (s.setBytes (dieWindow g + 0xC000 + 0x30 * r) rec').setWord (dieWindow g + 0xFF00) ((r + 1) % 256)
    else (s.sendRec (.stream g rec')).streamPut g rec'

/-- A mean rounded to nearest, halves away from zero (R148). -/
def meanOf (sum : Int) (n : Nat) : Int :=
  if n = 0 then 0 else if sum < 0 then -((2 * sum.natAbs + n) / (2 * n) : Nat) else ((2 * sum.natAbs + n) / (2 * n) : Nat)

/-- A turn average in the reporting unit of its turn, saturating at the limits of R146. -/
def turnAverage (fine : Bool) (sum : Int) (n : Nat) : Int := (reported fine (meanOf sum n) (meanOf sum n)).1

/-- TURN_RECORD_DEPOSIT (R146, R148): the averages of the turn just ended, from the sums of `count` samples in the reporting
unit. None is written while Millrace is OFF or in ACQUIRE, nor while the die is unreachable. -/
def execTurnRecordDeposit (g count : Nat) (sums : List Int) (s : State) : Out := s.running <|
  let g := g % 4
  .next <| if !s.phaseRuns || !s.dieHeard g then s else
    let d := s.di g
    let n := (s.mr.turn + 2 ^ 24 - 1) % 2 ^ 24
    let vals := (List.range 8).map fun l => leBytes 4 (ofInt 32 (turnAverage (bit d.prevFine l) (sums.getD l 0) count))
    let body := leBytes 4 n ++ leBytes 4 (count % 65536) ++ vals.flatten
      ++ [d.prevFine % 256, d.prevFovr % 256, 0, 0] ++ List.replicate 16 0
    if s.standby then s.turnPut g 0xF000 n body
    else (s.sendRec (.turnAvg g n body)).turnPut g 0xB000 n body

/-- OPEN_LOAD_OFF (R149): the reading of the off-state pin after its 10 ms, `mv` the pin voltage. -/
def execOpenLoadOff (k mv : Nat) (s : State) : Out :=
  let k := k % 32
  let st := s.rd .SL_STAT_STATE k
  .next <| if !s.flag .SL_CFG_OLOFF k || !(st == 0 || st == 4) then s
  else if mv < 2000 then s.clrF .SL_STAT_OPENOFF k
  else if 3500 ≤ mv && mv < 8000 && !s.flag .SL_STAT_OPENOFF k then
    (s.setF .SL_STAT_OPENOFF k).slIrq (dieOf k) (s.chanWorld k)
  else s

/-- EXTV_CHANGE (R149): the pin has been above 8.0 V, or below it, for 10 ms. -/
def execExtvChange (k mv : Nat) (s : State) : Out :=
  let k := k % 32
  let st := s.rd .SL_STAT_STATE k
  .next <| if mv < 8000 then s.clrF .SL_STAT_EXTV k
  else if mv > 8000 && s.flag .SL_CFG_OLOFF k && (st == 0 || st == 4) && !s.flag .SL_STAT_EXTV k then
    (s.setF .SL_STAT_EXTV k).when (!s.flag .SL_CFG_JOINED k) (·.slIrq (dieOf k) (s.chanWorld k))
  else s

/-- OPEN_LOAD_ON (R150): the count of values below SL_OLTHR has reached SL_OLTIME. -/
def execOpenLoadOn (k : Nat) (s : State) : Out :=
  let k := s.lead (k % 32)
  .next <| if s.flag .SL_CFG_OLON k && s.rd .SL_OLTIME k ≤ (s.ch k).olCount && !s.flag .SL_STAT_OPENON k then
    (s.setF .SL_STAT_OPENON k).slIrq (dieOf k) (s.chanWorld k)
  else s

/-- REVERSE_BLOCK (R151): the stage stops conducting and REV sets; STATE does not change. -/
def execReverseBlock (k : Nat) (s : State) : Out :=
  let k := k % 32
  .next <| if s.conducts (s.lead k) then
    ((s.setCh (s.lead k) { s.ch (s.lead k) with rev := true }).setF .SL_STAT_REV k).slIrq (dieOf k) (s.chanWorld k)
  else s

/-- REVERSE_RESUME (R151): conduction resumes as in a hard turn-on. -/
def execReverseResume (k : Nat) (s : State) : Out :=
  let k := s.lead (k % 32)
  .next <| if (s.ch k).rev then s.setCh k { s.ch k with rev := false, ramping := false } else s

/-- SHEDDING_ROUND_START (R154): the group has been over budget for SL_SHED_T consecutive milliseconds. -/
def execSheddingRoundStart (g : Nat) (s : State) : Out :=
  let g := g % 4
  .next <| if s.flag .SL_DIE_STAT_SHEDDING g || s.flag .SL_UV_STAT_UVOFF g || (s.di g).overMs < s.rd .SL_SHED_T g then s
  else s.watched fun s => (s.setF .SL_DIE_STAT_SHEDDING g).shedStep g

/-- SHED_STEP (R154): after the 5 ms wait the round stops, or sheds the next candidate. -/
def execShedStep (g : Nat) (s : State) : Out :=
  let g := g % 4
  .next <| if !s.flag .SL_DIE_STAT_SHEDDING g then s
  else if s.rdI .SL_FEED_SUM g ≤ 20 * ((s.rd .SL_FEED_LIM g : Int) - (s.rd .SL_FEED_HYS g : Int)) then
    (s.clrF .SL_DIE_STAT_SHEDDING g).setDi g { s.di g with overMs := 0 }
  else s.watched (·.shedStep g)

/-- CURRENT_LIMIT_ENGAGE (R479): the limiter of a conducting channel holds the current at the limit in force, or no
longer needs to. -/
def execCurrentLimitEngage (k : Nat) (on : Bool) (s : State) : Out :=
  let k := s.lead (k % 32)
  .next <| if on then (if s.conducts k then s.setF .SL_STAT_LIMIT k else s)
  else s.clrF .SL_STAT_LIMIT k

end Sys2Proof.Machine
end

