-- ==== Sys2Proof/Machine/Protection.lean ====
section
/-!
DEFINITION. Protection of the load channels and dies (R160 to R187): trips, retries, the thermal latch, under-voltage
and dips, die reset and start, Spillway, Floodgate, the Ferry watchdog and the fail-safe tables.
-/
namespace Sys2Proof.Machine

/-- SHORT_TRIP (R160): cause SHORT, for a conducting channel. -/
def execShortTrip (k : Nat) (s : State) : Out :=
  let k := s.lead (k % 32)
  .next (if s.conducts k then s.watched (·.trip k 1) else s)

/-- LIMIT_TRIP (R161): cause LIMIT, for a channel that limits with no inrush window open. -/
def execLimitTrip (k : Nat) (s : State) : Out :=
  let k := s.lead (k % 32)
  .next (if s.conducts k && s.flag .SL_STAT_LIMIT k && !s.flag .SL_STAT_INRUSH k then s.watched (·.trip k 2) else s)

/-- The other half of a heavy pair is below 140 °C; a channel on its own has none. -/
def State.otherCool (s : State) (k : Nat) : Bool :=
  !(k < 8 && s.flag .SL_DIE_CFG_PAIR (k / 2)) || decide (s.rdI .SL_TJ (2 * (k / 2) + (k + 1) % 2) < 140000)

/-- THERMAL_SHUTDOWN (R135, R162): the junction of channel `k`, in 0.001 °C, exceeds 170 °C. Each half of a pair has its own
sensor and SL_TJ; the latch and the trip are those of the pair. -/
def execThermalShutdown (k : Nat) (tj : Int) (s : State) : Out :=
  let s := s.wrI .SL_TJ tj (k % 32)
  let k := s.lead (k % 32)
  .next <| if tj ≤ 170000 then s
  else
    let s := s.setF .SL_PROT_STAT_TLATCH k
    if s.conducts k then s.watched (·.trip k 3) else s

/-- THERMAL_LATCH_RELEASE (R162): the junction has fallen; without TSTICKY the latch clears below 140 °C, that of a pair
once both halves are. -/
def execThermalLatchRelease (k : Nat) (tj : Int) (s : State) : Out :=
  let s := s.wrI .SL_TJ tj (k % 32)
  let cool := tj < 140000 && s.otherCool (k % 32)
  let k := s.lead (k % 32)
  .next <| if cool && !s.flag .SL_PROT_CFG_TSTICKY k then (s.clrF .SL_PROT_STAT_TLATCH k).retryRelease k else s

/-- A protection command reaches the die: reach, then ownership (`allowed`), with the refusal of R186. -/
def State.protCmd (s : State) (who : Initiator) (k : Nat) (f : State → State) : State :=
  let g := dieOf k
  s.toDie g (chanOffset k + 0x4C) who fun s =>
    if s.isFollow k then (((s.setF .SL_STAT_REFUSED k).wr .SL_STAT_WHY 2 k).setF .SL_PROT_STAT_REFUSED k).setF .SL_DIE_STAT_REFUSED g
    else f s

/-- A refused protection command: REFUSED and PWHY beside the refused flag of the die (R186; DEDUCED, log entry 69). -/
def State.protRefuse (s : State) (k pwhy : Nat) : State :=
  ((s.setF .SL_PROT_STAT_REFUSED k).wr .SL_PROT_STAT_PWHY pwhy k).setF .SL_DIE_STAT_REFUSED (dieOf k)

/-- THERMAL_LATCH_CLEAR (R162): TCLR; refused at or above 140 °C. -/
def execThermalLatchClear (who : Initiator) (k : Nat) (s : State) : Out := s.asMaster who <|
  let k := k % 32
  .next <| (s.answer .none).protCmd who k fun s =>
    if !owns (s.worldOf who) (s.chanWorld k) then s.protRefuse k 2
    else if s.rdI .SL_TJ k ≥ 140000 || !s.otherCool k then s.protRefuse k 1
    else (s.clrF .SL_PROT_STAT_TLATCH k).retryRelease k

/-- RETRY_ATTEMPT (R164): the interval has run out; a veto makes the attempt wait, and during an under-voltage the
interval pauses. -/
def execRetryAttempt (k : Nat) (s : State) : Out :=
  let k := s.lead (k % 32)
  .next <| if !s.flag .SL_PROT_STAT_RETRY_PEND k || s.flag .SL_UV_STAT_UVOFF (dieOf k) then s
  else if s.vetoed k then s.setCh k { s.ch k with retryDue := true }
  else s.attempt k

/-- RETRY_COUNT_RESET (R165): the channel has conducted without a trip for the longer of 1 s and ten intervals. -/
def execRetryCountReset (k : Nat) (s : State) : Out :=
  let k := s.lead (k % 32)
  .next (if s.conducts k then s.wr .SL_PROT_STAT_RETRIES 0 k else s)

/-- PROTECTION_CLEAR (R166, R180): CLEAR, with its refusals in the order STATE, TLATCH, WORLD. -/
def execProtectionClear (who : Initiator) (k : Nat) (s : State) : Out := s.asMaster who <|
  let k := k % 32
  let w := s.worldOf who
  .next <| (s.answer .none).protCmd who k fun s =>
    let cause := s.rd .SL_PROT_STAT_CAUSE k
    if cause = 0 then s.protRefuse k 4
    else if s.flag .SL_PROT_STAT_TLATCH k then s.protRefuse k 1
    else if cause = 4 && w ≠ .safety then s.protRefuse k 2
    else if cause ≠ 4 && !owns w (s.chanWorld k) then s.protRefuse k 2
    else
      let s := s.slReport k 0x03
      let s := (((s.wr .SL_PROT_STAT_CAUSE 0 k).wr .SL_PROT_STAT_RETRIES 0 k).clrF .SL_PROT_STAT_RETRY_PEND k).setCh k
        { s.ch k with cmdOn := false, retryDue := false }
      (s.clrF .SL_PROT_STAT_UVOFF k).wr .SL_STAT_STATE (s.offState k 0) k

/-- SPILLWAY_UNLOCK (R173): UNLOCK. A channel that goes from LOCKED to FAULT enters FAULT (R174). -/
def execSpillwayUnlock (who : Initiator) (k : Nat) (s : State) : Out := s.asMaster who <|
  let k := k % 32
  .next <| (s.answer .none).protCmd who k fun s => s.watched fun s =>
    if !owns (s.worldOf who) (s.chanWorld k) then s.protRefuse k 2
    else if !s.flag .SL_PROT_STAT_SPLOCK k then s.protRefuse k 4
    else if s.rd .SP_BUDGET k ≤ s.rd .SP_SUM k && (s.ch k).lockSum then s.protRefuse k 3
    else
      let s := ((s.clrF .SL_PROT_STAT_SPLOCK k).setCh k { s.ch k with lockSum := false }).slReport k 0x05
      let s := if (s.ch k).cond then s else s.wr .SL_STAT_STATE (s.offState k 0) k
      s.retryRelease k

/-- CLAMP_PULSE_END (R170 to R173): the energy of a pulse in 0.1 mJ; SP_LAST, the window, SPLOCK and PULSEOVR. -/
def execClampPulseEnd (k energy : Nat) (s : State) : Out :=
  let k := s.lead (k % 32)
  let c := s.ch k
  let s := ((((s.setCh k { c with buckets := addPulse c.buckets energy }).wr .SP_LAST (min energy 0xFFFFFF) k).clrF
    .SL_PROT_STAT_CLAMP k)).spillView k
  let bySum := s.rd .SP_BUDGET k ≤ s.rd .SP_SUM k
  let strong := s.pulseRating k < energy
  let s := if strong then (s.setF .SL_PROT_STAT_PULSEOVR k).slReport k 0x06 else s
  .next <| if !(bySum || strong) then s
  else
    let was := s.flag .SL_PROT_STAT_SPLOCK k
    s.watched fun s =>
      let s := (s.setF .SL_PROT_STAT_SPLOCK k).setCh k { s.ch k with lockSum := (s.ch k).lockSum || bySum }
      let s := if was then s else (s.inc .SL_TRIPS k).slReport k 0x04
      if (s.ch k).cond || s.rd .SL_STAT_STATE k = 1 || s.rd .SL_STAT_STATE k = 2 then s else s.turnOff k 0

/-- SPILLWAY_BUCKET (R171): a 100 ms bucket of the die's oscillator passes. -/
def execSpillwayBucket (g : Nat) (s : State) : Out :=
  .next <| s.each (chansOf (g % 4)) fun s k =>
    (s.setCh k { s.ch k with buckets := pushBucket (s.ch k).buckets }).spillView k

/-- FEED_UNDERVOLTAGE (R167): the feed has stayed below SL_UV_THR for 10 us. -/
def execFeedUndervoltage (g : Nat) (s : State) : Out :=
  let g := g % 4
  .next <| if s.flag .SL_UV_STAT_UVOFF g || !(s.di g).up then s
  else
    let s := (((((s.setF .SL_UV_STAT_UVOFF g).clrF .SL_UV_STAT_DIP g).setF .SL_UV_STAT_UVEVT g).inc .SL_UV_CNT g).clrF
      .SL_DIE_STAT_SHEDDING g)
    let s := s.setDi g { s.di g with overMs := 0, low := true }
    let s := s.watched fun s => s.each (chansOf g) fun s k =>
      let st := s.rd .SL_STAT_STATE k
      let s := if st = 1 || st = 2 || st = 3 then s.turnOff k 0 else s
      s.when ((s.ch k).cmdOn && s.rd .SL_STAT_STATE k == 0) (·.setF .SL_PROT_STAT_UVOFF k)
    (s.groupReport g 0x07).fireAll [⟨4, 0, g, false⟩]

/-- UNDERVOLTAGE_RESTART (R167, R168): the feed has stayed 1.0 V above the threshold for 5 ms. A feed still below the dip
level then reads DIP, and the new windows pause. -/
def execUndervoltageRestart (g : Nat) (s : State) : Out :=
  let g := g % 4
  .next <| if !s.flag .SL_UV_STAT_UVOFF g then s
  else
    let s := (s.clrF .SL_UV_STAT_UVOFF g).putF .SL_UV_STAT_DIP (s.di g).low g
    let s := s.each (chansOf g) fun s k =>
      if s.flag .SL_PROT_STAT_UVOFF k then
        let s := s.clrF .SL_PROT_STAT_UVOFF k
        if s.rd .SL_STAT_STATE k = 0 then s.turnOn k (s.ch k).onAct (s.ch k).onDuty else s
      else s
    (s.each (chansOf g) (·.retryRelease)).groupReport g 0x08

/-- FEED_DIP (R168): the feed crosses the dip level. -/
def execFeedDip (g : Nat) (below : Bool) (s : State) : Out :=
  let g := g % 4
  .next ((s.setDi g { s.di g with low := below }).putF .SL_UV_STAT_DIP (below && !s.flag .SL_UV_STAT_UVOFF g) g)

/-- The fields of rows at offsets below the Molgar side, over the instances `idx`, back at reset. -/
def State.resetRows (s : State) (rows : List RegRow) (idx : List Nat) : State :=
  s.each (rows.filter (·.off < 0x8000)) fun s r =>
    s.each (idx.flatMap fun i => (List.range (r.n * r.n2)).map fun j => i * (r.n * r.n2) + j) fun s i =>
      s.each r.fields fun s f => s.rst f i

/-- Every register and every internal value of die `g` at reset; the EEPROM and the Molgar side keep theirs (R167). -/
def State.resetDie (s : State) (g : Nat) : State :=
  let d := s.di g
  let ios := (List.range 12).map (12 * g + ·)
  let s := (((s.resetRows rows_die [g]).resetRows rows_chan (chansOf g)).resetRows rows_ioDie [g]).resetRows rows_io ios
  let s := s.each (chansOf g) fun s k => s.setCh k {}
  let s := s.each ios fun s k => s.setIo k { comp := (s.fio k).comp, lost := (s.fio k).lost, ringLost := (s.fio k).ringLost }
  let s := { s with shadow := s.shadow.filter fun e => !(e.1.1 == Fld.SL_CFG_FINE && (chansOf g).contains e.1.2) }
  let d : Die := { up := d.up, linkDown := d.linkDown, missed := d.missed, retrains := d.retrains, crcRun := d.crcRun,
                   eeA := d.eeA, eeB := d.eeB, polled := d.polled, edgeNext := d.edgeNext, upAt := d.upAt, low := d.low }
  let s := s.setDi g d
  { s with ferry := { s.ferry with reports := s.ferry.reports.filter (·.die ≠ g),
                                   rebooted := g :: s.ferry.rebooted.filter (· ≠ g) } }

/-- DIE_RESET (R27, R167, R184): the feed has fallen below 8 V. A commit that this cuts leaves copy A torn or written:
which of the two is a free value. -/
def execDieReset (g : Nat) (s : State) : Out :=
  let g := g % 4
  let d := s.di g
  let cutA := match d.staged with
    | none => d.eeA
    | some t => if s.fresh % 2 = 0 then { d.eeA with whole := false } else { t with whole := true }
  let s := if d.staged.isSome then s.freshened else s
  .next ((s.setDi g { d with up := false, eeA := cutA, staged := none }).resetDie g)

/-- The EEPROM copy a starting die takes: the whole one with the higher sequence number by signed 16-bit difference
(R184). -/
def takeCopy (a b : EeCopy) : Option EeCopy :=
  if a.whole && b.whole then
    (if toInt 16 (a.seq + 65536 - b.seq % 65536) ≥ 0 then some a else some b)
  else if a.whole then some a else if b.whole then some b else none

/-- A fail-safe table put in force: SL_FS_ACT, SL_FS_SEQ, IO_FS_ACT. -/
def State.fsInForce (s : State) (g : Nat) (t : EeCopy) : State :=
  let s := s.each (List.range 4) fun s i =>
    s.wr .SL_FS_ACT (t.chan.getD (2 * i) 0 + 4096 * t.chan.getD (2 * i + 1) 0) (4 * g + i)
  (s.wr .SL_FS_SEQ t.seq g).wr .IO_FS_ACT t.io g

/-- DIE_START (R182, R184, R195, R444): the die starts unserved with every output off and takes its tables. One whose trim lies
outside the range of the image in force does not start (R449). -/
def execDieStart (g : Nat) (s : State) : Out :=
  let g := g % 4
  let s := s.resetDie g
  if s.upd.trimOut.contains g then .next (s.setDi g { s.di g with up := false, barred := true }) else
  let d := { s.di g with up := true, linkDown := false, lockLatched := s.locked 4, upAt := s.now }
  let s := (s.setDi g d).putF .SL_UV_STAT_DIP d.low g
  let s := match takeCopy d.eeA d.eeB with
    | some t => s.fsInForce g t
    | none => (s.fsInForce g { chan := List.replicate 8 0, io := 0 }).setF .SL_WD_STAT_FSBAD g
  .next (s.each ((List.range 12).map (12 * g + ·)) (·.ioSettle))

/-- FLOODGATE_SOFTWARE_TRIGGER (R174 to R180): a write of FG_SWTRIG; only the safety world may write it. -/
def execFloodgateSoftwareTrigger (who : Initiator) (mask : Nat) (s : State) : Out := s.asMaster who <|
  let s := s.answer .none
  .next <| if s.worldOf who ≠ .safety || (who.master == 1 && s.flag .LS_STAT_DBGBRK 0)
      || (who.master == 2 && s.flag .LS_STAT_DBGBRK 1) then s.setF .FG_STAT_REFUSED
  else s.fireAll (((List.range 32).filter (bit mask ·)).map fun i => ⟨5, 0, i, false⟩)

/-- FLOODGATE_OFF_AND_LATCH (R178, R180): the action reaches the die of channel `k`. -/
def execFloodgateOffAndLatch (k : Nat) (s : State) : Out :=
  .next (s.watched (·.fgApply (s.lead (k % 32)) (1, 0)))

/-- The Ferry master passes no serve: an entry into Standby or Sleep is at its second step (R438), or the restore window
is open (R439). -/
def State.serveShut (s : State) : Bool :=
  s.flag .SYS_WAKE_RESTORE || s.pw.target == 3 || (s.pw.target == 4 &&
    (List.range 8).all fun n => s.rd .WE_SLP_STAT_STATE n == 3 || (List.range 16).all fun k =>
      bits (s.rd .WE_SEGMAP (k / 8)) (4 * (k % 8)) 3 != n)

/-- The first serve of a die: SYS_T_SAFE takes its time, and SYS_START.SERVED whether it came within the bound of R434. -/
def State.firstServe (s : State) (g : Nat) : State :=
  if s.flag .SL_WD_STAT_SERVED g then s
  else
    let up := (s.di g).upAt
    let ok := if up ≤ s.pw.t0 then s.now ≤ s.pw.t0 + 15000000 else s.now ≤ up + 5000000
    (s.putBit .SYS_START_SERVED g ok).wr .SYS_T_SAFE (min 0xFFFF ((s.now - s.pw.t0) / 100000))

/-- WATCHDOG_SERVE (R181, R183, R331, R333, R434): a write to SL_WD_SERVE. -/
def execWatchdogServe (who : Initiator) (g value : Nat) (s : State) : Out := s.asMaster who <|
  let g := g % 4
  let s := s.answer .none
  let d := s.di g
  let code := if value = 0x5AA5 then 1 else if value = 0xA55A then 2 else 0
  let broken := (who.master == 1 && s.flag .LS_STAT_DBGBRK 0) || (who.master == 2 && s.flag .LS_STAT_DBGBRK 1)
  .next <| s.toDie g 0x64 who fun s =>
  if s.serveShut then s
  else if s.worldOf who = .safety && code ≠ 0 && code ≠ d.lastServe && !broken then
    ((s.firstServe g).setF .SL_WD_STAT_SERVED g).setDi g
      { d with lastServe := code, serves := if s.flag .SL_WD_STAT_FAILSAFE g then d.serves + 1 else d.serves }
  else (s.setF .SL_WD_STAT_BADSERVE g).setDi g { d with serves := 0 }

/-- The fail-safe code of local channel `l`: code and duty (R183). -/
def State.fsCode (s : State) (g l : Nat) : Nat × Nat :=
  let w := bits (s.rd .SL_FS_ACT (4 * g + l / 2)) (12 * (l % 2)) 12
  (w % 4, w / 4)

/-- Fail-safe entry at the channels and outputs of die `g` (R183, R204, R293). HOLD keeps the present state; with the pair
flag it means the commanded state, which the gate no longer holds off. -/
def State.failsafeApply (s : State) (g : Nat) : State :=
  let d := s.di g
  let s := s.each ((chansOf g).filter fun k => !s.isFollow k) fun s k =>
    let (code, duty) := s.fsCode g (localOf k)
    let off := !d.pollClaim || (d.pairFlag && s.flag .SL_CFG_JOINED k)
    if off || code = 0 then s.applyCmd k 0 0 3
    else if code = 1 then s.applyCmd k 1 0 3
    else if code = 3 then s.applyCmd k 3 duty 3
    else
      let s := s.wr .SL_STAT_SRC 3 k
      if d.pairFlag && (s.ch k).cmdOn && s.rd .SL_STAT_STATE k = 0 then s.turnOn k (s.ch k).onAct (s.ch k).onDuty else s
  s.each (((List.range 12).map (12 * g + ·)).filter fun k => s.rd .IO_CFG_MODE k != 0) fun s k =>
    let code := bits (s.rd .IO_FS_ACT g) (2 * (k % 12)) 2
    let off := !d.pollClaim || (d.pairFlag && s.flag .IO_CFG_JOINED k)
    if off || code = 0 then s.ioApply k 0 3 else if code = 1 then s.ioApply k 1 3 else (s.wr .IO_STAT_SRC 3 k).ioRefresh k

/-- WATCHDOG_EXPIRE (R183): no serve has arrived within SL_WD_TIME. -/
def execWatchdogExpire (g : Nat) (s : State) : Out :=
  let g := g % 4
  .next <| if !s.flag .SL_WD_STAT_SERVED g || !(s.di g).up then s
  else
    let new := !s.flag .SL_WD_STAT_EXPIRED g
    let s := (s.setF .SL_WD_STAT_EXPIRED g).setDi g { s.di g with serves := 0 }
    if s.flag .SL_WD_STAT_FAILSAFE g then (if new then s.groupReport g 0x09 else s)
    else (s.watched fun s => (s.setF .SL_WD_STAT_FAILSAFE g).failsafeApply g).groupReport g 0x09

/-- FAILSAFE_RESUME (R183): RESUME from the safety world, after at least two serves. -/
def execFailsafeResume (who : Initiator) (g : Nat) (s : State) : Out := s.asMaster who <|
  let g := g % 4
  let s := s.answer .none
  .next <| s.toDie g 0x6C who fun s =>
  if s.worldOf who ≠ .safety || !s.flag .SL_WD_STAT_FAILSAFE g || (s.di g).serves < 2 then s.setF .SL_DIE_STAT_REFUSED g
  else
    let s := ((s.clrF .SL_WD_STAT_FAILSAFE g).groupReport g 0x0A)
    let s := if s.gated g then s.watched (·.gateOff g) else s
    let s := s.each (chansOf g) (·.retryRelease)
    s.each ((List.range 12).map (12 * g + ·)) (·.ioRefresh)

/-- FAILSAFE_COMMIT (R184, R205): the staged tables go to the EEPROM. RESULT 2 and 3 report a lock and a world that
refuse the commit. -/
def execFailsafeCommit (who : Initiator) (g : Nat) (s : State) : Out := s.asMaster who <|
  let g := g % 4
  let s := s.answer .none
  .next <| s.toDie g 0x90 who fun s =>
  if s.worldOf who ≠ .safety || (who.master == 1 && s.flag .LS_STAT_DBGBRK 0)
      || (who.master == 2 && s.flag .LS_STAT_DBGBRK 1) then (s.wr .SL_FS_CMD_RESULT 3 g).setF .SL_DIE_STAT_REFUSED g
  else if s.frozen who 4 then
    ((s.wr .SL_FS_CMD_RESULT 2 g).setF .SL_DIE_STAT_REFUSED g).log 0x01 0x02 who (leBytes 5 (dieWindow g + 0x90) ++ leBytes 4 1)
  else if s.flag .SL_FS_CMD_BUSY g then s.setF .SL_DIE_STAT_REFUSED g
  else
    let chan := (List.range 8).map fun l =>
      s.rd (if l % 2 = 0 then .SL_FS_STAGE_LO else .SL_FS_STAGE_HI) (4 * g + l / 2)
    (s.setF .SL_FS_CMD_BUSY g).setDi g
      { s.di g with staged := some ⟨(s.rd .SL_FS_SEQ g + 1) % 65536, chan, s.rd .IO_FS_STAGE g, true⟩ }

/-- FAILSAFE_COMMIT_DONE (R184): both copies are written and read back, each whole or not. -/
def execFailsafeCommitDone (g : Nat) (okA okB : Bool) (s : State) : Out :=
  let g := g % 4
  .next <| match (s.di g).staged with
  | none => s
  | some t =>
    let s := (s.setDi g { s.di g with staged := none, eeA := { t with whole := okA }, eeB := { t with whole := okB } }).clrF
      .SL_FS_CMD_BUSY g
    if okA && okB then (s.fsInForce g t).wr .SL_FS_CMD_RESULT 0 g else s.wr .SL_FS_CMD_RESULT 1 g

end Sys2Proof.Machine
end

