-- ==== Sys2Proof/Machine/PowerOps.lean ====
section
/-!
DEFINITION. Power state requests (R435 to R438, R404): what refuses them, and what an accepted one starts.
-/
namespace Sys2Proof.Machine

/-- The device holds work that keeps it out of Standby and Sleep (R437, WORK). -/
def State.workLeft (s : State) : Bool :=
  s.workOpen || (List.range 16).any (fun k => (s.cn k).levels.any (!·.isEmpty))
    || (List.range 64).any (fun q => s.rd .DQ_STAT_PEND q != 0) || s.evt.any fun e => bit e.2.w2 31

/-- Whether the present state leads to the state requested: Run from START and Trim, Trim from Run, Standby and Sleep from
Run and Trim; the normal world does not reach Sleep (R435, R437). -/
def State.powerReach (s : State) (w : World) (req : Nat) : Bool :=
  let st := s.rd .SYS_PWR_STAT_STATE
  match req with
  | 1 => st == 0 || st == 2
  | 2 => st == 1
  | 3 => st == 1 || st == 2
  | 4 => (st == 1 || st == 2) && w != .normal
  | _ => false

/-- HW_USE as it reads (R404): the engines and the SD host as marked, and of Headwater's own blocks the TRNG while a call for
random bits or a derivation waits, the key bus while an operation holds a key, and Headwater while a call waits or a quote is
being made (DEDUCED, log entry 28). -/
def State.inUse (s : State) : Nat :=
  let call (e : Nat) : Bool := 4 ≤ (s.ed (8 * e + 6)).words.length
  let served := s.flag .HW_STAT_READY && !s.head.halted
  let asks (n : Nat) : Bool := (List.range 6).any fun e => call e && (s.ed (8 * e + 6)).words.headD 0 % 65536 == n
  let holds := (List.range 64).any fun q => (NMap.at {} s.dq q : DeltaQ).fly.any (·.slot.isSome)
  s.rd .HW_USE % 8 + 8 * b2n (served && (asks 0x0001 || asks 0x0010)) + 16 * b2n holds + 32 * b2n (bit (s.rd .HW_USE) 5)
    + 64 * b2n (served && ((List.range 6).any call || s.head.quoteWait.isSome))

/-- The WHY of R437 that refuses a request of world `w`; 0 none. Several reasons are tested in the order STATE, PAIR, REFCH,
WORK, SECURE (DESIGN CHOICE, log entry 35). `ordered`: the request came over Braid from the active unit. -/
def State.powerWhy (s : State) (w : World) (req : Nat) (ordered : Bool) : Nat :=
  if s.flag .SYS_PWR_STAT_PENDING || !s.powerReach w req then 6
  else if s.rd .SYS_PWR_STAT_STATE = 0 then 0
  else if s.pairMode && !ordered && (s.brState ≠ 5 || (3 ≤ req && s.rd .BR_PEER % 16 ≠ 4)) then 4
  else if req = 4 && s.rd .MR_REFCH ≠ 0 then 3
  else if 3 ≤ req && s.workLeft then 1
  else if 3 ≤ req && s.inUse ≠ 0 then 2
  else 0

/-- A refused request (R437). -/
def State.powerRefuse (s : State) (why : Nat) : State := (s.wr .SYS_PWR_STAT_WHY why).setF .SYS_PWR_STAT_REFUSED

/-- The records of a SECURE_IN_USE refusal, one for each marked block (R404, R428). -/
def State.logSecure (s : State) (who : Initiator) : State :=
  s.each ((List.range 7).filter fun b => bit s.inUse b) fun s b => s.log 0x01 0x06 who [2 ^ b]

/-- Milliseconds since t0. -/
def State.sinceStart (s : State) : Nat := (s.now - s.pw.t0) / 100000

/-- STATE reads Run, and SYS_T_FULL records the time (R435). The transceivers follow their segments (R248), and those that a wake
source has named get their wake frames (R250). -/
def State.startDone (s : State) : State :=
  let l := s.pw.wokenSegs
  let s := (({ s with pw := { s.pw with wokenSegs := [] } }.wr .SYS_PWR_STAT_STATE 1).wr .SYS_T_FULL (min 0xFFFF s.sinceStart)).xcvrFollow
  s.each (l.filter fun n => s.runsSegs && s.rd .WE_SLP_STAT_STATE n = 0) (·.wakeFrames ·)

/-- Each application core at its reset vector; its locks are released (R436, R352). -/
def State.coresReset (s : State) : State :=
  [0x08, 0x09, 0x0A, 0x0B].foldl (fun s m => s.releaseLocks m) { s with hart := [] }

/-- The segments that have channels. -/
def State.segsUsed (s : State) : List Nat := (List.range 8).filter fun n => !(s.segChans n).isEmpty

/-- An accepted request acts (R435 to R438). For Sleep, Weir sets REQ on every segment that has channels. -/
def State.powerGo (s : State) (req world : Nat) : State :=
  match req with
  | 1 => if s.rd .SYS_PWR_STAT_STATE = 0 then s.startDone else (s.wr .SYS_PWR_STAT_STATE 1).coresReset
  | 2 => s.wr .SYS_PWR_STAT_STATE 2
  | _ =>
    let s := s.setF .SYS_PWR_STAT_PENDING
    let s := { s with pw := { s.pw with target := req, world := world } }
    if req = 4 then s.each (s.segsUsed.filter fun n => s.rd .WE_SLP_STAT_STATE n != 3) fun s n =>
      (s.setF .WE_SLP_CTL_REQ n).roundMay n
    else s

/-- A request passes its tests: at once, or in a pair at the next turn boundary, ordered by a record (R437). -/
def State.powerAccept (s : State) (w : World) (req : Nat) (ordered : Bool) : State :=
  if s.pairMode && s.rd .SYS_PWR_STAT_STATE ≠ 0 then
    let s := if ordered then s else s.sendRec (.request { cls := 4, path := 0x46, world := w.code, index := 0x2D01, write := true, value := [req] })
    { s with pw := { s.pw with atTurn := some (req, w.code) } }
  else s.powerGo req w.code

/-- A power state request (R437): accepted, refused with its reason, or, for the safety and secure worlds, waiting up to
10 ms for HW_USE to clear. -/
def State.powerAsk (s : State) (who : Initiator) (req : Nat) (ordered : Bool) : State :=
  let w := s.worldOf who
  match s.powerWhy w req ordered with
  | 0 => s.powerAccept w req ordered
  | 2 =>
    if w = .normal then (s.powerRefuse 2).logSecure who
    else { s with pw := { s.pw with waitUse := some (req, w.code, s.now + 1000000) } }
  | y => s.powerRefuse y

/-- In STANDBY the object engine carries out only requests that the active unit has ordered (R302, R437). -/
abbrev State.fromPartner (s : State) (who : Initiator) : Bool := s.standby && who.master == 0x12

/-- POWER_REQUEST_RUN (R435, R437): SYS_PWR_CMD.REQ = 1. -/
def execPowerRequestRun (who : Initiator) (s : State) : Out := s.asMaster who <| .next ((s.answer .none).powerAsk who 1 (s.fromPartner who))

/-- POWER_REQUEST_TRIM (R437): SYS_PWR_CMD.REQ = 2. -/
def execPowerRequestTrim (who : Initiator) (s : State) : Out := s.asMaster who <| .next ((s.answer .none).powerAsk who 2 (s.fromPartner who))

/-- POWER_REQUEST_STANDBY (R437, R438): SYS_PWR_CMD.REQ = 3. -/
def execPowerRequestStandby (who : Initiator) (s : State) : Out := s.asMaster who <| .next ((s.answer .none).powerAsk who 3 (s.fromPartner who))

/-- POWER_REQUEST_SLEEP (R437, R438): SYS_PWR_CMD.REQ = 4. -/
def execPowerRequestSleep (who : Initiator) (s : State) : Out := s.asMaster who <| .next ((s.answer .none).powerAsk who 4 (s.fromPartner who))

/-- START_LATE (R435): 2,000 ms after t0. -/
def execStartLate (s : State) : Out := s.running <|
  .next <| if s.rd .SYS_PWR_STAT_STATE = 0 then s.startDone.setF .SYS_START_LATE else s

/-- An entry under R438 ends where it stands: the device stays in its state. -/
def State.entryEnd (s : State) (why : Nat) : State :=
  let s := (s.clrF .SYS_PWR_STAT_PENDING).powerRefuse why
  { s with pw := { s.pw with target := 0 } }

/-- SLEEP_ENTRY_TIMEOUT (R438): the segments are not all ASLEEP within SYS_SLPTO seconds; those already asleep stay so. -/
def execSleepEntryTimeout (s : State) : Out := s.running <|
  .next <| if s.pw.target = 4 && s.segsUsed.any fun n => s.rd .WE_SLP_STAT_STATE n != 3 then s.entryEnd 5 else s

/-- At a turn boundary an accepted request of a pair acts (R437). -/
def State.powerBoundary (s : State) : State :=
  match s.pw.atTurn with
  | none => s
  | some (req, w) => ({ s with pw := { s.pw with atTurn := none } }).powerGo req w

end Sys2Proof.Machine
end

