-- ==== Sys2Proof/Machine/BraidOps.lean ====
section
/-!
DEFINITION. Shared operations of Braid (R289 to R321): the claim and what follows it, changes of state, heartbeats,
divergence, and the comparison of decisions.
-/
namespace Sys2Proof.Machine

/-- Proxy entries become ordinary entries; a channel that ran for them alone returns to MONITOR (R214, R300). -/
def State.noProxies (s : State) : State :=
  s.each (List.range 16) fun s k =>
    let c := s.cn k
    if !(c.levels.any fun l => l.any (·.proxy)) then s
    else
      let s := s.setCn k { c with levels := c.levels.map fun l => l.map fun (e : CanElem) => { e with proxy := false } }
      if s.claim then s else s.canClaimLost k

/-- The state of R290 changes, with its record (R428). What the comparison of decisions holds ends with STANDBY; what is
to be synchronised ends with SYNC. A standby that becomes STALE drops its proxy entries: the active unit takes them back
(R300, R214). -/
def State.brGo (s : State) (st : Nat) : State :=
  let old := s.brState
  if old = st then s
  else
    let s := (s.wr .BR_STAT_STATE st).log 0x09 0x02 ⟨0x14, .safety⟩ [old, st]
    let b := s.braid
    let b := if old = 4 || st = 4 then { b with mine := [], theirs := [], own := [], clash := none } else b
    let b := if old = 3 || st = 3 then { b with synced := 0, regions := 0, sealed := [] } else b
    let b := if st = 3 then { b with rxSeq := 0, gap := false } else b
    let s := { s with braid := { b with agree := 0, yieldSeen := 0, syncDue := false } }
    let s := if st = 3 then s.each (List.range 3) fun s w => s.clrF .BR_STATE_CTL_DONE w else s
    if old = 4 && st ≠ 6 then s.noProxies else s

/-- CF_OWNMAC: the pair address block in the unit of a pair that holds the claim, and the unit's own block otherwise (R17). -/
def State.macInUse (s : State) : State :=
  let mac := if s.claim && s.pairMode then s.rd .BR_PAIRMAC_LO + 2 ^ 32 * s.rd .BR_PAIRMAC_HI else s.factory.base
  (s.wr .CF_OWNMAC_LO (cut 32 mac)).wr .CF_OWNMAC_HI (bits mac 32 16)

/-- The claim counts as held, or no longer does: the gates of R14 that name it (R214, R264, R293), and
the address block in use (R17). The dies follow with the next poll. -/
def State.setClaim (s : State) (c : Bool) : State :=
  if s.claim = c then s
  else
    let s := ((s.putF .BR_STAT_CLAIM c).putF .CF_STAT_CLAIM c).putF .FG_STAT_STANDBY (!c)
    let s := s.macInUse
    (s.each (List.range 16) fun s k => if c then s.canClaimGained k else s.canClaimLost k).segsClaim c

/-- Fencing stops, and presence frames that have not started are withdrawn (R296). -/
def State.stopFence (s : State) : State :=
  (s.clrF .BR_STAT_FENCING).each (List.range 16) fun s k =>
    if (s.cn k).tx = some .presence then s else s.setCn k { s.cn k with presence := false }

/-- The claim latch clears (R292); a claim that counted as held has been released (R295). -/
def State.dropLatch (s : State) : State :=
  let b := s.braid
  let s := { s with braid := { b with latch := false, window := false, gave := if s.claim && b.gave = 0 then 1 else b.gave } }
  s.stopFence.setClaim false

/-- The partner's claim has read released for at least 40 us (R291). -/
def State.claimFree (s : State) : Bool :=
  match s.braid.relAt with
  | some t => t + 4000 ≤ s.now && !s.flag .BR_STAT_PCLAIM
  | none => false

/-- Time advances until the partner's claim has read released for 40 us. -/
def State.waitFree (s : State) : State :=
  match s.braid.relAt with
  | some t => if s.flag .BR_STAT_PCLAIM then s else { s with now := max s.now (t + 4000) }
  | none => s

/-- The latch is set and the confirm window opens (R291); `cause` as BR_TKO_CAUSE codes it. -/
def State.setLatch (s : State) (cause : Nat) : State :=
  if s.braid.latch then s else { s with braid := { s.braid with latch := true, window := true, cause := cause, gave := 0 } }

/-- A presence frame has arrived within the last `w` ticks (R297, R319). -/
def State.presenceWithin (s : State) (w : Nat) : Bool :=
  match s.braid.presenceAt with
  | some t => s.now ≤ t + w
  | none => false

/-! ## Heartbeats -/

/-- HEALTH (R316): untested under the passive policy. -/
def State.healthWord (s : State) : Nat := if s.flag .BR_CTL_TEST then s.rd .BR_HEALTH % 2 ^ 31 else 2 ^ 31

/-- The body of a heartbeat of this unit (R295). -/
def State.heartbeat (s : State) : List Nat :=
  [s.brState + 16 * b2n (s.flag .BR_STAT_SEATED) + 32 * b2n (s.braid.gave ≠ 0) + 64 * b2n (s.braid.gave = 2) + 128 * b2n (s.flag .BR_STAT_FENCING),
   b2n (s.flag .BR_CTL_TEST)] ++ leBytes 4 (s.rd .BR_CONFGEN) ++ leBytes 4 (s.rd .BR_CONFSUM) ++ leBytes 4 s.healthWord
    ++ leBytes 3 s.mr.turn ++ leBytes 6 (if s.claim then 0 else s.braid.rxSeq)

/-- A heartbeat leaves: a frame on P9 and a pulse on HBEAT_OUT (R294). -/
def State.sendBeat (s : State) : State :=
  let t := s.sendFree 0x01 s.heartbeat
  { t with braid := { t.braid with pulse := some t.now } }

/-- The claim is given up with a yield heartbeat; the unit stands by after a planned swap and is STALE otherwise (R290,
R301). -/
def State.yieldClaim (s : State) (swap : Bool) : State :=
  let s := { s with braid := { s.braid with gave := if swap then 2 else 1 } }
  let s := ((s.sendBeat).dropLatch).brGo (if swap then 4 else 2)
  { s with braid := { s.braid with swapWait := false, rxSeq := s.lastSeq } }

/-- A new epoch, journaled with an epoch mark (R317). -/
def State.newEpoch (s : State) (e : Nat) : State :=
  let s := s.wr .BR_EPOCH (e % 2 ^ 32)
  (s.jAppend 0x8 0 (leBytes 4 (s.rd .BR_EPOCH))).jView

/-- Presence frames start (R296). -/
def State.startFence (s : State) : State := s.setF .BR_STAT_FENCING

/-! ## Divergence -/

/-- A divergence of a kind of R307: recorded, and the standby is STALE (R308). -/
def State.diverge (s : State) (kind own active : Nat) : State :=
  let s := (s.setF .BR_STAT_DIVERGE).inc .BR_CNT_DIVERGE
  let s := s.log 0x09 0x01 ⟨0x14, .safety⟩ (kind :: leBytes 6 s.braid.rxSeq ++ leBytes 4 own ++ leBytes 4 active)
  s.brGo 2

/-- The first pair of decisions of one kind, own and active, with what is left of both lists. -/
def pairOff (mine theirs : List (Nat × Nat × Nat)) : Option ((Nat × Nat × Nat) × Nat × Nat × Nat) :=
  mine.findSome? fun m => (theirs.find? fun t => t.1 == m.1).map fun t => (m, t)

/-- Own decisions compared with the active unit's, the k-th of a kind with the k-th; the first difference is a
divergence (R307). `n` bounds the number of pairs. -/
def State.compare (s : State) : Nat → State
  | 0 => s
  | n + 1 =>
    match pairOff s.braid.mine s.braid.theirs with
    | none => s
    | some (m, t) =>
      let s := { s with braid := { s.braid with mine := s.braid.mine.erase m, theirs := s.braid.theirs.erase t } }
      if m.2.1 = t.2.1 then State.compare s n else s.diverge m.1 m.2.1 t.2.1

/-- Own decisions against the active unit's (R307), and an own request against the entry that came in its place (R310). -/
def State.compareAll (s : State) : State :=
  match s.braid.clash with
  | some (kind, own, active) => { s with braid := { s.braid with clash := none } }.diverge kind own active
  | none => s.compare (s.braid.mine.length + 1)

/-- At a turn boundary, a decision that is missing from either unit after CMPWIN boundaries is a divergence (R307). -/
def State.compareWindow (s : State) : State :=
  if s.brState ≠ 4 then s
  else
    let s := s.compareAll
    let old (d : Nat × Nat × Nat) : Bool := s.rd .BR_CTL_CMPWIN ≤ (s.mr.turn + 2 ^ 24 - d.2.2 % 2 ^ 24) % 2 ^ 24
    match s.braid.mine.find? old, s.braid.theirs.find? old with
    | some d, _ => s.diverge d.1 d.2.1 0
    | none, some d => s.diverge d.1 0 d.2.1
    | none, none => s

/-! ## Boundary -/

/-- The state region of world `w` (R321). -/
abbrev State.regionAddr (s : State) (w : Nat) : Nat := s.rd .BR_STATE_ADDR_LO w + 2 ^ 32 * s.rd .BR_STATE_ADDR_HI w

/-- Every part of a resynchronisation is done: configuration, hardware state, and each world's region that has a length
(R321). -/
def State.syncDone (s : State) : Bool :=
  s.braid.synced = 3 && (List.range 3).all fun w => s.rd .BR_STATE_LEN w == 0 || bit s.braid.regions w

/-- What a turn boundary brings in a pair: the comparison window of R307, the end of resynchronisation (R321), the count
of turns in step and a planned swap (R301); and a power state request that waits for it (R437). -/
def State.braidBoundary (s : State) : State :=
  let s := s.powerBoundary
  if !s.pairMode then s
  else
    let s := s.compareWindow
    let s := if s.brState = 3 && s.syncDone then ((s.newEpoch (s.rd .BR_PEER_EPOCH)).brGo 4) else s
    let s := if s.brState = 5 then { s with braid := { s.braid with agree := s.braid.agree + 1 } } else s
    if s.brState = 5 && s.braid.swapWait then s.yieldClaim true else s

end Sys2Proof.Machine
end

