-- ==== Sys2Proof/Machine/Ferry.lean ====
section
/-!
DEFINITION. Ferry links (R339 to R346), the claim at the dies (R293), the safety pairs (R329 to R333), and memory errors
(R337).
-/
namespace Sys2Proof.Machine

/-! ## The claim at a die -/

/-- ACT of a die takes a value, and the output gate follows: channels and outputs off while it acts, and what is commanded
on turns on again when it ends (R293). -/
def State.setAct (s : State) (g : Nat) (act : Bool) (pair : Bool) : State :=
  let was := s.gated g
  let old := s.flag .SL_WD_STAT_ACT g
  let s := (s.setDi g { s.di g with pairFlag := pair }).putF .SL_WD_STAT_ACT act g
  let now := s.gated g
  let chans := (chansOf g).filter fun k => !s.isFollow k
  let s := if now && !was then s.watched (·.gateOff g)
    else if was && !now then s.each chans fun s k =>
      if (s.ch k).cmdOn && s.rd .SL_STAT_STATE k = 0 then s.turnOn k (s.ch k).onAct (s.ch k).onDuty else s
    else s
  if old = act && was == now then s
  else s.each ((List.range 12).map (12 * g + ·)) fun s k => (s.setIo k { s.fio k with hold := (s.fio k).hold || old != act }).ioRefresh k

/-- FERRY_POLL (R293, R343, R345): the poll carries the claim and the pair flag; three that stay unanswered make the die
unreachable, and the writes it has not acknowledged are lost. -/
def execFerryPoll (g : Nat) (s : State) : Out := s.running <|
  let g := g % 4
  let s := if s.dieLinked g && !s.pw.off then
      let s := s.setAct g s.claim s.pairMode
      s.setDi g { s.di g with pollClaim := s.claim }
    else s
  if s.pw.off then .next s else
  let n := (s.di g).missed + 1
  let s := s.setDi g { s.di g with missed := n }
  .next (if 4 ≤ n then (s.putBit .FY_STAT_REACH g false).writesLost g 2 else s)

/-- The die acknowledges what it has taken, reports what it has not, and gives its reports; what a reset of the die has cut off is
lost (R343, R345). -/
def State.dieAnswers (s : State) (g : Nat) : State :=
  let s := if s.ferry.rebooted.contains g then s.writesLost g 4
    else
      let mine := s.ferry.writes.filter (·.die == g)
      let s := { s with ferry := { s.ferry with writes := s.ferry.writes.filter (·.die ≠ g) } }
      s.each (mine.filter (·.bad)) fun s p => (s.freshened).ferryFail g p.offset p.who (s.fresh % 256) 1
  let reps := s.ferry.reports.filter (·.die == g)
  { s with ferry := { s.ferry with reports := s.ferry.reports.filter (·.die ≠ g), rebooted := s.ferry.rebooted.filter (· ≠ g) } }.each
    reps fun s r => s.reported r

/-- Who sent the write at an offset of die `g` that has failed there. The world of a dispatched entry that the model does not hold is a
free value (R345, log entry 92). -/
def State.writer (s : State) (g offset master : Nat) : Initiator :=
  match s.ferry.writes.find? fun p => p.die == g && p.offset == offset && p.who.master == master with
  | some p => p.who
  | none => ⟨master, World.ofCode s.fresh⟩

/-- FERRY_POLL_RESPONSE (R185, R197, R199, R343, R345, R444): the die answers, and latches the Floodgate lock where it is set; up to
four edges arrive from its FIFO, every edge reaches IO_LAST and Floodgate, its new faults arrive with the stamps of their rise (log
entry 105), and failed posted writes (offset, master, tag, code) are logged. -/
def execFerryPollResponse (g : Nat) (fails : List (Nat × Nat × Nat × Nat)) (s : State) : Out := s.running <|
  let g := g % 4
  let d := s.di g
  .next <| if !d.up || s.pw.off then s
  else
    let s := ((s.setDi g { d with missed := 0, retrains := 0, crcRun := 0, linkDown := false, fifo := d.fifo.drop 4,
                                  polled := d.polled ++ d.fifo.take 4, lockLatched := d.lockLatched || s.locked 4 }).putBit
                .FY_STAT_REACH g true).putBit .FY_STAT_UP g true
    let s := (s.wr .FY_LINK_STATE 2 g).ioNews g
    (s.each fails fun s f =>
      (s.freshened).ferryFail g (f.1 % 32768) (s.writer g (f.1 % 32768) (f.2.1 % 256)) (f.2.2.1 % 256) (f.2.2.2 % 16)).dieAnswers g

/-- DIE_POLL_TIMEOUT (R293): a die in pair mode has had no poll for 40 us. -/
def execDiePollTimeout (g : Nat) (s : State) : Out := s.running <|
  let g := g % 4
  .next (if (s.di g).pairFlag && (s.di g).up then s.setAct g false true else s)

/-! ## Links -/

/-- FERRY_CRC_ERROR (R344): a packet is replayed and counted. -/
def execFerryCrcError (g : Nat) (s : State) : Out := s.running <|
  let g := g % 4
  .next ((s.setDi g { s.di g with crcRun := (s.di g).crcRun + 1 }).inc .FY_LINK_CRCERR g)

/-- FERRY_RETRAIN (R344, R345): after eight consecutive failures the link retrains, with or without success; after three
failed retrains it is down, the die is unreachable, and the writes it has not acknowledged are lost. -/
def execFerryRetrain (g : Nat) (ok : Bool) (s : State) : Out := s.running <|
  let g := g % 4
  let d := s.di g
  .next <| if d.crcRun < 8 then s
  else
    let s := s.inc .FY_LINK_RETRAIN g
    if ok then ((s.setDi g { d with crcRun := 0, retrains := 0, linkDown := false }).wr .FY_LINK_STATE 2 g).putBit .FY_STAT_UP g true
    else if d.retrains < 2 then (s.setDi g { d with retrains := d.retrains + 1 }).wr .FY_LINK_STATE 3 g
    else ((((s.setDi g { d with retrains := d.retrains + 1, linkDown := true }).wr .FY_LINK_STATE 0 g).putBit .FY_STAT_UP g
      false).putBit .FY_STAT_REACH g false).writesLost g 2

/-- FERRY_READ_TIMEOUT (R344): a non-posted request has not completed within FY_RDTO. -/
def execFerryReadTimeout (s : State) : Out := s.running <| .next (s.answer .accessFault)

/-! ## Lock registers -/

/-- The world may use lock `n` (R351). -/
def lockOpen (n : Nat) : World → Bool
  | .normal => n < 32
  | .safety => n < 48
  | .secure => true

/-- LOCK_ACQUIRE (R351): a read of LK_n. -/
def execLockAcquire (who : Initiator) (n : Nat) (s : State) : Out := s.asMaster who <|
  let n := n % 64
  let l := s.lk n
  let me := who.master % 256
  .next <| if !lockOpen n (s.worldOf who) then s.answer (.value (2 ^ 30))
  else match l.owner with
    | none => (s.setLk n ⟨some me, false⟩).answer (.value (2 ^ 31 + b2n l.orphan * 2 ^ 29 + me))
    | some m => s.answer (.value (if m = me then 2 ^ 31 + me else m))

/-- LOCK_RELEASE (R352): a write to LK_n. -/
def execLockRelease (who : Initiator) (n : Nat) (s : State) : Out := s.asMaster who <|
  let n := n % 64
  let s := s.answer .none
  .next <| if (s.lk n).owner = some (who.master % 256) then s.setLk n ⟨none, (s.lk n).orphan⟩
  else s.putBit (if n < 32 then .LK_BADREL_LO else .LK_BADREL_HI) (n % 32) true

/-! ## Safety pairs -/

/-- The interrupts of a lockstep error of pair `p`: source 45, which goes to the other pair (R331, R353), and the line of the pair it
goes to, which R353 does not number apart (DESIGN CHOICE, log entry 33). -/
abbrev pairErrSource (p : Nat) : Nat := 3091 - p % 2

/-- The claim is given up with a yield heartbeat on a lockstep error in pair mode (R292, R331). -/
def State.pairError (s : State) : State := if s.pairMode && s.braid.latch then s.yieldClaim false else s

/-- LOCKSTEP_ERROR (R331): a mismatch of kind 1 bus, 2 register file or 3 CSR freezes pair `p`. The comparator of a pair
that debug has broken is stopped (R333). -/
def execLockstepError (p cause pc : Nat) (s : State) : Out := s.running <|
  let p := p % 2
  .next <| if s.flag .LS_STAT_FROZEN p || s.flag .LS_STAT_DBGBRK p then s
  else
    let s := (((s.setF .LS_STAT_ERR p).setF .LS_STAT_FROZEN p).wr .LS_STAT_CAUSE (1 + (cause + 2) % 3) p).wr .LS_PC pc p
    ((s.raise 45).raise (pairErrSource p)).pairError

/-- A write of LS_CMDp: the other pair's alone (R354). -/
def State.pairCmd (s : State) (who : Initiator) (p : Nat) (g : State → State) : State :=
  if who.master = 2 - p then g s else s.setF .LS_STAT_REFUSED p

/-- PAIR_RESTART (R331, R332, R333, R352): LS_CMDp.RESTART. The outcome of the comparator self-test that the restart runs is a free
value (log entry 105). -/
def execPairRestart (who : Initiator) (p : Nat) (s : State) : Out := s.asMaster who <|
  let p := p % 2
  .next <| (s.answer .none).pairCmd who p fun s =>
    if !s.flag .LS_STAT_ERR p then s
    else
      let s := ((((s.clrF .LS_STAT_ERR p).clrF .LS_STAT_FROZEN p).wr .LS_STAT_CAUSE 0 p).inc .LS_STAT_RESTARTS p).releaseLocks (1 + p)
      let s := (s.lower (pairErrSource p)).when (!s.flag .LS_STAT_ERR (1 - p)) (·.lower 45)
      s.freshened.when (bit s.fresh 0) (·.setF .LS_STAT_STFAIL p)

/-- PAIR_SELFTEST (R332): LS_CMDp.SELFTEST, with its result. -/
def execPairSelftest (who : Initiator) (p : Nat) (fail : Bool) (s : State) : Out := s.asMaster who <|
  let p := p % 2
  .next <| (s.answer .none).pairCmd who p fun s => s.when fail (·.setF .LS_STAT_STFAIL p)

/-! ## Memory errors -/

/-- An address in system SRAM or DRAM (R335). -/
def sharedRam (a : Nat) : Bool := (0x10000000 ≤ a && a < 0x10800000) || (0x800000000 ≤ a && a < 0x900000000)

/-- The memory error interrupt as LS_CTLp.SRCPAIR brings it to pair `p` (R354). R353 gives it no number (DESIGN CHOICE, log entry
33). -/
abbrev pairMemSource (p : Nat) : Nat := 3080 + p

/-- An uncorrectable error in memory `mem`, met by an access of `who` (R337, R354): registers and record. The safety world's interrupt is
raised, at each pair too whose SRCPAIR asks for it, and the normal world's where the address lies in DRAM or system SRAM. -/
def State.memFault (s : State) (who : Initiator) (addr mem : Nat) : State :=
  let s := ((((s.wr .MEM_UE_ADDR_LO (cut 32 addr)).wr .MEM_UE_ADDR_HI (bits addr 32 8)).wr .MEM_UE_INFO_MASTER who.master).wr
    .MEM_UE_INFO_MEM mem).setF .MEM_UE_INFO_EVT
  let s := (s.log 0x01 0x05 who (leBytes 5 addr ++ [mem])).raise 44
  let s := s.each ((List.range 2).filter fun p => s.flag .LS_CTL_SRCPAIR p) fun s p => s.raise (pairMemSource p)
  s.when (sharedRam (cut 40 addr)) (·.raise 43)

/-- UNCORRECTABLE_ERROR (R337, R354, R424): the access returns an access fault; one of the object engine ends its request. -/
def execUncorrectableError (who : Initiator) (addr mem : Nat) (s : State) : Out := s.asMaster who <|
  let s := (s.memFault who addr (mem % 6)).when (who.master = 0x12) fun s => { s with od := { s.od with memError := true } }
  .next (s.answer .accessFault)

/-- The corrected errors that have been counted since the counts were last looked at: a free number of each memory (R337;
log entry 105). -/
def State.corrected (s : State) : State :=
  s.each (List.range 6) fun s m => (s.freshened).inc .MEM_CE m s.fresh

end Sys2Proof.Machine
end

