-- ==== Sys2Proof/Machine/Eddy.lean ====
section
/-!
DEFINITION. Eddy mailboxes (R347 to R350, R356).
-/
namespace Sys2Proof.Machine

/-- The master that owns endpoint `e` (R326, R347). -/
def eddyMaster (e : Nat) : Nat :=
  match e with
  | 4 => 0x01
  | 5 => 0x02
  | 6 => 0x00
  | 7 => 0x12
  | n => 0x08 + n

/-- An access refused under R335: the initiator's access fault and the record. -/
def State.refuseAccess (s : State) (who : Initiator) (addr size : Nat) : State :=
  (s.log 0x01 0x01 who (leBytes 5 addr ++ [size])).answer .accessFault

/-- The empty and timeout interrupt of endpoint `e` (R348, R349); the object engine takes its own. -/
def State.eddyIrq (s : State) (e : Nat) : State := if e = 7 then s else s.raise (eddySource e 2)

/-- The registers of a channel follow its FIFO: COUNT at both ends and the head word. -/
def State.eddyView (s : State) (e r : Nat) : State :=
  let w := (s.ed (8 * e + r)).words
  let h := w.headD 0
  (((s.wr .ED_TX_STAT_COUNT w.length (8 * e + r)).wr .ED_RX_STAT_COUNT w.length (8 * r + e)).wr .ED_RX_LO (cut 32 h)
    (8 * r + e)).wr .ED_RX_HI (h / 2 ^ 32) (8 * r + e)

/-- An access to the page of endpoint `e` (R347). -/
def State.eddyPage (s : State) (who : Initiator) (e off : Nat) (g : State → State) : State :=
  if who.master = eddyMaster e then g s else s.refuseAccess who (0x40500000 + e * 0x1000 + off) 4

/-- EDDY_PUSH (R348): a write of ED_TX_HI in the send block for receiver `r`; the low half is in ED_TX_LO. A third word to the object
engine completes a request, which takes its place among those that wait (R410, R418). -/
def execEddyPush (who : Initiator) (e r hi : Nat) (s : State) : Out := s.asMaster who <|
  let e := e % 8
  let r := r % 8
  let i := 8 * e + r
  .next <| (s.answer .none).eddyPage who e (0x20 * r + 4) fun s =>
    if e = r then s
    else if 4 ≤ (s.ed i).words.length then s.setF .ED_TX_STAT_REFUSED i
    else
      let s := s.wr .ED_TX_HI hi i
      let s := (s.setEd i { s.ed i with words := (s.ed i).words ++ [s.rd .ED_TX_LO i + 2 ^ 32 * cut 32 hi] }).eddyView e r
      s.when (r == 7 && (s.ed i).words.length == 3) (·.hand (0x300 + e) [])

/-- EDDY_DOORBELL (R348, R349): RING, which holds the receiver's interrupt raised until software clears it
(`State.levelHigh`), and the channel's timer. -/
def execEddyDoorbell (who : Initiator) (e r : Nat) (s : State) : Out := s.asMaster who <|
  let e := e % 8
  let r := r % 8
  let i := 8 * e + r
  .next <| (s.answer .none).eddyPage who e (0x20 * r + 0xC) fun s =>
    if e = r then s
    else if (s.ed i).words.isEmpty then s.setF .ED_TX_STAT_REFUSED i
    else
      (s.setEd i { s.ed i with timer := true }).setF .ED_RX_STAT_RING (8 * r + e)

/-- EDDY_POP (R348, R349): endpoint `r` removes the head word of sender `e`, which restarts the timer while words are left. -/
def execEddyPop (who : Initiator) (r e : Nat) (s : State) : Out := s.asMaster who <|
  let r := r % 8
  let e := e % 8
  let i := 8 * e + r
  .next <| (s.answer .none).eddyPage who r (0x40C + 0x20 * e) fun s =>
    match (s.ed i).words with
    | [] => s
    | _ :: rest =>
      let s := (s.setEd i { s.ed i with words := rest, timer := !rest.isEmpty }).eddyView e r
      if rest.isEmpty then (s.setF .ED_TX_STAT_EMPTYEVT i).when (bit (s.rd .ED_IE_EMPTY e) r) (·.eddyIrq e) else s

/-- EDDY_TIMEOUT (R349): the channel's timer runs out. -/
def execEddyTimeout (e r : Nat) (s : State) : Out := s.running <|
  let e := e % 8
  let r := r % 8
  let i := 8 * e + r
  .next <| if !(s.ed i).timer then s
  else
    let s := ((s.setEd i { s.ed i with timer := false }).setF .ED_TX_STAT_TIMEOUT i).setF .ED_RX_STAT_TIMEOUT (8 * r + e)
    (s.when (bit (s.rd .ED_IE_EMPTY e) r) (·.eddyIrq e)).log 0x08 0x01 Initiator.hw [e, r]

end Sys2Proof.Machine
end

