-- ==== Sys2Proof/Machine/Nor.lean ====
section
/-!
DEFINITION. The NOR banks, their manifests and the activation record (R449 to R453), with what the factory has written
there (R19).
-/
namespace Sys2Proof.Machine

/-- Base of bank `b`: 0 left, 1 right (R335, R452). -/
abbrev norBank (b : Nat) : Nat := 0x30000000 + b * 0x8000000

/-! ## Manifests -/

/-- Length of a manifest (R450). -/
abbrev mftLen : Nat := 12310


/-- Part entry `i` of a manifest (R451), and its fields. -/
abbrev mftPart (m : List Nat) (i : Nat) : List Nat := (m.drop (64 + 80 * i)).take 80
abbrev mN (l : List Nat) (off n : Nat) : Nat := leVal ((l.drop off).take n)
abbrev partType (p : List Nat) : Nat := mN p 0 1
abbrev partVersion (p : List Nat) : Nat := mN p 4 4
abbrev partFile (p : List Nat) : List Nat := (p.drop 8).take 12
abbrev partLen (p : List Nat) : Nat := mN p 20 4
abbrev partOff (p : List Nat) : Nat := mN p 24 4
abbrev partDigest (p : List Nat) : List Nat := (p.drop 32).take 48
abbrev mftSeq (m : List Nat) : Nat := mN m 4 4
abbrev mftMir (m : List Nat) : Nat := mN m 8 1
abbrev mftConfirm (m : List Nat) : Nat := mN m 10 2

/-- The length limits of R449. -/
def partLenOk (t n : Nat) : Bool :=
  match t with
  | 1 => 0x1000 ≤ n && n ≤ 0x6000000
  | 2 => 0x1000 ≤ n && n ≤ 0x80000
  | 3 => 0x1000 ≤ n && n ≤ 0x38000
  | 4 => 0x1000 ≤ n && n ≤ 0x8000
  | 5 => n = 16384
  | _ => false

/-- A part entry meets R451, and its part lies in the part area (R452). -/
def partOk (p : List Nat) : Bool :=
  partLenOk (partType p) (partLen p) && mN p 1 3 = 0 && mN p 28 4 = 0 && partOff p % 0x10000 = 0 && 0x10000 ≤ partOff p
    && partOff p + partLen p ≤ 0x7FE0000

/-- Two parts do not overlap. -/
def partsApart (p q : List Nat) : Bool := partOff p + partLen p ≤ partOff q || partOff q + partLen q ≤ partOff p

/-- The part entries of a manifest. -/
abbrev mftParts (m : List Nat) : List (List Nat) := (List.range 5).map (mftPart m)

/-- The manifest meets R450 to R452 in every field but the signatures and the digests. -/
def mftFormat (m : List Nat) : Bool :=
  let ps := mftParts m
  m.length = mftLen && mN m 0 2 = 0x3F1D && mN m 2 1 = 0x01 && mN m 3 1 = 5 && 1 ≤ mftSeq m && mftSeq m ≤ 0xFFFFFFFE
    && mN m 9 1 = 0 && 60 ≤ mftConfirm m && mftConfirm m ≤ 3600 && mN m 12 4 = mftLen
    && ((m.drop 16).take 16).all (fun c => 0x20 ≤ c && c < 0x7F) && ((m.drop 32).take 32).all (· = 0)
    && ps.all partOk && [1, 2, 3, 4, 5].all (fun t => ps.any fun p => partType p = t)
    && (List.range 5).all fun i => (List.range i).all fun j => partsApart (mftPart m i) (mftPart m j)

/-- The part of TYPE `t`. -/
def mftFind (m : List Nat) (t : Nat) : List Nat := ((mftParts m).find? fun p => partType p = t).getD []

/-- The manifest carries a valid certificate and signature (R450, R457). -/
def mftSigned (m : List Nat) : Bool :=
  Config.mldsaVerify 3 Config.updateRootKey ((m.drop 464).take 2592) ((m.drop 3056).take 4627)
    && Config.mldsaVerify 3 ((m.drop 464).take 2592) (m.take 7683) ((m.drop 7683).take 4627)

/-- SHA-384 of bytes, 48 bytes. -/
abbrev sha384 (l : List Nat) : List Nat := padTo 48 (Config.digest 2 l)

/-! ## The activation record -/

/-- An activation record (R453). -/
structure ActRec where
  bank : Nat := 0
  trial : Bool := false
  returned : Bool := false
  fallback : Bool := false
  copy : Bool := false
  otherValid : Bool := false
  rseq : Nat := 0
  mseqL : Nat := 0
  mseqR : Nat := 0
  lastFail : Nat := 0
  confirm : Nat := 0
  deriving DecidableEq, Repr

/-- Bytes 0 to 27 of a record. -/
def ActRec.head (r : ActRec) : List Nat :=
  leBytes 2 0xAC7E ++ [0x01, r.bank % 2 + 2 * b2n r.trial + 4 * b2n r.returned + 8 * b2n r.fallback + 16 * b2n r.copy
    + 32 * b2n r.otherValid] ++ leBytes 4 r.rseq ++ leBytes 4 r.mseqL ++ leBytes 4 r.mseqR ++ [r.lastFail, 0] ++ leBytes 2 r.confirm
    ++ List.replicate 8 0

/-- The 64 bytes of a record whose marks are unused. -/
def ActRec.bytes (r : ActRec) : List Nat := r.head ++ leBytes 4 (crc32 r.head) ++ List.replicate 32 0xFF

/-- A record read from its bytes. -/
def ActRec.ofBytes (l : List Nat) : ActRec :=
  let f := mN l 3 1
  { bank := f % 2, trial := bit f 1, returned := bit f 2, fallback := bit f 3, copy := bit f 4, otherValid := bit f 5,
    rseq := mN l 4 4, mseqL := mN l 8 4, mseqR := mN l 12 4, lastFail := mN l 16 1, confirm := mN l 18 2 }

/-- Address of record copy `c`: A in the left bank, B in the right. -/
abbrev recAddr (c : Nat) : Nat := norBank c + 0x7FE0000

/-! ## What the factory has written -/

/-- The manifest of Imnak's base image set (R19, log entry 83). -/
def baseManifest : List Nat := (List.range mftLen).map fun i => Config.romByte (norBank 0 + i) % 256

/-- Copy A of the activation record as a module leaves the factory (R19, R453). -/
def factoryRecord : ActRec := { rseq := 1, mseqL := mftSeq baseManifest }

/-- A byte that stands as the factory has made it: of the boot ROM, of the two factory areas, which hold the same, of the base
image set in the left bank until a copy takes its place, and of record copy A until a record is written there (R19,
R452). The manual states no content but that of the record: a free value. -/
def State.madeByte (s : State) (a : Nat) : Option Nat :=
  let o := a % 0x8000000
  if a < 0x40000 then some (Config.romByte a % 256)
  else if a < 0x30000000 || 0x40000000 ≤ a then none
  else if 0x7FF0000 ≤ o then some (Config.romByte (norBank 0 + o) % 256)
  else if 0x38000000 ≤ a then none
  else if o < 0x7FE0000 then (if s.upd.baseSet then some (Config.romByte a % 256) else none)
  else if s.upd.factoryRec then some (factoryRecord.bytes.getD (o - 0x7FE0000) 0xFF)
  else none

/-- Bytes as a load finds them: in the boot ROM and the NOR banks with what the factory has made, in system SRAM with the event
log (R427). -/
def State.loadBytes (s : State) (a n : Nat) : List Nat :=
  if (0x40000 ≤ a && a + n ≤ 0x30000000) || 0x40000000 ≤ a then s.dataAt a n
  else (List.range n).map fun i => (s.madeByte (a + i)).getD (s.byteAt (a + i))

/-- A word as a load finds it. -/
def State.load (s : State) (a : Nat) : Nat :=
  if ((0x40000 ≤ a && a + 4 ≤ 0x30000000) || 0x40000000 ≤ a) && offLog a 4 then s.word a else leVal (s.loadBytes a 4)

/-- The base set stands in bank `b`. -/
abbrev State.hasBase (s : State) (b : Nat) : Bool := b == 0 && s.upd.baseSet

/-- The manifest of a bank. -/
def State.manifest (s : State) (b : Nat) : List Nat := if s.hasBase b then baseManifest else s.bytesAt (norBank b) mftLen

/-- The bytes of a part in a bank. -/
def State.partBytes (s : State) (b : Nat) (p : List Nat) : List Nat := s.loadBytes (norBank b + partOff p) (partLen p)

/-! ## The record in force -/

/-- Copy `c` stands as the factory wrote it. -/
abbrev State.madeRec (s : State) (c : Nat) : Bool := c == 0 && s.upd.factoryRec

/-- Copy `c` is valid (R453). -/
def State.recValid (s : State) (c : Nat) : Bool :=
  let l := s.bytesAt (recAddr c) 64
  s.madeRec c || (mN l 0 2 = 0xAC7E && mN l 2 1 = 0x01 && mN l 28 4 = crc32 (l.take 28))

/-- Copy `c` as a record. -/
def State.recAt (s : State) (c : Nat) : ActRec := if s.madeRec c then factoryRecord else ActRec.ofBytes (s.bytesAt (recAddr c) 64)

/-- The copy in force: the valid one with the higher RSEQ. -/
def State.recCopy (s : State) : Option Nat :=
  match s.recValid 0, s.recValid 1 with
  | true, true => some (if (s.recAt 0).rseq < (s.recAt 1).rseq then 1 else 0)
  | true, false => some 0
  | false, true => some 1
  | false, false => none

/-- The record in force; a confirmed record for the left bank where no copy is valid (R457). -/
def State.record (s : State) : ActRec :=
  match s.recCopy with
  | some c => s.recAt c
  | none => {}

/-- A new record: it goes into the other copy, erased first, with RSEQ incremented (R453). -/
def State.writeRec (s : State) (r : ActRec) : State :=
  let c := match s.recCopy with
    | some 0 => 1
    | _ => 0
  let t := (s.wipe (recAddr c) 0x10000).setBytes (recAddr c) ({ r with rseq := (s.record.rseq + 1) % 2 ^ 32 } : ActRec).bytes
  { t with upd := { t.upd with factoryRec := t.upd.factoryRec && c ≠ 0 } }

/-- Trial marks used of the record in force. -/
def State.marksUsed (s : State) : Nat :=
  match s.recCopy with
  | some c => if s.madeRec c then 0 else ((s.bytesAt (recAddr c + 32) 3).filter (· ≠ 0xFF)).length
  | none => 0

/-- The next erased mark programmed to 0x00 (R457). -/
def State.markTrial (s : State) : State :=
  match s.recCopy with
  | some c =>
    match (List.range 3).find? fun i => s.byteAt (recAddr c + 32 + i) = 0xFF with
    | some i => s.setBytes (recAddr c + 32 + i) [0]
    | none => s
  | none => s

/-- MSEQ of a bank in a record, and a record with another. -/
abbrev ActRec.mseq (r : ActRec) (b : Nat) : Nat := if b = 0 then r.mseqL else r.mseqR
def ActRec.setMseq (r : ActRec) (b v : Nat) : ActRec := if b = 0 then { r with mseqL := v } else { r with mseqR := v }

end Sys2Proof.Machine
end

