-- ==== Sys2Proof/Machine/HeadOps.lean ====
section
/-!
DEFINITION. What Headwater does for other blocks: the key store and its checks (R394 to R400), and the abort of Delta operations
that hold a key (R392, R400, R402, R404).
-/
namespace Sys2Proof.Machine

/-! ## The key store -/

abbrev State.slot (s : State) (n : Nat) : KeySlot := NMap.at {} s.head.slots n
abbrev State.setSlot (s : State) (n : Nat) (k : KeySlot) : State :=
  { s with head := { s.head with slots := NMap.put {} s.head.slots n k } }

/-- The key of a slot: the XOR of its shares (R398). -/
def KeySlot.key (k : KeySlot) : List Nat := List.zipWith (· ^^^ ·) k.a k.b

abbrev KeySlot.type (k : KeySlot) : Nat := bits k.attr 7 3
abbrev KeySlot.world (k : KeySlot) : World := World.ofCode (bits k.attr 10 2)
abbrev KeySlot.part (k : KeySlot) : Nat := bits k.attr 12 5
abbrev KeySlot.parent (k : KeySlot) : Nat := bits k.attr 17 8
abbrev KeySlot.used (k : KeySlot) : Bool := k.type != 0

/-- Bytes of a key by TYPE (R394). -/
def keyBytes : Nat → Nat
  | 1 => 16
  | 2 | 3 => 32
  | 4 | 5 => 48
  | _ => 0

/-- A key put into a slot as two shares, with a fresh mask (R398). -/
def State.storeKey (s : State) (n : Nat) (key : List Nat) (attr : Nat) : State :=
  let m := (Config.randomBytes s.free key.length).map (· % 256)
  let m := padTo key.length m
  (s.freshened).setSlot n { s.slot n with a := List.zipWith (· ^^^ ·) key m, b := m, attr := attr }

/-- The slots in use. -/
def State.usedSlots (s : State) : List Nat := (List.range 256).filter fun n => (s.slot n).used

/-- Both shares of a slot with a fresh mask (R398). -/
def KeySlot.remask (k : KeySlot) (m : List Nat) : KeySlot :=
  let m := padTo k.a.length m
  { k with a := List.zipWith (· ^^^ ·) k.a m, b := List.zipWith (· ^^^ ·) k.b m }

abbrev State.dqu (s : State) (q : Nat) : DeltaQ := NMap.at {} s.dq q
abbrev State.setDq (s : State) (q : Nat) (c : DeltaQ) : State := { s with dq := NMap.put {} s.dq q c }

/-- The key that an operation holds (R395), and its copy with a fresh mask (R398). -/
def DeltaOp.plain (o : DeltaOp) : List Nat := List.zipWith (· ^^^ ·) o.key o.mask
def DeltaOp.remask (o : DeltaOp) (m : List Nat) : DeltaOp :=
  let m := padTo o.key.length m
  { o with key := List.zipWith (· ^^^ ·) o.key m, mask := List.zipWith (· ^^^ ·) o.mask m }

/-- The operation holds no key any more: its key register is cleared. -/
abbrev DeltaOp.noKey (o : DeltaOp) : DeltaOp := { o with slot := none, key := [], mask := [] }

/-- The copies that engines hold are re-masked (R398). -/
def State.remaskOps (s : State) : State :=
  s.each (List.range 64) fun s q =>
    match (s.dqu q).fly with
    | some o =>
      if o.slot.isSome then
        (s.freshened).setDq q { s.dqu q with fly := some (o.remask ((Config.randomBytes s.free 48).map (· % 256))) }
      else s
    | none => s

/-- A re-mask round (R398), which TRNGFAIL suspends (R399). -/
def State.remaskRound (s : State) : State :=
  if s.flag .HW_STAT_TRNGFAIL then s
  else (s.each s.usedSlots fun s n =>
    (s.freshened).setSlot n ((s.slot n).remask ((Config.randomBytes s.free 48).map (· % 256)))).remaskOps

/-- A slot cleared with its generation advanced (R400, R402), and so at a restart alone (R392). -/
def State.clearSlot (s : State) (n : Nat) : State :=
  s.setSlot n { gen := ((s.slot n).gen + 1) % 2 ^ 24, lift := (s.slot n).lift }
def State.liftSlot (s : State) (n : Nat) : State :=
  s.setSlot n { gen := ((s.slot n).gen + 1) % 2 ^ 24, lift := ((s.slot n).lift + 1) % 2 ^ 24 }

/-- The generation of a parent as a derivation takes it (R396): advances by restarts alone are left out, so that the keys of
before come again, as R392 says (DEDUCED, log entry 17). -/
abbrev KeySlot.origin (k : KeySlot) : Nat := (k.gen + 2 ^ 24 - k.lift % 2 ^ 24) % 2 ^ 24

/-- The slot and generation a handle names (R387). -/
abbrev handleSlot (h : Nat) : Nat := h % 256
abbrev handleGen (h : Nat) : Nat := bits h 8 24
abbrev State.handleOf (s : State) (n : Nat) : Nat := n + 256 * (s.slot n).gen

/-- A slot is open to a user (R395): the world of the key, and its partition where the world is normal. -/
def KeySlot.openTo (k : KeySlot) (w : World) (part : Nat) : Bool :=
  owns w k.world && (w != .normal || k.part = 0 || k.part = part)

/-- Slot `n` is slot `r` or descends from it (R400); `fuel` bounds the chain. -/
def State.descends (s : State) (r : Nat) : Nat → Nat → Bool
  | 0, _ => false
  | fuel + 1, n => n = r || ((s.slot n).used && (s.slot n).parent ≠ n && s.descends r fuel (s.slot n).parent)

/-! ## Aborts of operations that hold a key -/

/-- Operations in flight that hold the key of a slot for which `p` holds stop at their next block with `status`, and
the engine's key register is cleared. -/
def State.abortKeys (s : State) (status : Nat) (p : Nat → Bool) : State :=
  s.each (List.range 64) fun s q =>
    match (s.dqu q).fly with
    | some o =>
      match o.slot with
      | some n =>
        if p n && o.stop.isNone then
          s.setDq q { s.dqu q with fly := some { o.noKey with stop := some status } }
        else s
      | none => s
    | none => s

/-- A slot and all its descendants revoked (R400), the parent first; the number of slots. -/
def State.revoke (s : State) (r : Nat) : State × Nat :=
  let l := r :: ((s.usedSlots).filter fun n => n ≠ r && s.descends r 256 n)
  (((s.abortKeys 8 l.contains).each l State.clearSlot).remaskRound, l.length)

/-! ## Rights overrides -/

/-- A valid override removes the right of class `cls` (R409). -/
def State.overridden (s : State) (cls index : Nat) (write : Bool) : Bool :=
  (List.range 16).any fun i => s.flag .OD_OVR_VALID i && s.rd .OD_OVR_FIRST i ≤ index && index ≤ s.rd .OD_OVR_LAST i
    && bit (s.rd (if write then .OD_OVR_NOWRITE else .OD_OVR_NOREAD) i) cls

end Sys2Proof.Machine
end

