-- ==== Sys2Proof/Machine/DeltaOps.lean ====
section
/-!
DEFINITION. Delta (R358 to R378): descriptors, windows, checks of an operation, its data, and what a completion writes.
-/
namespace Sys2Proof.Machine

/-! ## Descriptors -/

/-- Field of `n` bytes at an offset of a descriptor (R362). -/
abbrev dN (d : List Nat) (off n : Nat) : Nat := leVal ((d.drop off).take n)

abbrev dOp (d : List Nat) : Nat := dN d 0 1
abbrev dParam (d : List Nat) : Nat := dN d 2 2
abbrev dTag (d : List Nat) : Nat := dN d 4 4
abbrev dSrc (d : List Nat) : Nat := dN d 8 5
abbrev dDst (d : List Nat) : Nat := dN d 16 5
abbrev dLen (d : List Nat) : Nat := dN d 24 4
abbrev dKey (d : List Nat) : Nat := dN d 28 4
abbrev dAux (d : List Nat) : Nat := dN d 32 5
abbrev dAuxLen (d : List Nat) : Nat := dN d 40 4
abbrev dArg (d : List Nat) : Nat := dN d 44 8

/-- The class of an operation code; none outside R363. -/
def opClass (op : Nat) : Option Nat :=
  if 0x01 ≤ op && op ≤ 0x03 then some 0
  else if op = 0x10 || op = 0x11 then some 1
  else if 0x20 ≤ op && op ≤ 0x23 then some 2
  else if 0x30 ≤ op && op ≤ 0x32 then some 3
  else none

/-- The descriptor has an operation of the class, and its reserved fields are zero (R365). -/
def descFormat (cls : Nat) (d : List Nat) : Bool :=
  opClass (dOp d) == some cls && dN d 1 1 < 2 && dN d 13 3 = 0 && dN d 21 3 = 0 && dN d 37 3 = 0 && dN d 52 12 = 0

/-- The fields an operation does not use are zero (R363): PARAM, SRC, DST, KEY, AUX, AUXLEN, ARG in this order. -/
def unusedZero (d : List Nat) (param src dst key aux auxlen arg : Bool) : Bool :=
  (param || dParam d = 0) && (src || dSrc d = 0) && (dst || dDst d = 0) && (key || dKey d = 0) && (aux || dAux d = 0)
    && (auxlen || dAuxLen d = 0) && (arg || dArg d = 0)

/-- Bytes of a coordinate pair or of a signature of a curve. -/
abbrev curveBytes (param : Nat) : Nat := if param = 1 then 64 else 96

/-- Bytes of a digest by PARAM (R363). -/
def digestBytes : Nat → Nat
  | 1 | 4 => 32
  | 2 | 5 => 48
  | _ => 64

/-- Every field is in the range that R362, R363 and R369 give it. -/
def descRange (d : List Nat) : Bool :=
  let n := dLen d
  let p := dParam d
  let disjoint := dSrc d + n ≤ dDst d || dDst d + n ≤ dSrc d
  1 ≤ n && n ≤ 16777216 && (match dOp d with
  | 0x01 => unusedZero d false true true false false false false && disjoint
  | 0x02 => unusedZero d false false true false false false true
  | 0x03 => unusedZero d false true false false false false false
  | 0x10 | 0x11 => unusedZero d false true true true true true false && 12 ≤ dAuxLen d
  | 0x20 => unusedZero d true true true false false false false && 1 ≤ p && p ≤ 6
  | 0x21 => unusedZero d true true true true false false false && (p = 1 || p = 2) && (n = 32 || n = 48)
  | 0x22 => unusedZero d true true false true true false true && (p = 1 || p = 2) && (n = 32 || n = 48) && dArg d < 2 ^ 40
      && (dKey d = 0 || dArg d = 0)
  | 0x23 => unusedZero d true true false false true true true && (p = 2 || p = 3) && dArg d < 2 ^ 40
  | 0x30 => unusedZero d true false true false false false true && p < 2 ^ 13 && dArg d < 2 ^ 24
  | 0x31 => unusedZero d true false true false false false true && p < 2 ^ 13 && dArg d < 2 ^ 24 && n % 512 = 0
  | 0x32 => unusedZero d false true true false false false false && n % 512 = 0
  | _ => false)

/-- The operation takes its key from Headwater (R364); ECDSA_VERIFY with KEY = 0 takes a public key from memory. -/
def needsKey (d : List Nat) : Bool :=
  dOp d = 0x10 || dOp d = 0x11 || dOp d = 0x21 || (dOp d = 0x22 && dKey d ≠ 0)

/-- The key may do the operation (R364, R394): its usage bit and its TYPE. -/
def keyFits (d : List Nat) (k : KeySlot) : Bool :=
  match dOp d with
  | 0x10 => bit k.attr 1 && (k.type = 1 || k.type = 2)
  | 0x11 => bit k.attr 2 && (k.type = 1 || k.type = 2)
  | 0x21 => bit k.attr 3 && k.type = 2 + dParam d
  | _ => bit k.attr 4 && k.type = 2 + dParam d

/-- Headwater's answer to a request for a key by function `n` (R364, R395): a status, or the slot whose two shares
go to the engine. -/
def State.fetchKey (s : State) (n : Nat) (d : List Nat) : Nat ⊕ KeySlot :=
  let k := s.slot (handleSlot (dKey d))
  let w := World.ofCode (s.rd .DM_FCFG_WORLD n)
  if s.flag .HW_STAT_KEYLESS || dKey d = 0 || !k.used || k.gen ≠ handleGen (dKey d) then .inl 5
  else if !keyFits d k then .inl 6
  else if k.world ≠ w || !k.openTo w n then .inl 7
  else .inr k

/-! ## Windows -/

/-- The range lies wholly inside window `i` of function `n` (R359). -/
def State.inWindow (s : State) (n i a m : Nat) : Bool :=
  let j := 4 * n + i
  within (s.rd .DM_WIN_BASE_LO j + 2 ^ 32 * s.rd .DM_WIN_BASE_HI j) (s.rd .DM_WIN_SIZE_LO j + 2 ^ 32 * s.rd .DM_WIN_SIZE_HI j) a m

/-- An access of function `n` is permitted by its windows and to its world (R359, R382). -/
def State.dmaPage (s : State) (n a m : Nat) (k : Access) : Bool :=
  (List.range 4).any (s.inWindow n · a m) && s.memOk (0x20 + n) (World.ofCode (s.rd .DM_FCFG_WORLD n)) a m k

/-- A range lies in one window, and every access of it is permitted (R359). -/
def State.dmaOk (s : State) (n a m : Nat) (k : Access) : Bool :=
  (List.range 4).any (s.inWindow n · a m) && (pages a m).all fun p => s.dmaPage n p.1 p.2 k

/-- Key of the first byte of eMMC block `b`, outside the 40-bit physical space. -/
abbrev emmcAt (b : Nat) : Nat := 0x10000000000 + 512 * b

/-- The blocks lie in the eMMC window of function `n` (R370). -/
def State.emmcOk (s : State) (n b m : Nat) : Bool := within (s.rd .DM_EMMC_BASE n) (s.rd .DM_EMMC_COUNT n) b m

/-! ## The history record -/

/-- The history record of the turn in half `h` with field mask `mask` (R369). -/
def State.historyRecord (s : State) (h mask : Nat) : List Nat :=
  let hdr := gaugeSram + 0x161000 + h * 0x100
  let v := s.gauge.passed.getD h ([], [])
  let words := (List.range 12).filter fun i => bit mask i
  let cells := v.1.flatMap fun c => words.flatMap fun i => s.bytesAt (gaugeSram + 0xD0000 + h * 0x48000 + 0x30 * c + 4 * i) 3
  let strs := if bit mask 12 then v.2.flatMap fun t => t :: s.bytesAt (gaugeSram + 0x160000 + h * 0x800 + 0x40 * t) 64 else []
  let map := (List.range 768).map fun j => ((List.range 8).filter fun b => v.1.contains (8 * j + b)).foldl (fun a b => a + 2 ^ b) 0
  let n := 800 + cells.length + strs.length
  let a := leBytes 2 0x6A17 ++ [0x01, 0] ++ leBytes 3 (s.word hdr) ++ [0] ++ leBytes 2 v.1.length ++ leBytes 2 mask ++ leBytes 4 n
    ++ s.bytesAt (hdr + 0x24) 4 ++ s.bytesAt (hdr + 0x04) 8
  let b := map ++ cells ++ strs
  a ++ leBytes 4 (crc32 (a ++ [0, 0, 0, 0] ++ b)) ++ b

/-! ## What an operation does -/

/-- The result of an operation that runs: STATUS, RESULT, and the blocks it writes to memory and to the eMMC. -/
structure DeltaRun where
  status : Nat := 0
  result : Nat := 0
  mem : List (Nat × List Nat) := []
  emmc : List (Nat × List Nat) := []
  area : List (Nat × List Nat) := [] -- what the Gauge export engine puts into its working area (R369)
  deriving DecidableEq, Repr

/-- The ranges an operation reads and the one it writes (R359, R363). -/
def opRanges (d : List Nat) : List (Nat × Nat) × Option (Nat × Nat) :=
  let n := dLen d
  let src := (dSrc d, n)
  match dOp d with
  | 0x01 => ([src], some (dDst d, n))
  | 0x02 => ([], some (dDst d, n))
  | 0x03 => ([src], none)
  | 0x10 => ([src, (dAux d, dAuxLen d)], some (dDst d, n + 16))
  | 0x11 => ([(dSrc d, n + 16), (dAux d, dAuxLen d)], some (dDst d, n))
  | 0x20 => ([src], some (dDst d, digestBytes (dParam d)))
  | 0x21 => ([src], some (dDst d, curveBytes (dParam d)))
  | 0x22 => ([src, (dAux d, curveBytes (dParam d))] ++ (if dKey d = 0 then [(dArg d, curveBytes (dParam d))] else []), none)
  | 0x23 => ([src, (dAux d, dAuxLen d), (dArg d, if dParam d = 2 then 1952 else 2592)], none)
  | 0x32 => ([], some (dDst d, n))
  | _ => ([], none)

/-- The data of a record of the export operations and of EMMC_READ (R369, R370). In the working area the selected data stand as
the history record they become (DESIGN CHOICE, log entry 93). -/
def State.exportRun (s : State) (fn : Nat) (o : DeltaOp) : DeltaRun :=
  let d := o.desc
  let h := o.turn % 2
  if dOp d = 0x32 then
    if !s.emmcOk fn (dSrc d) (dLen d / 512) then { status := 1 }
    else { result := dLen d, mem := [(dDst d, Memory.rdBytes s.emmc (emmcAt (dSrc d)) (dLen d))] }
  else if o.done0 ≠ o.turn + 2 ^ 31 then { status := 11 }
  else if s.word (gaugeSram + 0x161000 + h * 0x100 + 0x2C) ≠ o.done0 then { status := 12 }
  else
    let r := s.historyRecord h (dParam d)
    let area := [(gaugeSram + 0x16C000, r)]
    if 81920 < r.length || dLen d < r.length then { status := 10, result := r.length }
    else if dOp d = 0x30 then
      if s.dmaOk fn (dDst d) r.length .write then { result := r.length, mem := [(dDst d, r)], area := area }
      else { status := 1, area := area }
    else
      let m := ceilDiv r.length 512
      if s.emmcOk fn (dDst d) m then { result := r.length, emmc := [(emmcAt (dDst d), padTo (512 * m) r)], area := area }
      else { status := 1, area := area }

/-- What an operation does on the present memory where its windows and its world permit it (R363, R369): its status, result and
writes. -/
def State.opData (s : State) (fn : Nat) (o : DeltaOp) : DeltaRun :=
  let d := o.desc
  let n := dLen d
  let rdB (a m : Nat) : List Nat := s.loadBytes a m
  let src := rdB (dSrc d) n
  let put (l : List Nat) : DeltaRun := { result := l.length, mem := [(dDst d, l)] }
  match dOp d with
  | 0x01 => put src
  | 0x02 => put ((List.range n).map fun i => dArg d / 256 ^ (i % 8) % 256)
  | 0x03 => { result := crc32 src }
  | 0x10 =>
    let x := rdB (dAux d) (dAuxLen d)
    let r := Config.gcmSeal o.plain (x.take 12) (x.drop 12) src
    put (padTo n r.1 ++ padTo 16 r.2)
  | 0x11 =>
    let x := rdB (dAux d) (dAuxLen d)
    (match Config.gcmOpen o.plain (x.take 12) (x.drop 12) src (rdB (dSrc d + n) 16) with
    | some p => put (padTo n p)
    | none => { status := 3, mem := [(dDst d, List.replicate n 0)] })
  | 0x20 => put (padTo (digestBytes (dParam d)) (Config.digest (dParam d) src))
  | 0x21 => put (padTo (curveBytes (dParam d)) (Config.ecdsaSign (dParam d) o.plain src))
  | 0x22 =>
    let pub := if dKey d = 0 then rdB (dArg d) (curveBytes (dParam d)) else Config.ecPublic (dParam d) o.plain
    { status := if Config.ecdsaVerify (dParam d) pub src (rdB (dAux d) (curveBytes (dParam d))) then 0 else 4 }
  | 0x23 =>
    let pub := rdB (dArg d) (if dParam d = 2 then 1952 else 2592)
    { status := if Config.mldsaVerify (dParam d) pub src (rdB (dAux d) (dAuxLen d)) then 0 else 4 }
  | _ => s.exportRun fn o

/-- An operation run: with FAULT where a range is refused (R359). -/
def State.opRun (s : State) (fn : Nat) (o : DeltaOp) : DeltaRun :=
  let rg := opRanges o.desc
  if !(rg.1.all fun r => s.dmaOk fn r.1 r.2 .read) || !(rg.2.all fun r => s.dmaOk fn r.1 r.2 .write) then { status := 1 }
  else s.opData fn o

/-- How many bytes of a range an operation can reach before an access that is refused (R359); none where no window holds the range. -/
def State.dmaReach (s : State) (fn : Nat) (k : Access) (r : Nat × Nat) : Nat :=
  if !(List.range 4).any (s.inWindow fn · r.1 r.2) then 0
  else (((pages r.1 r.2).find? fun p => !s.dmaPage fn p.1 p.2 k).map (·.1 - r.1)).getD r.2

/-- How much of its output an operation can have written when it ends: no more than it has read of SRC, nothing where another of its
operands is refused, and nothing past a refused access (R359). -/
def State.outReach (s : State) (fn : Nat) (d : List Nat) : Nat :=
  let rg := opRanges d
  let out := if dOp d = 0x30 then some (dDst d, dLen d) else rg.2
  let other := rg.1.drop 1 |>.all fun r => s.dmaOk fn r.1 r.2 .read
  match out, rg.1.head? with
  | none, _ => 0
  | some w, none => s.dmaReach fn .write w
  | some w, some r => if !other then 0 else
      let got := s.dmaReach fn .read r
      if got = r.2 then s.dmaReach fn .write w else min got (s.dmaReach fn .write w)

/-- The first access of an operation that its windows hold and the map or the region checker refuses: R335 records it. -/
def State.opDenied (s : State) (fn : Nat) (o : DeltaOp) : Option (Nat × Nat) :=
  let d := o.desc
  let rg := opRanges d
  let out := if dOp d = 0x30 then some (dDst d, (s.historyRecord (o.turn % 2) (dParam d)).length) else rg.2
  let shut (k : Access) (r : Nat × Nat) : Option (Nat × Nat) := (pages r.1 r.2).find? fun p =>
    (List.range 4).any (s.inWindow fn · r.1 r.2) && !s.memOk (0x20 + fn) (World.ofCode (s.rd .DM_FCFG_WORLD fn)) p.1 p.2 k
  (rg.1.findSome? (shut .read)).orElse fun _ => out.bind (shut .write)

/-- The record of an operation that ends with FAULT for such an access; a write to the parameter bank in force also sets
GE_STAT.REFUSED (R109). -/
def State.opFault (s : State) (fn : Nat) (o : DeltaOp) : State :=
  match s.opDenied fn o with
  | some p =>
    (s.denied (0x20 + fn) (World.ofCode (s.rd .DM_FCFG_WORLD fn)) p.1 p.2).when (s.bankInForce p.1 p.2) (·.setF .GE_STAT_REFUSED)
  | none => s

/-- The blocks of a run stored. -/
def State.storeRun (s : State) (r : DeltaRun) : State :=
  let s := s.each (r.area ++ r.mem) fun s b => s.store b.1 (b.2.map (· % 256))
  { s with emmc := r.emmc.foldl (fun m b => Memory.wrBytes m b.1 b.2) s.emmc }

/-- The output of an operation with an undefined output (R372): free bytes as far as the operation can have come. -/
def State.undefOut (s : State) (fn : Nat) (d : List Nat) : State :=
  let s := (pages (dDst d) (s.outReach fn d)).foldl (fun (s : State) p =>
    (s.store p.1 (padTo p.2 ((Config.freeBytes s.free p.2).map (· % 256)))).freshened) s
  if dOp d = 0x31 then
    let bl := (List.range (dLen d / 512)).takeWhile fun i => s.emmcOk fn (dDst d + i) 1
    bl.foldl (fun (s : State) i =>
      { s with emmc := Memory.wrBytes s.emmc (emmcAt (dDst d + i)) (padTo 512 ((Config.freeBytes s.free 512).map (· % 256))),
               free := s.free + 1 }) s
  else s

/-- The first `k` bytes of a run's output. -/
def DeltaRun.prefix' (r : DeltaRun) (k : Nat) : DeltaRun :=
  { r with mem := (r.mem.take 1).map fun b => (b.1, b.2.take k), emmc := (r.emmc.take 1).map fun b => (b.1, b.2.take k) }

/-- Bytes a run writes. -/
def DeltaRun.bytes (r : DeltaRun) : Nat := ((r.mem ++ r.emmc).map (·.2.length)).sum

/-! ## Interrupts, queues and functions -/

/-- Entries in a queue's rings (R377). -/
abbrev State.ringSize (s : State) (q : Nat) : Nat := 2 ^ (s.rd .DQ_SIZE q + 4)

/-- Address of descriptor `i` and of completion entry `i`. -/
abbrev State.descAddr (s : State) (q i : Nat) : Nat := s.rd .DQ_RING_LO q + 2 ^ 32 * s.rd .DQ_RING_HI q + 64 * i
abbrev State.cplAddr (s : State) (q i : Nat) : Nat := s.rd .DQ_CPL_LO q + 2 ^ 32 * s.rd .DQ_CPL_HI q + 32 * i

/-- An access to a ring of queue `q`, with the world of its function (R326, R382). R359 asks the windows of an operation's reads and
writes alone (DEDUCED, log entry 13). -/
abbrev State.ringOk (s : State) (q a m : Nat) (k : Access) : Bool :=
  s.rangeOk (0x20 + s.rd .DM_QCFG_FUNC q) (World.ofCode (s.rd .DM_FCFG_WORLD (s.rd .DM_QCFG_FUNC q))) a m k

/-- The record of such an access refused (R335). -/
abbrev State.ringDenied (s : State) (q a m : Nat) : State :=
  s.denied (0x20 + s.rd .DM_QCFG_FUNC q) (World.ofCode (s.rd .DM_FCFG_WORLD (s.rd .DM_QCFG_FUNC q))) a m

/-- Operations in flight, of Delta and of a function (R368). -/
def State.inflAll (s : State) : Nat := ((List.range 64).filter fun q => (s.dqu q).fly.isSome).length
def State.inflOf (s : State) (n : Nat) : Nat :=
  ((List.range 64).filter fun q => (s.dqu q).fly.isSome && s.rd .DM_QCFG_FUNC q = n).length

/-- The registers that follow the queue: PEND, OVERSHARE, CFULL, and the counts in flight (R367, R368, R371, R480). -/
def State.dqView (s : State) (q : Nat) : State :=
  let c := s.dqu q
  let n := s.rd .DM_QCFG_FUNC q
  let pend := c.ring.length + b2n c.fly.isSome
  let lim := 16 * s.rd .DM_QCFG_SHARE q
  let s := (s.wr .DQ_STAT_PEND pend q).putF .DQ_STAT_CFULL ((s.rd .DQ_CWR q + 1) % s.ringSize q = s.rd .DQ_CRD q % s.ringSize q) q
  let s := if lim < pend then s.setF .DQ_STAT_OVERSHARE q else if pend < lim then s.clrF .DQ_STAT_OVERSHARE q else s
  (s.wr .DF_STAT_INFL (s.inflOf n) n).wr .DM_STAT_INFL s.inflAll

/-- Base address of the page of function `n` (R358). -/
def fnPage (n : Nat) : Nat := if n = 0 then 0x40608000 else 0x40700000 + n * 0x10000

/-- An access to the block of queue `q` in the page of its function: masters of the function's world (R358, R377). -/
def State.fnAccess (s : State) (who : Initiator) (q off : Nat) (g : State → State) : State :=
  let n := s.rd .DM_QCFG_FUNC q
  if owns (s.worldOf who) (World.ofCode (s.rd .DM_FCFG_WORLD n)) then g s
  else s.refuseAccess who (fnPage n + 0x1000 + 0x40 * q + off) 4

/-- The engines of a class (R361). -/
def engines : Nat → List Nat
  | 0 => [0, 1, 2, 3]
  | 1 => [4, 5]
  | 2 => [6]
  | _ => [7]

/-- HW_USE marks the engines that hold work of the secure world (R404, log entry 28). -/
def State.useView (s : State) : State :=
  let sec (e : Nat) : Bool := (s.delta.stage.getD e []).any fun q => s.rd .DM_FCFG_WORLD (s.rd .DM_QCFG_FUNC q) = 2
  ((s.putBit .HW_USE 0 (sec 4)).putBit .HW_USE 1 (sec 5)).putBit .HW_USE 2 (sec 6)

/-- The operation of queue `q` begins: its key comes from Headwater, and an export reads DONE of its turn (R364, R369). -/
def State.startOp (s : State) (q : Nat) : State :=
  match (s.dqu q).fly with
  | none => s
  | some o =>
    if o.started || o.stop.isSome then s
    else
      let turn := if dArg o.desc = 0xFFFFFF then s.rd .GE_DONE_TURN else cut 24 (dArg o.desc)
      let o := { o with started := true, turn := turn, done0 := s.word (gaugeSram + 0x161000 + turn % 2 * 0x100 + 0x2C) }
      let o := if o.fate.isSome || !needsKey o.desc then o
        else match s.fetchKey (s.rd .DM_QCFG_FUNC q) o.desc with
        | .inl code => { o with fate := some code }
        | .inr k => { o with key := k.a, mask := k.b, slot := some (handleSlot (dKey o.desc)) }
      s.setDq q { s.dqu q with fly := some o }

/-- Every engine begins the operation at its front (R361). -/
def State.startHeads (s : State) : State := s.each s.delta.stage fun s l => (l.head?.map s.startOp).getD s

/-- Queue `q` leaves the input stages, and its engine goes on with the next operation. -/
def State.unstage (s : State) (q : Nat) : State :=
  ({ s with delta := { s.delta with stage := s.delta.stage.map fun (l : List Nat) => l.filter (· ≠ q) } }).startHeads

/-- A completion entry written at DQ_CWR, and what follows it (R371, R374, R377). Where the region checker refuses the entry it is
not written, and the indices advance (R382; DESIGN CHOICE, log entry 13). -/
def State.cplEntry (s : State) (q : Nat) (o : DeltaOp) (status result : Nat) : State :=
  let n := s.rd .DM_QCFG_FUNC q
  let cwr := s.rd .DQ_CWR q
  let a := s.cplAddr q cwr
  let e := leBytes 4 (dTag o.desc) ++ leBytes 2 o.idx ++ [status, q] ++ leBytes 4 result ++ [0, 0, 0, 0] ++ leBytes 8 s.stamp
    ++ List.replicate 8 0
  let s := if s.ringOk q a 32 .write then s.setBytes a e else s.ringDenied q a 32
  let s := (s.wr .DQ_CWR ((cwr + 1) % s.ringSize q) q).wr .DQ_HEAD ((o.idx + 1) % s.ringSize q) q
  let s := s.setDq q { s.dqu q with fly := none }
  let s := ((s.unstage q).useView.dqView q).inc .DM_CNT_OPS ((opClass (dOp o.desc)).getD 0)
  let s := s.when (bit (dN o.desc 1 1) 0) (·.setF .DF_INT_CPL n)
  let s := s.when (status = 1 || status = 2 || status = 13) (·.setF .DF_INT_FAULT n)
  s.complete o.jseq

end Sys2Proof.Machine
end

