-- ==== Sys2Proof/Machine/Delta.lean ====
section
/-!
DEFINITION. The commands of Delta (R358 to R378): doorbells, dispatch, completion, shares and function resets.
-/
namespace Sys2Proof.Machine

/-! ## Doorbells -/

/-- A doorbell refused with a code of R365. -/
def State.dbRefused (s : State) (q code : Nat) : State :=
  ((s.wr .DQ_DBRES_CODE code q).inc .DM_CNT_DBREF).setF .DF_INT_REFUSED (s.rd .DM_QCFG_FUNC q)

/-- Every descriptor of the doorbell under way stands in the journal: they are pending (R365). A function reset that has
ended meanwhile returns them as not executed. -/
def State.doorbellDone (s : State) (q tail : Nat) : State :=
  let c := s.dqu q
  let s := (s.setDq q { c with offer := none, got := [] }).clrF .DQ_DBRES_BUSY q
  if !s.flag .DQ_CTL_EN q then
    let s := s.each c.got fun s g => s.complete g.2.2
    s.dbRefused q 2
  else
    let s := s.setDq q { s.dqu q with ring := c.ring ++ c.got }
    ((s.wr .DQ_TAIL tail q).wr .DQ_DBRES_CODE 0 q).dqView q

/-- A descriptor's journal entry stands where it must (R310, R365). -/
def State.deltaAccepted (s : State) (q idx : Nat) (desc : List Nat) (jseq : Nat) : State :=
  let c := s.dqu q
  let s := s.setDq q { c with got := c.got ++ [(idx, desc, jseq)] }
  match c.offer with
  | some (tail, n) => if c.got.length + 1 = n then s.doorbellDone q tail else s
  | none => s

/-- Delta may read the descriptor at ring index `i` of queue `q` (R382). -/
abbrev State.ringRead (s : State) (q i : Nat) : Bool := s.ringOk q (s.descAddr q i) 64 .read

/-- The first cause of R365 for which the doorbell is refused, in the order of its table; 0 for none. A descriptor that Delta may
not read has no operation (DESIGN CHOICE, log entry 13). -/
def State.dbCode (s : State) (q : Nat) (descs : List (Nat × List Nat)) : Nat :=
  let n := s.rd .DM_QCFG_FUNC q
  let m := descs.length
  let total := s.rd .DQ_STAT_PEND q + m
  if !s.flag .DQ_CTL_EN q || !s.flag .DM_FCFG_EN n || !s.flag .DM_CTL_EN then 1
  else if bit (s.rd .DM_RSTBUSY) n then 2
  else if s.flag .DQ_STAT_OVERSHARE q then 3
  else if m = 0 || 64 < m || 16 * s.rd .DM_QCFG_SHARE q < total || s.ringSize q - 1 < total then 4
  else if !(descs.all fun d => s.ringRead q d.1 && descFormat (s.rd .DM_QCFG_CLASS q) d.2) then 5
  else if s.flag .DQ_DBRES_BUSY q then 6
  else 0

/-- DELTA_DOORBELL (R365): a write of DQ_TAIL. -/
def execDeltaDoorbell (who : Initiator) (q tail : Nat) (s : State) : Out := s.asMaster who <|
  let q := q % 64
  .next <| (s.answer .none).fnAccess who q 0x1C fun s =>
    let size := s.ringSize q
    let old := s.rd .DQ_TAIL q
    let n := (tail % size + size - old % size) % size
    let descs := (List.range n).map fun i => ((old + i) % size, s.bytesAt (s.descAddr q ((old + i) % size)) 64)
    let code := s.dbCode q descs
    if code ≠ 0 then
      let shut := if code = 5 then descs.find? fun d => !s.ringRead q d.1 else none
      ((shut.map fun d => s.ringDenied q (s.descAddr q d.1) 64).getD s).dbRefused q code
    else
      let s := (s.setDq q { s.dqu q with offer := some (tail % size, n), got := [] }).setF .DQ_DBRES_BUSY q
      let s := s.decision 7 (q :: leBytes 2 tail ++ descs.flatMap (·.2))
      s.each descs fun s d => s.submit (.delta q d.1 d.2) id fun j s => s.deltaAccepted q d.1 d.2 j

/-! ## Dispatch -/

/-- The queues of a class. -/
def State.classQueues (s : State) (c : Nat) : List Nat := (List.range 64).filter fun q => s.rd .DM_QCFG_CLASS q = c

/-- No queue of the class with pending work has credit left, and one has pending work (R366, log entry 29). -/
def State.roundOver (s : State) (c : Nat) : Bool :=
  let busy := (s.classQueues c).filter fun q => s.rd .DQ_STAT_PEND q ≠ 0
  !busy.isEmpty && busy.all fun q => (s.dqu q).credit ≤ 0

/-- A round starts: each queue's weight is added to the deficit it carries (R366, R367). -/
def State.startRound (s : State) (c : Nat) : State :=
  s.each (s.classQueues c) fun s q =>
    s.setDq q { s.dqu q with credit := min 0 (s.dqu q).credit + s.rd .DM_QCFG_SHARE q * 4096 }

/-- The queue may be served (R366, R371, R373). -/
def State.queueReady (s : State) (q : Nat) : Bool :=
  let c := s.dqu q
  let n := s.rd .DM_QCFG_FUNC q
  !c.ring.isEmpty && c.fly.isNone && 0 < c.credit && s.inflOf n < s.rd .DM_FCFG_MAXINFL n && s.inflAll < 64
    && !s.flag .DQ_STAT_CFULL q && !bit (s.rd .DM_RSTBUSY) n

/-- The engine class of an engine. -/
def engineClass (e : Nat) : Nat := if e < 4 then 0 else if e < 6 then 1 else e - 4

/-- The next descriptor of queue `q` goes to engine `e` (R365), which begins it at once where it is idle. One that Delta may no
longer read has changed. -/
def State.dispatch (s : State) (e q idx : Nat) (desc : List Nat) (jseq : Nat) (rest : List (Nat × List Nat × Nat)) : State :=
  let o : DeltaOp :=
    { desc := desc, idx := idx, jseq := jseq, unit := e
      fate := if !s.ringRead q idx || s.bytesAt (s.descAddr q idx) 64 ≠ desc then some 14 else if !descRange desc then some 10
        else none }
  let s := s.when (!s.ringRead q idx) (·.ringDenied q (s.descAddr q idx) 64)
  let s := s.setDq q { s.dqu q with ring := rest, fly := some o, credit := (s.dqu q).credit - (max (dLen desc) 64 : Nat) }
  let d := s.delta
  let s := { s with delta := { d with stage := d.stage.set e (d.stage.getD e [] ++ [q]), last := d.last.set (engineClass e) q } }
  (s.startHeads.dqView q).useView

/-- DELTA_DISPATCH (R366): engine `e` (0 to 3 movers; 4, 5 cipher; 6 hash and signature; 7 Gauge export) has room and
takes the next descriptor. -/
def execDeltaDispatch (e : Nat) (s : State) : Out := s.running <|
  let e := e % 8
  let c := engineClass e
  .next <| if 8 ≤ (s.delta.stage.getD e []).length then s
  else
    let s := if s.roundOver c then s.startRound c else s
    let from' := s.delta.last.getD c 63 + 1
    let order := (List.range 64).map fun i => (from' + i) % 64
    match order.find? fun q => s.rd .DM_QCFG_CLASS q = c && s.queueReady q with
    | none => s
    | some q =>
      match (s.dqu q).ring with
      | [] => s
      | (idx, desc, jseq) :: rest => s.dispatch e q idx desc jseq rest

/-! ## Completion -/

/-- An operation stopped at a block boundary: what it has written so far is overwritten with zeros (R372). How far it has
come is a free value; one that never started has written nothing. -/
def State.clearedOut (s : State) (fn : Nat) (o : DeltaOp) : State :=
  if !o.started || o.fate.isSome then s
  else
    let n := min (s.opData fn o).bytes (s.outReach fn o.desc)
    (s.freshened).store (dDst o.desc) (List.replicate (16 * (s.fresh % (n / 16 + 1))) 0)

/-- What an operation has written when it is cut off after `k` bytes: decryption writes plain text before it knows the tag (R373). -/
def State.opCut (s : State) (fn : Nat) (o : DeltaOp) (k : Nat) : DeltaRun :=
  let d := o.desc
  if dOp d = 0x11 then
    let iv := (s.loadBytes (dAux d) (dAuxLen d)).take 12
    { mem := [(dDst d, (padTo (dLen d) (Config.gcmPlain o.plain iv (s.loadBytes (dSrc d) (dLen d)))).take k)] }
  else (s.opData fn o).prefix' k

/-- DELTA_OPERATION_COMPLETE (R371, R372): the operation at the front of its engine ends; `ecc` and `emmc` report an
uncorrectable error in a read and an error of the eMMC device. Where the error lies is a free value (R337). -/
def execDeltaOperationComplete (q : Nat) (ecc emmc : Bool) (s : State) : Out := s.running <|
  let q := q % 64
  let n := s.rd .DM_QCFG_FUNC q
  .next <| match (s.dqu q).fly with
  | none => s
  | some o =>
    if (s.delta.stage.getD o.unit []).head? ≠ some q then s
    else match o.stop, o.fate with
    | some st, _ => (s.clearedOut n o).cplEntry q o st 0
    | none, some f => s.cplEntry q o f 0
    | none, none =>
      if ecc && dOp o.desc ≠ 0x02 then
        let t := (s.undefOut n o.desc).freshened
        ((t.freshened).memFault ⟨0x20 + n, .normal⟩ (cut 40 t.fresh) (t.fresh / 2 ^ 40 % 6)).cplEntry q o 2 (cut 32 s.fresh)
      else
        let r := s.opRun n o
        let s := if r.status = 1 then s.storeRun r else s
        if r.status = 0 && emmc && (dOp o.desc = 0x31 || dOp o.desc = 0x32) then
          (((s.storeRun { area := r.area }).undefOut n o.desc).freshened).cplEntry q o 13 (cut 32 s.fresh)
        else if r.status = 1 then (((s.opFault n o).undefOut n o.desc).freshened).cplEntry q o 1 (cut 32 s.fresh)
        else (s.storeRun r).cplEntry q o r.status r.result

/-! ## Configuration -/

/-- A write that concerns function `n` is accepted from the sender's world (R360). -/
def State.fnWrite (s : State) (who : Initiator) (n : Nat) : Bool :=
  match World.ofCode (s.rd .DM_FCFG_WORLD n) with
  | .normal => true
  | w => owns (s.worldOf who) w

/-- SHARE of a queue written (R367). -/
def State.putShare (s : State) (q share : Nat) : State := (s.wr .DM_QCFG_SHARE share q).dqView q

/-- DELTA_SHARE_WRITE (R360, R367): a write of DM_QCFGq.SHARE. -/
def execDeltaShareWrite (who : Initiator) (q share : Nat) (s : State) : Out := s.asMaster who <|
  let q := q % 64
  let s := s.answer .none
  .next <| if share = 0 || 255 < share || !s.fnWrite who (s.rd .DM_QCFG_FUNC q) then s.setF .DM_STAT_REFUSED
  else s.putShare q share

/-- QUEUE_ENABLE (R374): a write of 1 to DQ_CTL.EN. -/
def execQueueEnable (who : Initiator) (q : Nat) (s : State) : Out := s.asMaster who <|
  let q := q % 64
  .next <| (s.answer .none).fnAccess who q 0 fun s =>
    if s.flag .DQ_CTL_EN q then s
    else
      let s := ((((s.wr .DQ_HEAD 0 q).wr .DQ_TAIL 0 q).wr .DQ_CWR 0 q).wr .DQ_CRD 0 q).wr .DQ_STAT_NOTEXEC 0 q
      (s.setF .DQ_CTL_EN q).dqView q

/-! ## Function reset -/

/-- The queues of a function. -/
def State.fnQueues (s : State) (n : Nat) : List Nat := (List.range 64).filter fun q => s.rd .DM_QCFG_FUNC q = n

/-- The operation in flight of a queue is squashed (R373): what it has written in whole 64-byte blocks stays, no entry
follows, and the descriptor is pending again. How far it has come is a free value. The abort of a key operation brings a re-mask round
(R398). -/
def State.squash (s : State) (q : Nat) : State :=
  let n := s.rd .DM_QCFG_FUNC q
  match (s.dqu q).fly with
  | none => s
  | some o =>
    let run := o.started && o.fate.isNone && o.stop.isNone
    let r := s.opData n o
    let m := if dOp o.desc = 0x31 then r.bytes else min r.bytes (s.outReach n o.desc)
    let s := if run && (r.status = 0 || r.status = 3) then
        let t := (s.freshened).storeRun { area := r.area }
        t.storeRun (s.opCut n o (64 * (s.fresh % (m / 64 + 1))))
      else s
    let s := s.setDq q { s.dqu q with fly := none, ring := (o.idx, o.desc, o.jseq) :: (s.dqu q).ring }
    let s := ((s.unstage q).useView.inc .DM_CNT_SQUASH).dqView q
    s.when o.slot.isSome State.remaskRound

/-- The reset of function `n` starts (R373). -/
def State.startFnReset (s : State) (n : Nat) : State :=
  if bit (s.rd .DM_RSTBUSY) n then s
  else
    let s := (s.putBit .DM_RSTBUSY n true).setF .DF_STAT_RESET n
    s.each ((s.fnQueues n).filter fun q => s.flag .DM_QCFG_RSTMODE q) State.squash

/-- FUNCTION_RESET (R373): a write of DM_FRESET, open to every world that may write the managing block (R376). -/
def execFunctionReset (n : Nat) (s : State) : Out := s.running <| .next ((s.answer .none).startFnReset (n % 32))

/-- DRAIN_TIMEOUT (R373): 2 ms after a drain reset, what is still in flight is squashed. -/
def execDrainTimeout (n : Nat) (s : State) : Out := s.running <|
  let n := n % 32
  .next <| if !bit (s.rd .DM_RSTBUSY) n then s
  else s.each ((s.fnQueues n).filter fun q => (s.dqu q).fly.isSome) fun s q => (s.squash q).setF .DQ_STAT_DRAINTO q

/-- The descriptors of a queue returned as not executed (R374). -/
def State.returnPending (s : State) (q : Nat) : State :=
  let l := (s.dqu q).ring
  let s := s.each l fun s e => s.complete e.2.2
  let s := (s.setDq q { s.dqu q with ring := [] }).clrF .DQ_CTL_EN q
  ((s.wr .DQ_STAT_NOTEXEC l.length q).inc .DM_CNT_NOTEXEC 0 l.length).dqView q

/-- FUNCTION_RESET_DONE (R352, R374). -/
def execFunctionResetDone (n : Nat) (s : State) : Out := s.running <|
  let n := n % 32
  .next <| if !bit (s.rd .DM_RSTBUSY) n || s.inflOf n ≠ 0 then s
  else
    let s := s.each (s.fnQueues n) State.returnPending
    let s := ((s.putBit .DM_RSTBUSY n false).clrF .DF_STAT_RESET n).putBit .DM_RSTDONE n true
    ((s.setF .DM_STAT_RSTDONE).setF .DF_INT_RSTDONE n).releaseLocks (0x20 + n)

end Sys2Proof.Machine
end

