-- ==== Sys2Proof/Machine/GaugeOps.lean ====
section
/-!
DEFINITION. Shared operations of Gauge acquisition: exact fractions and rounding (R103), frame layouts (R89 to R92),
interpolation (R93), entry of a frame (R95, R96), opening and close of a turn (R97, R98).
-/
namespace Sys2Proof.Machine

/-! ## Fractions -/

/-- A fraction with a positive denominator. -/
structure Frac where
  n : Int
  d : Nat := 1
  deriving DecidableEq, Repr

namespace Frac
def add (a b : Frac) : Frac := ⟨a.n * b.d + b.n * a.d, a.d * b.d⟩
def neg (a : Frac) : Frac := ⟨-a.n, a.d⟩
def sub (a b : Frac) : Frac := a.add b.neg
def mul (a b : Frac) : Frac := ⟨a.n * b.n, a.d * b.d⟩

/-- Rounded to nearest, ties away from zero (R103). -/
def round (a : Frac) : Int :=
  let m : Int := ((2 * a.n.natAbs + a.d) / (2 * a.d) : Nat)
  if a.n < 0 then -m else m

/-- `a ≤ b`. -/
def le (a b : Frac) : Bool := a.n * b.d ≤ b.n * a.d
end Frac

/-- `n / d`; where `d` is zero the manual states no result (`Config.divZero`). -/
def ratio (site : Nat) (n d : Int) : Frac :=
  if d = 0 then ⟨Config.divZero site n, 1⟩ else if d < 0 then ⟨-n, d.natAbs⟩ else ⟨n, d.natAbs⟩

/-- "No value" of an INTEGER24 quantity (R92, R102). -/
abbrev noVal : Int := -8388608

/-- Saturation at the limits of INTEGER24 (R103). -/
abbrev sat24 (x : Int) : Int := max (-8388607) (min 8388607 x)

/-- Assignment to an INTEGER24: the rounded value, and whether it saturated (R103). -/
def asg (q : Frac) : Int × Bool := (sat24 q.round, q.round ≠ sat24 q.round)

/-- The word of a signed value (sign-extended to 32 bits). -/
abbrev word32 (x : Int) : List Nat := leBytes 4 (ofInt 32 x)

/-! ## Places -/

/-- Base of half `h` of the acquisition buffer (R98). -/
abbrev halfBase (h : Nat) : Nat := gaugeSram + h * 0x40000

/-- Board number: channel and node. -/
abbrev boardOf (ch node : Nat) : Nat := 128 * ch + node

/-- Address of a board table entry (R99). -/
abbrev boardAddr (b : Nat) : Nat := gaugeSram + 0x80000 + 8 * b

/-- The board of a cell map entry (R82). -/
abbrev cellBoard (e : Nat) : Nat := boardOf (bits e 12 4) (bits e 5 7)

/-- Half `h`'s turn. -/
abbrev State.gt (s : State) (h : Nat) : GTurn := s.gauge.turns.getD h {}
abbrev State.setGt (s : State) (h : Nat) (t : GTurn) : State :=
  { s with gauge := { s.gauge with turns := s.gauge.turns.set h t } }

/-- A count and its GA_STAT bit. -/
abbrev State.gaCount (s : State) (f st : Fld) : State := (s.inc f).setF st

/-- The cell entries of a cell map register array with VALID as given, those that are 0 left out, in ascending index. -/
def State.cellRegs (s : State) (f : Fld) (valid : Bool := true) : List (Nat × Nat) :=
  s.regs.filterMap fun e => if e.1.1 = f && bit e.2 23 == valid then some (e.1.2, e.2) else none

/-- The maps in force (R84). -/
def State.mapsNow (s : State) : Maps :=
  ⟨s.cellRegs .GA_CELLMAP, (List.range 24).map (s.rd .GA_STRMAP ·), (List.range 24).map (s.rd .GA_SRCMAP ·), []⟩

/-- The plan of a channel in a plan word (R85). -/
abbrev planOf (w k : Nat) : Nat := bits w (2 * k) 2

/-! ## Frames -/

/-- A frame as Gauge reads it. -/
structure GFrame where
  kind : Nat                   -- FMT: 2 X8, 3 F2, 4 current
  async : Bool := false
  turn : Nat := 0
  who : Nat := 0               -- node, or source
  part : Nat := 0
  slots : List (Nat × Bool × Bool × List Int) := [] -- (slot, invalid, balancing, samples)
  temps : List (Nat × Int) := []
  status : Nat := 0
  sat : Bool := false
  tick : Nat := 0
  stamps : List Nat := []
  deriving DecidableEq, Repr

/-- A 24-bit field. -/
abbrev u24 (d : List Nat) (i : Nat) : Nat := leVal ((d.drop i).take 3)
abbrev i24 (d : List Nat) (i : Nat) : Int := toInt 24 (u24 d i)
abbrev u16 (d : List Nat) (i : Nat) : Nat := leVal ((d.drop i).take 2)

/-- Eight samples from byte `i` on. -/
def samples (d : List Nat) (i : Nat) : List Int := (List.range 8).map fun k => i24 d (i + 3 * k)

/-- Eight stamps from byte `i` on. -/
def stamps8 (d : List Nat) (i : Nat) : List Nat := (List.range 8).map fun k => u24 d (i + 3 * k)

/-- The stamps ascend strictly. -/
def ascending : List Nat → Bool
  | a :: b :: r => a < b && ascending (b :: r)
  | _ => true

/-- TICK and stamps of an asynchronous frame are well formed (R93). -/
def asyncOk (tick : Nat) (st : List Nat) : Bool := tick ≠ 0 && ascending st

/-- An X8 sample frame (R89). -/
def parseX8 (f : CanFrame) : Option GFrame :=
  let d := f.data
  let b0 := d.getD 0 0
  let b1 := d.getD 1 0
  let n := b0 % 16
  let async := bit b1 7
  let nt := bits b1 4 3
  let base := if async then 50 else 24
  let st := stamps8 d 26
  if f.fmt ≠ 2 || f.sec || 4 < nt || b1 % 16 ≠ 0 || 127 < d.getD 5 0 || d.getD 11 0 ≠ 0 || d.length ≠ base + 24 * (n + 1)
      || (async && !asyncOk (u16 d 24) st) then none
  else some { kind := 2, async := async, turn := u24 d 2, who := d.getD 5 0,
              slots := (List.range (n + 1)).map fun sl => (sl, bit (u16 d 6) sl, bit (u16 d 8) sl, samples d (base + 24 * sl)),
              temps := (List.range nt).map fun i => (i, i24 d (12 + 3 * i)),
              status := d.getD 10 0, tick := if async then u16 d 24 else 0, stamps := st }

/-- An F2 sample frame (R90). One with ASYNC = 0 and PART 4 to 7 is malformed: R90 gives PART 0 to 3 there and no rule says what
another does; so is a synchronous one, and a synchronous current frame, whose TICK is not zero (DESIGN CHOICE, log entry 86). -/
def parseF2 (f : CanFrame) : Option GFrame :=
  let d := f.data
  let b0 := d.getD 0 0
  let b1 := d.getD 1 0
  let g := bits b0 2 2
  let async := bit b1 7
  let part := bits b1 4 3
  let sa := d.getD 6 0
  let sb := d.getD 7 0
  let st := stamps8 d 32
  let tick := u16 d 62
  if f.fmt ≠ 1 || d.length ≠ 64 || b0 % 4 ≠ 0 || (!async && 3 < part) || 127 < d.getD 5 0 || 31 < sa || sa % 4 ≠ g
      || (sb ≠ 0xFF && (async || 31 < sb || sb % 4 ≠ g || sb = sa)) || 3 < d.getD 59 0 || d.getD 61 0 ≠ 0
      || (if async then !asyncOk tick st else tick ≠ 0) then none
  else some { kind := 3, async := async, turn := u24 d 2, who := d.getD 5 0, part := part + 8 * g,
              slots := (sa, bit b1 2, bit b1 0, samples d 8)
                :: (if sb = 0xFF then [] else [(sb, bit b1 3, bit b1 1, samples d 32)]),
              temps := if u24 d 56 = 0x800000 then [] else [(d.getD 59 0, i24 d 56)],
              status := d.getD 60 0, tick := tick, stamps := st }

/-- A string current frame (R91). -/
def parseCur (f : CanFrame) : Option GFrame :=
  let d := f.data
  let b1 := d.getD 1 0
  let async := bit b1 7
  let tick := u16 d 6
  let st := stamps8 d 32
  if f.fmt ≠ 1 || d.length ≠ (if async then 64 else 32) || d.getD 0 0 % 16 ≠ 0 || b1 % 64 ≠ 0 || 31 < d.getD 5 0
      || (if async then !asyncOk tick st || leVal ((d.drop 56).take 8) ≠ 0 else tick ≠ 0) then none
  else some { kind := 4, async := async, turn := u24 d 2, who := d.getD 5 0, slots := [(0, false, false, samples d 8)],
              sat := bit b1 6, tick := tick, stamps := st }

/-- Test 1 of R95. -/
def parseGauge (f : CanFrame) : Option GFrame :=
  match f.data.getD 0 0 / 16 with
  | 2 => parseX8 f
  | 3 => parseF2 f
  | 4 => parseCur f
  | _ => none

/-- The planned angles of a turn (R86). -/
def plannedAngles (angle0 : Nat) : List Nat := (List.range 8).map fun k => (angle0 + k * 0x200000) % 2 ^ 24

/-- One sample interpolated onto angle `a` (R93): `b` the extended angles of the samples `x`. R93 says `rounded to nearest` alone:
ties go away from zero and the result saturates as R103 has it of the pass; where `a` equals an inner `b j`, the lower
`j` is picked (DESIGN CHOICE, log entry 87). -/
def interp (b x : List Int) (a : Int) : Int :=
  let g (l : List Int) (j : Nat) : Int := l.getD j 0
  if a < g b 0 - 0x200000 || g b 7 + 0x200000 < a then noVal
  else
    let j := if a < g b 0 then 0 else if g b 7 < a then 6
      else ((List.range 7).find? fun j => g b j ≤ a && a ≤ g b (j + 1)).getD 0
    if g x j = noVal || g x (j + 1) = noVal then noVal
    else sat24 (Frac.add ⟨g x j, 1⟩ (ratio 1 ((g x (j + 1) - g x j) * (a - g b j)) (g b (j + 1) - g b j))).round

/-- The samples of a frame on the planned angles: as they are, or interpolated (R93). Without the SOF angle of the
reference frame no sample has a value (DESIGN CHOICE, log entry 87). -/
def State.onAngles (s : State) (k : Nat) (t : GTurn) (f : GFrame) (x : List Int) : List Int :=
  if !f.async then x
  else match s.mr.refAngles.find? fun e => e.1 == k && e.2.1 == f.turn with
  | none => List.replicate 8 noVal
  | some (_, _, sof) =>
    let b := f.stamps.map fun st => (Frac.add ⟨sof, 1⟩ (ratio 1 ((st * f.tick * 2 ^ 24 : Nat) : Int) ((s.rd .MR_PERIOD * 10 : Nat) : Int))).round
    (plannedAngles t.angle0).map fun a => interp b x (a : Nat)

/-- Bits [7:0] of a flag word: sample k has a value. -/
def validBits (x : List Int) (invalid : Bool) : Nat :=
  if invalid then 0 else ((List.range 8).filter fun k => x.getD k noVal ≠ noVal).foldl (fun a k => a + 2 ^ k) 0

/-- Samples and flag word of one cell or source into a half. -/
def State.putSamples (s : State) (sampleAddr flagAddr : Nat) (x : List Int) (flags : Nat) : State :=
  (s.setBytes sampleAddr (x.flatMap word32)).setBytes flagAddr (leBytes 2 flags)

/-- DUPDIFF set in the flag word of a cell, or of source `c - 0x2000`. -/
def State.dupDiff (s : State) (h c : Nat) : State :=
  let a := if c < 0x2000 then halfBase h + 0x30400 + 2 * c else halfBase h + 0x33400 + 2 * (c - 0x2000)
  let v := leVal (s.bytesAt a 2)
  if bit v 10 then s else s.setBytes a (leBytes 2 (v + 1024))

/-- A byte of a board table entry changed (R99). -/
def State.boardByte (s : State) (b i : Nat) (g : Nat → Nat) : State :=
  let a := boardAddr b + i
  s.setBytes a [g (s.byteAt a) % 256]

/-- One slot of an entered sample frame (R95): ignored where no cell is mapped, a duplicate where a frame of another key
has filled it (R96). -/
def State.enterSlot (s : State) (h k : Nat) (t : GTurn) (f : GFrame) (slot : Nat × Bool × Bool × List Int) : State × List Nat :=
  let (sl, inv, bal, x0) := slot
  match t.maps.cells.find? fun e => bits e.2 0 5 == sl && cellBoard e.2 == boardOf k f.who with
  | none => (s, [])
  | some (c, _) =>
    if t.keys.any fun e => e.2.2.contains c then (s.dupDiff h c, [])
    else
      let x := s.onAngles k t f x0
      (s.putSamples (halfBase h + 32 * c) (halfBase h + 0x30400 + 2 * c) x
        (validBits x inv + 256 * b2n f.async + 512 * b2n bal + 2048 * b2n (f.kind = 3)), [c])

/-- A frame that passes all tests entered into half `h` (R95). -/
def State.enterFrame (s : State) (h k key : Nat) (t : GTurn) (f : GFrame) (data : List Nat) : State :=
  if f.kind = 4 then
    let i := f.who
    let x0 := (f.slots.headD (0, false, false, [])).2.2.2
    let x0 := if bit (t.maps.srcs.getD i 0) 4 then x0.map fun v => if v = noVal then v else -v else x0
    let x := s.onAngles k t f x0
    let s := s.putSamples (halfBase h + 0x30000 + 32 * i) (halfBase h + 0x33400 + 2 * i) x
      (validBits x false + 256 * b2n f.async + 512 * b2n f.sat)
    s.setGt h { t with keys := t.keys ++ [(key, data, [0x2000 + i])] }
  else
    let r := f.slots.foldl (fun (a : State × List Nat) sl => let r := a.1.enterSlot h k t f sl; (r.1, a.2 ++ r.2)) (s, [])
    let b := boardOf k f.who
    let s := r.1.each f.temps fun s p => s.setBytes (halfBase h + 0x34000 + 4 * (4 * b + p.1)) (word32 p.2)
    let s := (s.boardByte b 3 fun _ => f.status).setBytes (boardAddr b + 4) (leBytes 3 f.turn)
    let s := s.boardByte b 7 fun v => v / 2 * 2 + b2n f.async
    s.setGt h { t with keys := t.keys ++ [(key, data, r.2)], temps := t.temps ++ f.temps.map fun p => 4 * b + p.1 }

/-- The phase time at which a turn closes (R94). -/
def State.closeTime (s : State) (turn : Nat) : Nat := ((turn + 1) * 2 ^ 24 + s.rd .GA_GUARD) % 2 ^ 48

/-- A frame that Weir steers to Gauge: the five tests of R95 in order, and its entry. -/
def State.gaugeEnter (s : State) (k : Nat) (cf : CanFrame) : State :=
  if !(s.flag .GA_CTL_EN || s.flag .GA_STAT_ACTIVE) || !s.phaseRuns then s
  else match parseGauge cf with
  | none => s.gaCount .GA_CNT_BAD .GA_STAT_BAD
  | some f =>
    let b := boardOf k f.who
    let note (s : State) (i : Nat) (g : Nat → Nat) : State := if f.kind = 4 then s else s.boardByte b i g
    let h := f.turn % 2
    let t := s.gt h
    let at' := cut 48 cf.eof
    let onTime := !(later at' (s.closeTime f.turn)) && at' ≠ s.closeTime f.turn
    if !(t.isOpen && t.turn = f.turn && onTime && (later at' (f.turn * 2 ^ 24) || at' = f.turn * 2 ^ 24)) then
      if !onTime || later (s.mr.turn * 2 ^ 24) (f.turn * 2 ^ 24) then
        note (s.gaCount .GA_CNT_LATE .GA_STAT_LATE) 1 fun v => min 255 (v + 1)
      else s.inc .GA_CNT_STRAY
    else
      let plan := planOf t.plans k
      let srcOk := f.who < 24 && bit (t.maps.srcs.getD f.who 0) 31 && bits (t.maps.srcs.getD f.who 0) 0 4 == k
      let planOk := match f.kind with
        | 2 => plan == 1
        | 3 => plan == 2 && f.part / 8 == f.turn % 4
        | _ => (plan == 1 || plan == 2) && srcOk
      if !planOk || (f.async && !s.flag .GA_CTL_ASYNC_OK) then
        note (s.gaCount .GA_CNT_MISMATCH .GA_STAT_BAD) 7 fun v => if bit v 2 then v else v + 4
      else if f.kind ≠ 4 && !(t.maps.cells.any fun e => cellBoard e.2 == b) then s.gaCount .GA_CNT_STRAY .GA_STAT_BAD
      else
        let key := if f.kind = 4 then 0x400000 + f.who else 0x100000 * (f.kind - 2) + 16 * b + f.part % 8
        match t.keys.find? (·.1 == key) with
        | some (_, data, filled) =>
          let s := note (s.gaCount .GA_CNT_DUP .GA_STAT_DUP) 2 fun v => min 255 (v + 1)
          if data = cf.data then s else (s.inc .GA_CNT_DUPDIFF).each filled (·.dupDiff h ·)
        | none => s.enterFrame h k key t f cf.data

/-! ## Opening and close -/

/-- Some turn is open. -/
def State.gaActive (s : State) : State := s.putF .GA_STAT_ACTIVE (s.gauge.turns.any (·.isOpen))

/-- At angle 0 of turn `n` Gauge opens the turn (R98): `plans` and `angle0` are those of the turn before (R85). -/
def State.gaugeOpen (s : State) (n plans angle0 : Nat) (mapNew : Bool) : State :=
  let h := n % 2
  let b := halfBase h
  let s := (((s.wipe (b + 0x30400) 0x3000).wipe (b + 0x33400) 0x30).wipe (b + 0x3C000) 0x1C).setBytes (b + 0x34000)
    ((List.replicate 8192 (word32 noVal)).flatten)
  (s.setGt h { turn := n, isOpen := true, maps := s.mapsNow, mapNew := mapNew, plans := plans, angle0 := angle0 }).gaActive

/-- The boards that have valid mapped cells. -/
def Maps.boards (m : Maps) : List Nat := (m.cells.map fun e => cellBoard e.2).eraseDups

/-- A frame of the board was entered. -/
def GTurn.seen (t : GTurn) (b : Nat) : Bool := t.keys.any fun e => e.1 < 0x400000 && e.1 / 16 % 65536 == b

/-- The runs of turns without a source at a close (R97, R119): they go on where the turn before was closed too, with the string valid
on the same source in both. -/
def State.sourceRuns (s : State) (t : GTurn) : State :=
  let next := s.rd .GA_LAST_TURN == (t.turn + 2 ^ 24 - 1) % 2 ^ 24
  s.each (List.range 24) fun s str =>
    let e := t.maps.strs.getD str 0
    let src := bits e 23 5
    let old : GStr := ((s.gauge.strs.find? (·.1 == str)).map (·.2)).getD {}
    let gone := if !bit e 31 || t.keys.any (·.1 == 0x400000 + src) then 0
      else if next && old.src = src + 1 then old.gone + 1 else 1
    let new : GStr := { old with gone := gone, src := if bit e 31 then src + 1 else 0 }
    if new = old then s else { s with gauge := { s.gauge with strs := (str, new) :: s.gauge.strs.filter (·.1 ≠ str) } }

/-- The close of the turn in half `h` (R94, R97): missing boards and sources, the header; its pass may start. -/
def State.gaugeClose (s : State) (h : Nat) : State :=
  let t := s.gt h
  let s := s.sourceRuns t
  let boards := t.maps.boards
  let gone := boards.filter fun b => !t.seen b
  let srcs := (List.range 24).filter fun i => bit (t.maps.srcs.getD i 0) 31 && !(t.keys.any (·.1 == 0x400000 + i))
  let s := s.each gone fun s b => s.boardByte b 0 fun v => min 255 (v + 1)
  let s := s.each (boards.filter t.seen) fun s b => s.boardByte b 0 fun _ => 0
  let lim := s.rd .GA_SILENT
  let newly := gone.filter fun b => lim ≤ s.byteAt (boardAddr b) && !s.gauge.silent.contains b
  let back := boards.filter fun b => t.seen b && s.gauge.silent.contains b
  let s := s.each (gone.filter fun b => lim ≤ s.byteAt (boardAddr b)) fun s b => s.boardByte b 7 fun v => if bit v 1 then v else v + 2
  let s := s.each back fun s b => s.boardByte b 7 fun v => if bit v 1 then v - 2 else v
  let silent := s.gauge.silent.filter (fun b => !back.contains b) ++ newly
  let s := { s with gauge := { s.gauge with silent := silent } }
  let s := s.putF .GA_STAT_SILENT (silent.any fun b => bit (s.byteAt (boardAddr b + 7)) 1)
  let s := (s.inc .GA_CNT_MISSING 0 gone.length).inc .GA_CNT_CURMISS 0 srcs.length
  let s := s.when (!gone.isEmpty || !srcs.isEmpty) (·.setF .GA_STAT_MISSING)
  let s := s.setBytes (halfBase h + 0x3C000) (leBytes 4 t.turn ++ leBytes 8 s.stamp ++ leBytes 4 t.keys.length
    ++ leBytes 4 gone.length ++ leBytes 4 srcs.length ++ leBytes 4 (t.modes + 8 * b2n t.mapNew))
  let s := (s.setGt h { t with isOpen := false }).gaActive
  s.wr .GA_LAST_TURN t.turn

end Sys2Proof.Machine
end

