-- ==== Sys2Proof/Machine/GaugePass.lean ====
section
/-!
DEFINITION. The Gauge pass (R102 to R128): impedance, estimator, thermal estimate, medians, screening and alarms, and
the results in Gauge SRAM.
-/
namespace Sys2Proof.Machine

/-! ## Parameters (R109) -/

/-- A word of profile `p` of the bank in force. -/
def State.param (s : State) (p off : Nat) : Nat :=
  cut 24 (s.word (gaugeSram + 0x84000 + 0x2000 * s.rd .GE_PARAM_SEL_BANK + 0x800 * p + off))

/-- The OCV point `j` of breakpoint `b`, µV. -/
abbrev State.ocvPoint (s : State) (p b j : Nat) : Int := s.param p ((33 * b + j) * 4)

/-- Temperature breakpoint `b`. -/
abbrev State.tbrk (s : State) (p b : Nat) : Int := toInt 24 (s.param p (0x210 + 4 * b))

/-- The open-circuit voltage at point `j`, linear in temperature between the enclosing breakpoints (R108). -/
def State.ocvAt (s : State) (p j : Nat) (t : Int) : Frac :=
  if t ≤ s.tbrk p 0 then ⟨s.ocvPoint p 0 j, 1⟩
  else if s.tbrk p 3 ≤ t then ⟨s.ocvPoint p 3 j, 1⟩
  else
    let b := ((List.range 3).find? fun b => s.tbrk p b ≤ t && t ≤ s.tbrk p (b + 1)).getD 2
    let lo := s.tbrk p b
    let hi := s.tbrk p (b + 1)
    Frac.add ⟨s.ocvPoint p b j, 1⟩ (ratio 2 ((s.ocvPoint p (b + 1) j - s.ocvPoint p b j) * (t - lo)) (hi - lo))

/-- The open-circuit voltage at a state of charge in 2^-48 (R108). -/
def State.ocv (s : State) (p : Nat) (soc : Int) (t : Int) : Frac :=
  let x := (max 0 (min (2 ^ 48) soc)).toNat
  let j := min 31 (x / 2 ^ 43)
  let a := s.ocvAt p j t
  Frac.add a (Frac.mul (Frac.sub (s.ocvAt p (j + 1) t) a) ⟨x - j * 2 ^ 43, 2 ^ 43⟩)

/-- The lowest state of charge (2^-48) with the open-circuit voltage `y`, clamped to 0 and 1 (R111). -/
def State.socOf (s : State) (p : Nat) (y : Frac) (t : Int) : Nat :=
  let v (j : Nat) : Frac := s.ocvAt p j t
  match (List.range 32).find? fun j => ((v j).le y && y.le (v (j + 1))) || ((v (j + 1)).le y && y.le (v j)) with
  | some j =>
    let num := Frac.sub y (v j)
    let den := Frac.sub (v (j + 1)) (v j)
    let f : Frac := if den.n = 0 then ⟨0, 1⟩ else ratio 3 (num.n * den.d) (num.d * den.n)
    min (2 ^ 48) (j * 2 ^ 43 + (Frac.mul f ⟨2 ^ 43, 1⟩).round.toNat)
  | none => if y.le (v 0) then 0 else 2 ^ 48

/-- Terms of the exponential series in 192 fraction bits: `acc + t (1 - x/(k+1) (1 - …))` with alternating sign. -/
def expTerms (x : Nat) : Nat → Nat → Nat → Int → Int
  | 0, _, _, acc => acc
  | n + 1, k, t, acc =>
    let t' := t * x / (2 ^ 192 * (k + 1))
    expTerms x n (k + 1) t' (if k % 2 = 0 then acc - t' else acc + t')

/-- `exp(-n/d)` to 24 fraction bits (R108). -/
def expNeg (n d : Nat) : Nat :=
  if d = 0 || 64 * d ≤ n then 0
  else (Frac.round ⟨expTerms (n * 2 ^ 192 / d) 400 0 (2 ^ 192) (2 ^ 192), 2 ^ 168⟩).toNat

/-! ## Values of a cell -/

/-- Mean and second harmonic of eight samples, with the saturation of the assignments (R104). -/
def harmonic (x : List Int) : Int × Int × Int × Bool :=
  let g (k : Nat) : Int := x.getD k 0
  let m := asg ⟨x.sum, 8⟩
  let re := asg ⟨g 0 - g 2 + g 4 - g 6, 4⟩
  let im := asg ⟨-(g 1) + g 3 - g 5 + g 7, 4⟩
  (m.1, re.1, im.1, m.2 || re.2 || im.2)

/-- What a string gives its cells in a pass. -/
structure StrIn where
  s : Nat                      -- string number
  prof : Nat
  cap : Nat
  have' : Bool                 -- all eight current samples valid
  hold : Bool                  -- IHOLD
  stale : Bool                 -- current missing for longer
  i : Int                      -- mean current used
  ir : Int
  ii : Int
  low : Bool                   -- ripple below GE_IMIN
  ka : Nat
  kb : Nat
  dt : Nat                     -- length of the turn, MILL ticks
  init : Bool                  -- every cell of the string is initialised
  modes : Nat                  -- HOLDOVER, RELOCK, INT during the turn
  fstep : Bool

/-- What the pass forms for a cell. -/
structure CellOut where
  c : Nat
  cell : GCell
  words : List Int             -- the ten values of R126 (SOC as published)
  flags : Nat
  seen : Nat                   -- bit k: check k is observed but for its median (R117)
  vlow : Int
  vhigh : Int
  zok : Bool
  zdev : Option Int := none
  deriving DecidableEq, Repr

/-- The reading of a sensor in the pass: usable where it is no older than GE_TSTALE turns (R112). -/
def State.sensor (s : State) (idx : Nat) : Option Int :=
  match s.gauge.sens.find? (·.1 == idx) with
  | some (_, r, age) => if age ≤ s.rd .GE_TSTALE then some r else none
  | none => none

/-- The sensors of a cell with their coupling class (R113). -/
def State.sensorsOf (s : State) (c : Nat) : List (Nat × Nat) :=
  ((List.range 2).map fun m =>
    let w := leVal (s.bytesAt (gaugeSram + 0x88000 + 16 * c + 8 + 2 * m) 2)
    (4 * boardOf (bits w 0 4) (bits w 4 7) + bits w 11 2, bits w 13 3)).filter (·.2 ≠ 0)

/-- The neighbours of a cell with their coupling class (R113). -/
def State.neighboursOf (s : State) (c : Nat) : List (Nat × Nat) :=
  ((List.range 4).map fun n =>
    let w := leVal (s.bytesAt (gaugeSram + 0x88000 + 16 * c + 2 * n) 2)
    (bits w 0 13, bits w 13 3)).filter (·.2 ≠ 0)

/-- SOC as published, UNSIGNED24, and whether it saturates (R103, R126). -/
def socWord (soc : Nat) : Nat × Bool :=
  let r := (Frac.round ⟨soc, 2 ^ 24⟩).toNat
  (min 0xFFFFFF r, 0xFFFFFF < r)

/-- The states of a cell as its record in the half of the last pass holds them (R108): soc with its kept fraction where the record
has the soc that was published, the relaxation voltages, the thermal estimate and the filtered impedance. -/
def State.fromRecord (s : State) (e : Nat × GCell) : Nat × GCell :=
  let a := gaugeSram + 0xD0000 + s.rd .GE_DONE_TURN % 2 * 0x48000 + 0x30 * e.1
  let w (o : Nat) : Int := toInt 24 (cut 24 (s.word (a + o)))
  let soc := cut 24 (s.word (a + 0x14))
  let zf := bit (s.word (a + 0x28)) 3
  (e.1, { e.2 with soc := if soc = (socWord e.2.soc).1 then e.2.soc else soc * 2 ^ 24, va := w 0x18, vb := w 0x1C, test := w 0x20, zf := zf,
                   zfr := if zf then w 0x0C else e.2.zfr, zfi := if zf then w 0x10 else e.2.zfi })

/-- Cell state kept of cell `c`. -/
def oldCell (l : List (Nat × GCell)) (c : Nat) : GCell := ((l.find? (·.1 == c)).map (·.2)).getD {}

/-- The thermal update of R112. `prev` holds the estimates of the previous pass, `m` the maps of the turn. -/
def State.thermal (s : State) (m : Maps) (prev : List (Nat × GCell)) (n : StrIn) (c : Nat) (t0 : Int) (rz : Int) : Int × Bool :=
  let g (m : Nat) : Int := s.param n.prof (0x244 + 4 * m)
  let ripple2 : Int := if n.have' then n.ir * n.ir + n.ii * n.ii else 0
  -- heat in W: (1e-4 A)^2 * 2^-16 * 1 nOhm
  let heat : Frac := ⟨(2 * n.i * n.i + ripple2) * s.param n.prof 0x240 * rz, 2 * 2 ^ 16 * 10 ^ 17⟩
  let nb := ((s.neighboursOf c).filter fun e => e.1 ≠ c && m.cells.any (·.1 == e.1) && (oldCell prev e.1).place ≠ 0).map fun e =>
    g e.2 * (t0 - (oldCell prev e.1).test)
  let sn := (s.sensorsOf c).filterMap fun e => (s.sensor e.1).map fun r => g e.2 * (t0 - r)
  let flow : Frac := ⟨nb.sum + sn.sum, 10 ^ 7⟩
  let net := Frac.sub heat flow
  asg (Frac.add ⟨t0, 1⟩ (ratio 4 (n.dt * net.n) (s.param n.prof 0x23C * net.d * 10 ^ 4)))

/-- One cell in the pass (R104 to R112, R114). INIT is set too while an initialisation is repeated for want of VOK
(DESIGN CHOICE, log entry 102). -/
def State.cellPass (s : State) (h : Nat) (t : GTurn) (prev : List (Nat × GCell)) (n : StrIn) (c entry : Nat) : CellOut :=
  let old := oldCell prev c
  let place := entry + 2 ^ 24 * (n.s + 1)
  let fl := leVal (s.bytesAt (halfBase h + 0x30400 + 2 * c) 2)
  let x := (List.range 8).map fun k => toInt 32 (s.word (halfBase h + 32 * c + 4 * k))
  let ok := (List.range 8).filter fun k => bit fl k
  let vals := ok.map fun k => x.getD k 0
  let nv := ok.length
  let vok := 4 ≤ nv
  let f2skip := planOf t.plans (bits entry 12 4) = 2 && bits entry 0 5 % 4 ≠ t.turn % 4
  let mean := if vok then asg ⟨vals.sum, nv⟩ else (noVal, false)
  let lowest := vals.foldl min (vals.headD noVal)
  let highest := vals.foldl max (vals.headD noVal)
  let har := harmonic x
  let holdover := bit n.modes 0
  let noref := bit n.modes 2
  -- turn impedance (R105)
  let zok := nv = 8 && n.have' && !n.low && !noref
  let d := n.ir * n.ir + n.ii * n.ii
  let vr := har.2.1
  let vi := har.2.2.1
  let zr := if zok then asg (ratio 5 (10000000 * (vr * n.ir + vi * n.ii)) d) else (noVal, false)
  let zi := if zok then asg (ratio 6 (10000000 * (vi * n.ir - vr * n.ii)) d) else (noVal, false)
  -- filter (R106)
  let fed := zok && !holdover && !n.fstep
  let step (f z : Int) : Int × Bool := asg (Frac.add ⟨f, 1⟩ ⟨z - f, 2 ^ s.rd .GE_ZFILT⟩)
  let zfr := if !fed then (old.zfr, false) else if old.zf then step old.zfr zr.1 else (zr.1, false)
  let zfi := if !fed then (old.zfi, false) else if old.zf then step old.zfi zi.1 else (zi.1, false)
  let zf := old.zf || fed
  let rser : Int := s.param n.prof 0x264
  -- initialisation (R111)
  let doInit := old.place ≠ place || old.again || n.init || s.gauge.all
  let sensT := (s.sensorsOf c).filterMap fun e => s.sensor e.1
  let t0 : Int := if !doInit then old.test else if sensT.isEmpty then 25000 else (asg ⟨sensT.sum, sensT.length⟩).1
  let base : GCell := if doInit then
      { place := place, test := t0, again := !vok, initLeft := if vok then s.rd .GE_INITTURNS else old.initLeft,
        soc := if vok && n.cap ≠ 0 then min (2 ^ 48 - 1) (s.socOf n.prof ⟨mean.1 * 10 ^ 7 - rser * n.i, 10 ^ 7⟩ t0) else 0 }
    else { old with place := place, zf := zf, zfr := zfr.1, zfi := zfi.1 }
  -- estimator (R108)
  let rs : Int := if base.zf then base.zfr else rser
  let eta : Int := if 0 < n.i then s.param n.prof 0x230 else 2 ^ 24
  let socR : Int := (Frac.add ⟨base.soc, 1⟩ (ratio 7 (eta * 2 ^ 24 * n.i * n.dt) (36 * n.cap * 10 ^ 12))).round
  let socP : Int := max 0 (min (2 ^ 48 - 1) socR)
  let relax (k : Nat) (r v : Int) : Int × Bool := asg ⟨k * v * 10 ^ 7 + r * (2 ^ 24 - k) * n.i, 2 ^ 24 * 10 ^ 7⟩
  let vaP := relax n.ka (s.param n.prof 0x220) base.va
  let vbP := relax n.kb (s.param n.prof 0x224) base.vb
  let vhat := asg (Frac.add (s.ocv n.prof socP old.test) ⟨rs * n.i + (vaP.1 + vbP.1) * 10 ^ 7, 10 ^ 7⟩)
  let e := asg ⟨mean.1 - vhat.1, 1⟩
  let clamp (v : Int) : Nat := (max 0 (min (2 ^ 48 - 1) v)).toNat
  let run := !doInit && n.cap ≠ 0 && !n.stale
  let corrected := run && vok
  let socC : Int := (Frac.add ⟨socP, 1⟩ ⟨s.param n.prof 0x234 * e.1 * 2 ^ 24, 1000⟩).round
  let vaC := asg (Frac.add ⟨vaP.1, 1⟩ ⟨s.param n.prof 0x238 * e.1, 2 ^ 24⟩)
  let est : GCell := if !run then (if n.cap = 0 then { base with soc := 0, va := 0, vb := 0 } else base)
    else if vok then { base with soc := clamp socC, va := vaC.1, vb := vbP.1, initLeft := base.initLeft - 1 }
    else { base with soc := clamp socP, va := vaP.1, vb := vbP.1 }
  -- thermal estimate (R112)
  let tUpd := !n.stale
  let tNew := if tUpd then s.thermal t.maps prev n c t0 (if base.zf then base.zfr else rser) else (t0, false)
  let cell := { est with test := tNew.1 }
  let resid : Int := if corrected then e.1 else noVal
  let initF := cell.initLeft ≠ 0 || cell.again
  let satF := mean.2 || zr.2 || zi.2 || (fed && (zfr.2 || zfi.2)) || (run && (socP ≠ socR || vaP.2 || vbP.2 || vhat.2 || (vok && (e.2 || vaC.2)))) || tNew.2
    || (zok && har.2.2.2) || (socWord cell.soc).2
  let bal := bit fl 9
  let staleF := n.stale || n.cap = 0
  let socOut : Int := (socWord cell.soc).1
  let flags := b2n vok + 2 * b2n (4 ≤ nv && nv < 8) + 4 * b2n zok + 8 * b2n cell.zf + 16 * b2n (n.have' && n.low) + 32 * b2n (!n.have')
    + 64 * b2n n.hold + 128 * b2n staleF + 256 * b2n initF + 512 * b2n (bit fl 8) + 1024 * b2n bal + 2048 * b2n (bit fl 10)
    + 4096 * b2n holdover + 8192 * b2n (bit n.modes 1) + 16384 * b2n n.fstep + 32768 * b2n noref + 65536 * b2n satF
    + 131072 * b2n ((s.sensorsOf c).all fun e => (s.sensor e.1).isNone) + 262144 * b2n f2skip
  let impObs := fed && !doInit && !(n.have' && n.low) && n.have'
  let seen := b2n impObs + 2 * b2n (vok && !bal) + 4 * b2n tUpd + 8 * b2n (corrected && !initF) + 16 * b2n vok + 32 * b2n vok
    + 64 * b2n tUpd + 128 * b2n impObs
  { c := c, cell := cell, flags := flags, seen := seen, vlow := lowest, vhigh := highest, zok := zok,
    words := [mean.1, zr.1, zi.1, if cell.zf then cell.zfr else noVal, if cell.zf then cell.zfi else noVal, socOut, cell.va, cell.vb,
      cell.test, resid] }

/-! ## Strings -/

/-- The quantity of a check: re(zf), mean, thermal estimate, soc. -/
def CellOut.value (o : CellOut) (k : Nat) : Int := o.words.getD (match k with | 0 => 3 | 1 => 0 | 2 => 8 | _ => 5) 0

/-- The median of R116: position ⌈N / 2⌉ of the ascending order, where N ≥ GE_MEDMIN. -/
def State.median (s : State) (k : Nat) (l : List CellOut) : Option Int :=
  let v := ((l.filter fun o => bit o.seen k).map (·.value k)).mergeSort (· ≤ ·)
  if v.length < s.rd .GE_MEDMIN || v.isEmpty then none else v[(v.length + 1) / 2 - 1]?

/-- An alarm event (R120, R122). -/
structure Alarm where
  check : Nat
  str : Nat
  cell : Nat
  isRaise : Bool
  value : Int
  reflex : Bool                -- the first cell of the string, or the string: what Floodgate sees (R121)
  deriving DecidableEq, Repr

/-- The alarm ring has no room (R122, R480). -/
def State.almFull (s : State) : Bool :=
  let w := (s.rd .GE_ALM_WR + 1) % 512
  w == s.rd .GE_ALM_RD_S || (s.flag .GE_CTL_NRING && w == s.rd .GE_ALM_RD_N)

/-- An alarm event written, its interrupts raised, and a class 3 raise presented to Floodgate (R120 to R122). -/
def State.alarm (s : State) (a : Alarm) : State :=
  let cls := bits (s.rd .GE_ACLASS) (2 * a.check) 2
  let w1 := a.cell + 2 ^ 13 * a.str + 2 ^ 18 * a.check + 2 ^ 22 * cls + 2 ^ 24 * b2n a.isRaise
  let s := if s.almFull then (s.inc .GE_ALM_OVF).setF .GE_STAT_ALMOVF
    else
      let w := s.rd .GE_ALM_WR
      let s := (s.setBytes (gaugeSram + 0x162000 + 16 * w) (leBytes 8 s.stamp ++ leBytes 4 w1 ++ word32 a.value)).wr .GE_ALM_WR ((w + 1) % 512)
      (s.when (1 ≤ cls) (·.raise 21)).when (2 ≤ cls) (·.raise 22)
  if cls = 3 && a.isRaise && a.reflex then s.fireAll [⟨1, a.check, a.str, false⟩] else s

/-- Raise and clear conditions of check `k` for a value, with the hysteresis rule of R117. -/
def State.checkCond (s : State) (k : Nat) (v : Int) : Bool × Bool :=
  let lim : Int := s.rd .GE_LIM k
  let hys : Int := if lim ≤ (s.rd .GE_HYS k : Int) then lim - 1 else s.rd .GE_HYS k
  if k = 5 then (v < lim, lim + hys ≤ v) else (lim < v, v ≤ lim - hys)

/-- Persistence of one check of one cell (R118): the new cell, and whether it raised (some true) or cleared. -/
def State.persist (s : State) (k : Nat) (c : GCell) (v : Int) : GCell × Option Bool :=
  let (up, down) := s.checkCond k v
  let isUp := bit c.raised k
  let n := c.cnt.getD k 0 + 1
  let hold := if isUp then down else up
  let lim := if isUp then s.rd .GE_PER_CLR k else s.rd .GE_PER_SET k
  if !hold then ({ c with cnt := c.cnt.set k 0 }, none)
  else if n < lim then ({ c with cnt := c.cnt.set k n }, none)
  else ({ c with cnt := c.cnt.set k 0, raised := if isUp then c.raised - 2 ^ k else c.raised + 2 ^ k }, some (!isUp))

/-- The value of check `k` for a cell, with the deviation that the record shows (R117, R122). -/
def checkValue (o : CellOut) (med : Nat → Option Int) (k : Nat) : Option (Int × Int) :=
  match k with
  | 0 => o.zdev.map fun z => (z, z)
  | 1 | 3 => (med k).map fun m => (((o.value k - m).natAbs : Int), o.value k - m)
  | 2 => (med 2).map fun m => (o.value 2 - m, o.value 2 - m)
  | 4 => some (o.vhigh, o.vhigh)
  | 5 => some (o.vlow, o.vlow)
  | 6 => some (o.value 2, o.value 2)
  | _ => some (o.value 0, o.value 0)

/-- Screening of one cell in ascending check code: the events come with the state they are written in (R118, R123).
`up k` counts the cells of the string that have check `k` raised before this one is judged. -/
def State.screenCell (s : State) (str : Nat) (med : Nat → Option Int) (o : CellOut) (raised : List Nat) :
    State × CellOut × List Nat × Nat :=
  (List.range 8).foldl (fun (a : State × CellOut × List Nat × Nat) k =>
    let (s, o, up, n) := a
    match if bit o.seen k then checkValue o med k else none with
    | none => a
    | some (v, shown) =>
      match s.persist k o.cell v with
      | (c, none) => (s, { o with cell := c }, up, n)
      | (c, some r) =>
        let before := up.getD k 0
        let s := s.alarm ⟨k, str, o.c, r, shown, before = 0⟩
        (s, { o with cell := c }, up.set k (if r then before + 1 else before - 1), n + 1)) (s, o, raised, 0)

/-- The words of R126: each 24-bit value sign-extended, SOC like the others. -/
def CellOut.record (o : CellOut) : List Nat :=
  let z : Nat := match o.zdev with
    | some v => ofInt 16 v
    | none => 0x8000
  (o.words.flatMap fun v => word32 (toInt 24 (ofInt 24 v))) ++ leBytes 4 o.flags ++ word32 (toInt 24 (o.cell.raised + 256 * z))

/-- The entry of a cell in the estimator state area (R125). -/
def GCell.stateBytes (c : GCell) : List Nat :=
  padTo 16 ((Config.estimatorBytes (c.soc % 2 ^ 24) c.cnt c.initLeft).map (· % 256))

/-- ZDEV of a cell (R117): INTEGER16, saturating. -/
def zdevOf (med : Option Int) (o : CellOut) : CellOut × Bool :=
  match med with
  | none => (o, false)
  | some m =>
    if !bit o.seen 0 then (o, false)
    else
      let z := (ratio 8 ((o.value 0 - m) * 1024) m).round
      let z' := max (-32767) (min 32767 z)
      ({ o with zdev := some z', flags := if z ≠ z' && !bit o.flags 16 then o.flags + 65536 else o.flags }, z ≠ z')

/-- Results of a string pass gathered so far. -/
structure PassAcc where
  st : State
  cells : List (Nat × GCell) := []  -- cell states after the pass
  digest : List Nat := []           -- string records
  strs : List Nat := []             -- valid strings
  count : Nat := 0
  zcount : Nat := 0
  events : Nat := 0

/-- Extremes over a list, "no value" over no cell. -/
def minOf (d : Int) : List Int → Int
  | [] => d
  | a :: r => r.foldl min a
def maxOf (d : Int) : List Int → Int
  | [] => d
  | a :: r => r.foldl max a

/-- String-level checks of R119. -/
def State.stringChecks (s : State) (t : GTurn) (str : Nat) (old new : GStr) (inp : StrIn) (src : Nat) : State × GStr × Nat :=
  let lowestCell (b : Nat) : Option Nat := (t.maps.cells.find? fun e => cellBoard e.2 == b).map (·.1)
  let e := t.maps.strs.getD str 0
  let mine (b : Nat) : Bool := (lowestCell b).any fun c => bits e 0 13 ≤ c && c < bits e 0 13 + bits e 13 10
  let silent := s.gauge.silent
  let up := s.gauge.silentUp
  let boards := ((silent.filter (!up.contains ·) ++ up.filter (!silent.contains ·)).filter mine).mergeSort (· ≤ ·)
  let r := boards.foldl (fun (a : State × Bool) b =>
    (a.1.alarm ⟨8, str, 0x1FFF, silent.contains b, ((b / 128 + 16 * (b % 128) : Nat) : Int), !a.2⟩, a.2 || silent.contains b)) (s, up.any mine)
  let s := { r.1 with gauge := { r.1.gauge with silentUp := up.filter (!boards.contains ·) ++ boards.filter silent.contains } }
  let miss := s.rd .GA_SILENT ≤ new.gone
  let up9 := bit old.raised 9
  let (s, u9, n9) := if miss && !up9 then (s.alarm ⟨9, str, 0x1FFF, true, (src : Int), true⟩, true, 1)
    else if up9 && inp.have' then (s.alarm ⟨9, str, 0x1FFF, false, (src : Int), true⟩, false, 1) else (s, up9, 0)
  let up10 := bit old.raised 10
  let rip : Int := max inp.ir.natAbs inp.ii.natAbs
  let (s, u10, n10) := if 50 ≤ new.low && !up10 then (s.alarm ⟨10, str, 0x1FFF, true, rip, true⟩, true, 1)
    else if up10 && inp.have' && !inp.low then (s.alarm ⟨10, str, 0x1FFF, false, rip, true⟩, false, 1) else (s, up10, 0)
  (s, { new with raised := 512 * b2n u9 + 1024 * b2n u10 }, boards.length + n9 + n10)

/-- One string in the pass (R123). VMED, ZMED and TMED read 0x80_0000 and SMED 0 also where fewer than GE_MEDMIN cells count and no
median is formed (DESIGN CHOICE, log entry 102). A string that is not valid breaks its run of turns without ripple (R119). -/
def PassAcc.str (a : PassAcc) (h : Nat) (t : GTurn) (prev : List (Nat × GCell)) (allInit : Bool) (str : Nat) : PassAcc :=
  let s := a.st
  let e := t.maps.strs.getD str 0
  if !bit e 31 then
    { a with st := { s with gauge := { s.gauge with strs := s.gauge.strs.map fun x => if x.1 = str then (str, { x.2 with low := 0 }) else x } } }
  else
    let src := bits e 23 5
    let fl := leVal (s.bytesAt (halfBase h + 0x33400 + 2 * src) 2)
    let x := (List.range 8).map fun k => toInt 32 (s.word (halfBase h + 0x30000 + 32 * src + 4 * k))
    let got := fl % 256 = 255
    let old : GStr := ((s.gauge.strs.find? (·.1 == str)).map (·.2)).getD {}
    let har := harmonic x
    let i := if got then har.1 else old.lastI
    let ir := har.2.1
    let ii := har.2.2.1
    let imin : Int := s.rd .GE_IMIN
    let lowR := got && ir * ir + ii * ii < imin * imin
    let miss := if got then 0 else old.miss + 1
    let cap := s.rd .GE_STRCFG_CAP str
    let prof := s.rd .GE_STRCFG_PROF str
    let cfg := cap + 65536 * prof
    let exp' (off : Nat) : Nat :=
      let tau := s.param prof off
      if tau = 0 then (Config.divZero 9 t.len).toNat % (2 ^ 24 + 1) else expNeg t.len (tau * 100000)
    let inp : StrIn :=
      { s := str, prof := prof, cap := cap, have' := got, hold := !got && miss ≤ s.rd .GE_HOLDI, stale := !got && s.rd .GE_HOLDI < miss,
        i := i, ir := ir, ii := ii, low := lowR, ka := exp' 0x228, kb := exp' 0x22C, dt := t.len, init := allInit || old.cfg ≠ cfg,
        modes := t.modes, fstep := s.gauge.fstep }
    let mine := t.maps.cells.filter fun c => bits e 0 13 ≤ c.1 && c.1 < bits e 0 13 + bits e 13 10
    let outs0 := mine.map fun c => s.cellPass h t prev inp c.1 c.2
    let med (k : Nat) : Option Int := s.median k outs0
    let outs := outs0.map fun o => (zdevOf (med 0) o).1
    let skip := (List.range 4).any fun k => (med k).isNone
    let s := (s.when skip (·.setF .GE_STAT_MEDSKIP)).when (outs.any fun o => bit o.flags 16) (·.setF .GE_STAT_SAT)
    let screen := s.flag .GE_CTL_SCREEN
    let up0 := (List.range 8).map fun k => (outs.filter fun o => bit o.cell.raised k).length
    let r := if !screen then (s, outs, up0, 0)
      else outs.foldl (fun (b : State × List CellOut × List Nat × Nat) o =>
        let q := b.1.screenCell str med o b.2.2.1
        (q.1, b.2.1 ++ [q.2.1], q.2.2.1, b.2.2.2 + q.2.2.2)) (s, [], up0, 0)
    let s := r.1
    let outs := r.2.1
    let new : GStr := { old with lastI := i, miss := miss, cfg := cfg, low := if lowR then (if allInit then 0 else old.low) + 1 else 0 }
    let (s, new, n) := if screen then s.stringChecks t str old new inp src else (s, new, 0)
    let vok := outs.filter fun o => bit o.flags 0
    let w (v : Int) : List Nat := word32 v
    let fedv := (outs.filter fun o => o.cell.zf).map (·.value 0)
    let ts := outs.map (·.value 2)
    let socs := outs.map (·.value 3)
    let up8 := s.gauge.silentUp.any fun b => (t.maps.cells.find? fun c => cellBoard c.2 == b).any fun c =>
      bits e 0 13 ≤ c.1 && c.1 < bits e 0 13 + bits e 13 10
    let vsum := Frac.round ⟨(vok.map (·.value 1)).sum, 1000⟩
    let sflags := ((List.range 8).filter fun k => r.2.2.1.getD k 0 ≠ 0).foldl (fun acc k => acc + 2 ^ k) 0 + 256 * b2n up8 + new.raised
      + 65536 * b2n (!got) + 131072 * b2n inp.hold + 262144 * b2n skip + 524288 * b2n lowR
    let rec' := leBytes 4 (vok.length + 65536 * (outs.filter (·.zok)).length) ++ w (if got then har.1 else noVal)
      ++ w (if got then ir else noVal) ++ w (if got then ii else noVal) ++ w (max (1 - 2 ^ 31) (min (2 ^ 31 - 1) vsum))
      ++ w ((med 1).getD noVal) ++ w (minOf noVal ((outs.filter fun o => o.vlow ≠ noVal).map (·.vlow)))
      ++ w (maxOf noVal ((outs.filter fun o => o.vhigh ≠ noVal).map (·.vhigh)))
      ++ w ((med 0).getD noVal) ++ w (maxOf noVal fedv) ++ w ((med 2).getD noVal) ++ w (maxOf noVal ts) ++ w ((med 3).getD 0)
      ++ w (minOf 0 socs) ++ w (maxOf 0 socs) ++ leBytes 4 sflags
    let s := s.setBytes (gaugeSram + 0x160000 + h * 0x800 + 0x40 * str) rec'
    let s := s.each outs fun s o => s.setBytes (gaugeSram + 0xD0000 + h * 0x48000 + 0x30 * o.c) o.record
    let s := s.each outs fun s o => s.setBytes (gaugeSram + 0xB8000 + 16 * o.c) o.cell.stateBytes
    { st := { s with gauge := { s.gauge with strs := (str, new) :: s.gauge.strs.filter (·.1 ≠ str) } },
      cells := a.cells ++ outs.map fun o => (o.c, o.cell), digest := a.digest ++ rec', strs := a.strs ++ [str], count := a.count + outs.length,
      zcount := a.zcount + (outs.filter (·.zok)).length, events := a.events + r.2.2.2 + n }

/-- The readings kept grow older with every turn, passed or not, in the sensor table too (R112, R125). -/
def State.sensorsAge (s : State) : State :=
  let sens := s.gauge.sens.map fun e => (e.1, (e.2.1, min 255 (e.2.2 + 1)))
  ({ s with gauge := { s.gauge with sens := sens } }).each sens fun s e => s.setBytes (gaugeSram + 0x164003 + 4 * e.1) [e.2.2]

/-- The sensor table after a turn (R112, R125). -/
def State.sensorTick (s : State) (h : Nat) (t : GTurn) : State :=
  let read (i : Nat) : Int := toInt 32 (s.word (halfBase h + 0x34000 + 4 * i))
  let now := t.temps.eraseDups.filter fun i => read i ≠ noVal
  let kept := s.gauge.sens.filter fun e => !now.contains e.1
  let sens := now.map (fun i => (i, (read i, 0))) ++ kept
  let s := { s with gauge := { s.gauge with sens := sens } }
  s.each sens fun s e => s.setBytes (gaugeSram + 0x164000 + 4 * e.1) (leBytes 3 (ofInt 24 e.2.1) ++ [e.2.2])

/-- The pass over the closed turn in half `h` (R123 to R128), but for its end. -/
def State.gaugePass (s : State) (h : Nat) : State :=
  let t := s.gt h
  let hdr := gaugeSram + 0x161000 + h * 0x100
  let whole := s.gauge.lastPassed = some ((t.turn + 2 ^ 24 - 1) % 2 ^ 24)
  let diff := (t.len : Int) - t.prevLen
  let fstep := t.prevLen ≠ 0 && s.rd .GE_DFMAX * t.prevLen < 65536 * diff.natAbs
  let s := { s with gauge := { s.gauge with fstep := fstep, wait := none } }
  let s := (s.setF .GE_STAT_BUSY).setWord (hdr + 0x2C) 0
  let s := s.sensorTick h t
  let prev := s.gauge.cells.map s.fromRecord
  let start := s.stamp
  let s := (s.wipe (gaugeSram + 0xD0000 + h * 0x48000) 0x48000).wipe (gaugeSram + 0x160000 + h * 0x800) 0x800
  let acc := (List.range 24).foldl (fun a str => a.str h t prev (!whole) str) ({ st := s } : PassAcc)
  let s := acc.st
  let recs := (acc.cells.mergeSort fun a b => a.1 ≤ b.1).flatMap fun c => s.bytesAt (gaugeSram + 0xD0000 + h * 0x48000 + 0x30 * c.1) 0x30
  let pflags := (t.modes % 2) + 2 * b2n (bit t.modes 1) + 4 * b2n (bit t.modes 2) + 8 * b2n fstep + 16 * s.rd .GE_PARAM_SEL_BANK
    + 32 * b2n s.gauge.geomNew + 64 * b2n t.mapNew + 128 * b2n (!s.flag .GE_CTL_SCREEN)
  let s := s.setBytes hdr (leBytes 4 t.turn ++ leBytes 8 start)
  let s := s.setBytes (hdr + 0x14) (leBytes 4 t.len ++ leBytes 4 acc.count ++ leBytes 4 acc.zcount ++ leBytes 4 acc.events ++ leBytes 4 pflags
    ++ leBytes 4 (crc32 (recs ++ acc.digest)))
  { s with gauge := { s.gauge with cells := acc.cells, lastPassed := some t.turn, all := false, geomNew := false,
                                   passed := s.gauge.passed.set h ((acc.cells.map (·.1)).mergeSort (· ≤ ·), acc.strs),
                                   running := some (h, acc.count, acc.zcount, acc.events) } }

/-- The end of the pass (R124, R128): END, then DONE, GE_DONE, the pass time and the interrupt. The time in MILL ticks is rounded
down from GAUGE cycles (DESIGN CHOICE, log entry 102). -/
def State.gaugeDone (s : State) : State :=
  match s.gauge.running with
  | none => s
  | some (h, n, _, _) =>
    let hdr := gaugeSram + 0x161000 + h * 0x100
    let turn := (s.gt h).turn
    let time := (6080 + 1190 * ceilDiv n 8) / 4
    let s := (s.setBytes (hdr + 0x0C) (leBytes 8 s.stamp)).setBytes (hdr + 0x2C) (leBytes 4 (turn + 2 ^ 31))
    let s := ((((s.wr .GE_DONE_TURN turn).setF .GE_DONE_VALID).wr .GE_PASS_TIME time).wr .GE_PASS_MAX (max time (s.rd .GE_PASS_MAX))).clrF .GE_STAT_BUSY
    let s := ((s.setF .GE_STAT_DONE).raise 19).raise 20
    let s := { s with gauge := { s.gauge with running := none } }
    s.decision 5 (s.bytesAt (hdr + 0x28) 4)

end Sys2Proof.Machine
end

