-- ==== Sys2Proof/Machine/Gauge.lean ====
section
/-!
DEFINITION. Commands and events of Gauge: map commit (R84), geometry (R113), initialisation (R111) and the pass (R123,
R128); and what takes effect at a turn boundary.
-/
namespace Sys2Proof.Machine

/-! ## Maps -/

/-- The shadows of the maps. -/
def State.mapShadows (s : State) : Maps :=
  ⟨s.cellRegs .GA_CELLMAP_SH, (List.range 24).map (s.rd .GA_STRMAP_SH ·), (List.range 24).map (s.rd .GA_SRCMAP_SH ·),
   s.cellRegs .GA_CELLMAP_SH false⟩

/-- A valid string of a map covers cell index `c`. -/
def strHolds (e c : Nat) : Bool := bit e 31 && bits e 0 13 ≤ c && c < bits e 0 13 + bits e 13 10

/-- The first failing condition of R84 in table order: (code, index). Of the two cells of a DUPLICATE and of the two strings of
an OVERLAP, INDEX names the higher one of the first pair found (DESIGN CHOICE, log entry 85). -/
def Maps.check (m : Maps) (pending : Bool) : Nat × Nat :=
  let str (i : Nat) : Nat := m.strs.getD i 0
  let place (e : Nat) : Nat := bits e 0 16
  let valid := (List.range 24).filter fun i => bit (str i) 31
  let first (i : Nat) : Nat := bits (str i) 0 13
  let stop (i : Nat) : Nat := first i + bits (str i) 13 10
  let dup := m.cells.find? fun c => m.cells.any fun d => d.1 < c.1 && place d.2 == place c.2
  let orphan := m.cells.find? fun c => !(valid.any fun i => strHolds (str i) c.1)
  let past := valid.find? fun i => 6144 < stop i || valid.any fun j => j < i && max (first i) (first j) < min (stop i) (stop j)
  let count := valid.find? fun i => bits (str i) 13 10 = 0 || 512 < bits (str i) 13 10
  let src := valid.find? fun i => 24 ≤ bits (str i) 23 5 || !bit (m.srcs.getD (bits (str i) 23 5) 0) 31
  match dup, orphan, past, count, src with
  | some c, _, _, _, _ => (1, c.1)
  | _, some c, _, _, _ => (2, c.1)
  | _, _, some i, _, _ => (3, i)
  | _, _, _, some i, _ => (4, i)
  | _, _, _, _, some i => (5, i)
  | _, _, _, _, _ => if pending then (6, 0) else (0, 0)

/-- MAP_COMMIT (R84): a write of 1 to GA_MAP_CMD.COMMIT. What comes into force at the boundary are the shadows as they stand at
the accepted commit, which the check has seen (DESIGN CHOICE, log entry 85). -/
def execMapCommit (s : State) : Out := s.running <|
  let m := s.mapShadows
  let (code, index) := m.check (s.flag .GA_MAP_RESULT_PENDING)
  let s := ((s.answer .none).wr .GA_MAP_RESULT_CODE code).wr .GA_MAP_RESULT_INDEX index
  .next <| if code = 0 then ({ s with gauge := { s.gauge with pend := some m } }).setF .GA_MAP_RESULT_PENDING |>.confWrite else s

/-- Accepted maps come into force at the boundary (R84). -/
def State.mapsInForce (s : State) : State × Bool :=
  match s.gauge.pend with
  | none => (s, false)
  | some m =>
    let s := s.each (s.mapsNow.cells ++ s.cellRegs .GA_CELLMAP false) fun s c => s.wr .GA_CELLMAP 0 c.1
    let s := s.each (m.cells ++ m.idle) fun s c => s.wr .GA_CELLMAP c.2 c.1
    let s := s.each (List.range 24) fun s i => (s.wr .GA_STRMAP (m.strs.getD i 0) i).wr .GA_SRCMAP (m.srcs.getD i 0) i
    (({ s with gauge := { s.gauge with pend := none } }).clrF .GA_MAP_RESULT_PENDING, true)

/-! ## Geometry and initialisation -/

/-- GEOMETRY_COMMIT (R113): a write of 1 to GE_GEOM_CMD.COMMIT. -/
def execGeometryCommit (s : State) : Out := s.running <|
  let s := s.answer .none
  .next <| if s.flag .GE_GEOM_CMD_PENDING then s.setF .GE_STAT_REFUSED else (s.setF .GE_GEOM_CMD_PENDING).confWrite

/-- The shadow becomes the table in force (R113). -/
def State.geometryCopy (s : State) : State :=
  if s.flag .GE_GEOM_CMD_PENDING then
    let s := s.setBytes (gaugeSram + 0x88000) (s.bytesAt (gaugeSram + 0xA0000) 0x18000)
    { s with gauge := { s.gauge with geomNew := true } }.clrF .GE_GEOM_CMD_PENDING
  else s

/-- REINIT_CELL (R111): a cell index written to GE_REINIT; an index that is no cell is out of range. -/
def execReinitCell (c : Nat) (s : State) : Out := s.running <|
  let s := s.answer .none
  .next <| if 6144 ≤ c then s.setF .GE_STAT_REFUSED
  else
    let old := oldCell s.gauge.cells c
    { s with gauge := { s.gauge with cells := (c, { old with again := true }) :: s.gauge.cells.filter (·.1 ≠ c) } }

/-- REINIT_ALL (R111): GE_REINIT.ALL. -/
def execReinitAll (s : State) : Out := s.running <|
  .next { s.answer .none with gauge := { s.gauge with all := true } }

/-! ## The pass -/

/-- GAUGE_PASS_START (R123): the pass over the closed turn that waits. In OFF and ACQUIRE none runs (R81). -/
def execGaugePassStart (s : State) : Out := s.running <|
  .next <| match s.gauge.wait with
  | some turn => if !s.phaseRuns || s.gauge.running.isSome || (s.gt (turn % 2)).turn ≠ turn then s else s.gaugePass (turn % 2)
  | none => s

/-- GAUGE_PASS_DONE (R124, R128): the pass ends. -/
def execGaugePassDone (s : State) : Out := s.running <| .next s.gaugeDone

/-- The close of the turn before the present one, with its record (R94, R305): the pass may start once it is agreed;
a standby waits for the active unit's record. -/
def State.turnClose (s : State) : State :=
  let n := (s.mr.turn + 2 ^ 24 - 1) % 2 ^ 24
  let h := n % 2
  let t := s.gt h
  if t.isOpen && t.turn = n then
    let s := s.gaugeClose h
    if s.pairMode && s.brState = 4 then s
    else s.releaseInput (.close n t.keys.length) (.gaugeClose n)
  else s

end Sys2Proof.Machine
end

