-- ==== Sys2Proof/Machine/Weir.lean ====
section
/-!
DEFINITION. Commands and events of Weir and the transceivers: routing (R238 to R243), Ethernet encapsulation (R244 to
R246), sleep rounds and wake (R247 to R257).
-/
namespace Sys2Proof.Machine

/-! ## Ethernet -/

/-- The ACF_CAN message of a frame (R244). The association is valid while MR_ASSOC_CTL.EN keeps it, and the turn of the stamp
counts from the turn that it names (DEDUCED, log entry 84). -/
def State.acf (s : State) (k : Nat) (f : CanFrame) : List Nat :=
  let valid := s.mr.assocValid && s.flag .MR_ASSOC_CTL_EN && !s.flag .MR_ASSOC_CTL_STEP && f.eof / 2 ^ 48 ≠ 0
  let turns : Int := toInt 24 ((f.eof / 2 ^ 24 + 2 ^ 24 - s.rd .MR_ASSOC_TURN % 2 ^ 24) % 2 ^ 24)
  let len : Int := s.rd .MR_PERIOD * 10
  let ns := (s.mr.assocW + turns * len + (Frac.round ⟨(f.eof % 2 ^ 24 : Nat) * len, 2 ^ 24⟩)).toNat
  let pad := (4 - f.data.length % 4) % 4
  let quads := (16 + f.data.length + pad) / 4
  beBytes 2 (2 ^ 9 + quads)
    ++ [64 * pad + 32 * b2n valid + 16 * b2n f.rtr + 8 * b2n f.ide + 4 * b2n f.brs + 2 * b2n (f.fmt = 1) + b2n f.esi, k]
    ++ beBytes 8 (if valid then ns else 0) ++ beBytes 4 f.id ++ padTo (f.data.length + pad) f.data

/-- The messages gathered for stream `n` whose routes still deliver to it at handover; the others are dropped (R243). -/
def State.streamHandover (s : State) (n : Nat) : State × List (List Nat) :=
  (s.strm n).gathered.foldl (fun (a : State × List (List Nat)) m =>
    match m.2.2 with
    | some (k, f) =>
      if s.stillRouted k f fun r => bit r.w3 4 && bits r.w3 5 6 == n then (a.1, a.2 ++ [m.2.1]) else (a.1.revoked, a.2)
    | none => (a.1, a.2 ++ [m.2.1])) (s, [])

/-- A PDU with the messages gathered for stream `n` leaves through P8 (R244). -/
def State.sendBundle (s : State) (n : Nat) : State :=
  let (s, ms) := s.streamHandover n
  let st := s.strm n
  if ms.isEmpty then (s.setStrm n { st with gathered := [] }).weView
  else
    let w (i : Nat) : Nat := st.words.getD i 0
    let body := ms.flatten
    let id := leBytes 4 (w 0) ++ leBytes 4 (w 1)
    let dmac := leBytes 4 (w 2) ++ leBytes 2 (cut 16 (w 3))
    let vid := bits (w 3) 16 12
    let pcp := bits (w 3) 28 3
    let pdu := [0x82] ++ beBytes 2 (2 ^ 15 + body.length) ++ [st.seq % 256] ++ id ++ body
    let b := dmac ++ beBytes 6 s.ownMac ++ beBytes 2 0x22F0 ++ pdu
    let b := if vid = 0 then b else ethTag b vid pcp
    let s := s.setStrm n { st with seq := (st.seq + 1) % 256, gathered := [] }
    (s.fromP8 (padTo (max 60 b.length) b)).weView

/-- A frame delivered to egress stream `n` (R244), `rev` where its entry revokes: XL frames have no encapsulation. -/
def State.toStream (s : State) (k n gen : Nat) (rev : Bool) (f : CanFrame) : State :=
  if f.fmt = 2 then s.inc .WE_CNT_XLETH
  else
    let st := s.strm n
    let m := s.acf k f
    let e := (gen, m, if rev then some (k, f) else none)
    if !bit (st.words.getD 4 0) 0 || bit (st.words.getD 4 0) 1 then s
    else if bits (st.words.getD 5 0) 0 7 = 0 then (s.setStrm n { st with gathered := st.gathered ++ [e] }).sendBundle n
    else
      let size := ((st.gathered.map fun e => e.2.1.length).sum) + 12
      let s := if 1476 < size + m.length then s.sendBundle n else s
      let st := s.strm n
      (s.setStrm n { st with gathered := st.gathered ++ [e] }).weView

/-- BUNDLE_TIMEOUT (R244): BUNDLE µs have passed since the first message of the PDU of stream `n`. -/
def execBundleTimeout (n : Nat) (s : State) : Out := s.running <| .next (s.sendBundle (n % 64))

/-! ## Routing -/

/-- A frame dropped at a channel (R240). -/
abbrev State.fwdDrop (s : State) : State := (s.inc .WE_CNT_FWDDROP).setF .WE_STAT_FWDDROP

/-- The lookup and the deliveries of a frame that arrived on channel `k` (R238, R240). -/
def State.route1 (s : State) (k : Nat) (f : CanFrame) : State :=
  let s := s.vote k f
  if !s.flag .WE_CTL_EN then s.inc .WE_CNT_MISS
  else match s.lookup k f with
  | none => if s.flag .WE_CTL_MISS then (s.inc .WE_CNT_MISS).ringWrite k 0 f 0 true else s.inc .WE_CNT_MISS
  | some (idx, r) =>
    let gen := s.rd .WE_GEN
    let e : CanElem := { frame := f, origin := 1, gen := gen, srcCh := k, revoke := bit r.w3 11, route := idx }
    let dst := (List.range 16).filter fun d => bit r.w2 (16 + d) && d ≠ k
    let s := s.each dst fun s d => s.place d (bits r.w1 29 3) e State.fwdDrop
    let s := if bit r.w3 1 then s.ringWrite k (bits r.w3 2 2) f idx false else s
    let s := if bit r.w3 0 then s.gaugeEnter k f else s
    let s := if bit r.w3 4 then s.toStream k (bits r.w3 5 6) gen (bit r.w3 11) f else s
    s.weView

/-- The staged frame that Weir takes next: the earliest EOF stamp, then the lowest channel (R238). -/
def State.nextStaged (s : State) : Option (Nat × CanFrame) :=
  ((List.range 16).filterMap fun k => ((s.cn k).stage.head?).map fun f => (k, f)).foldl (fun m e => match m with
    | some b => if later (cut 48 b.2.eof) (cut 48 e.2.eof) then some e else m
    | none => some e) none

/-- The next staged frame routed; in a pair its record goes first (R302). -/
def State.routeNext (s : State) : State :=
  match s.nextStaged with
  | none => s
  | some (k, f) =>
    let s := s.setCn k { s.cn k with stage := (s.cn k).stage.drop 1 }
    (s.sendRec (.can k f)).route1 k f

/-- FRAME_ROUTE (R238): Weir takes the next frame handed to it. -/
def execFrameRoute (s : State) : Out := s.running <| .next s.routeNext

/-- Frames stamped before a phase time are routed (R94). -/
def State.routeBefore (s : State) (t : Nat) : Nat → State
  | 0 => s
  | n + 1 =>
    match s.nextStaged with
    | some (_, f) => if later t (cut 48 f.eof) then State.routeBefore s.routeNext t n else s
    | none => s

/-- GAUGE_TURN_CLOSE (R94, R97): the angle reaches the guard after angle 0. -/
def execGaugeTurnClose (s : State) : Out := s.running <|
  let s := if s.phaseRuns then s.waitAngle (s.rd .GA_GUARD) else s
  let n := (s.mr.turn + 2 ^ 24 - 1) % 2 ^ 24
  .next (s.routeBefore (s.closeTime n) 64).turnClose

/-! ## Tables -/

/-- The words of a routing or stream entry in force (R239, R246). -/
def State.weirEntry (s : State) (streams : Bool) (i : Nat) : List Nat :=
  if streams then (s.strm (i % 64)).words
  else
    let e := NMap.at {} s.route i
    [e.w0, e.w1, e.w2, e.w3]

/-- The entry in force that WE_ENT_RDIDX names stands in WE_ENT_RD0 to 7 (R258). -/
def State.loadEntry (s : State) : State :=
  let l := s.weirEntry (s.flag .WE_ENT_RDIDX_TBL) (s.rd .WE_ENT_RDIDX_INDEX)
  s.each (List.range 8) fun s i => s.wr .WE_ENT_RD (l.getD i 0) i

/-- The outcome of WE_ENT_CMD (R241); an accepted one advances the generation (R242) and shows in WE_ENT_RD. -/
def State.weResult (s : State) (code : Nat) : State :=
  let s := s.wr .WE_ENT_RESULT_CODE code
  if code = 0 then ((s.wr .WE_GEN (s.rd .WE_GEN + 1)).weView).loadEntry.confWrite else s

/-- The routing entry of the staging words with its owning world. -/
def State.stagedRoute (s : State) (w : World) : RouteEntry :=
  ⟨s.rd .WE_STAGE 0, s.rd .WE_STAGE 1, s.rd .WE_STAGE 2,
   cut 12 (s.rd .WE_STAGE 3) + 2 ^ 28 * w.code + 2 ^ 31 * b2n (bit (s.rd .WE_STAGE 3) 31)⟩

/-- The stream entry is valid and belongs to another world. -/
def State.streamForeign (s : State) (w : World) (n : Nat) : Bool :=
  let x := (s.strm n).words.getD 4 0
  bit x 0 && !owns w (World.ofCode (bits x 2 2))

/-- A channel of a mask belongs to another world. -/
def State.chanForeign (s : State) (w : World) (m : Nat) : Bool := (List.range 16).any fun k => bit m k && !owns w (s.canWorld k)

/-- Why a routing commit is refused, in the order OWNER, FIELD, WORLD (R241). -/
def State.routeError (s : State) (w : World) (i : Nat) : Nat :=
  let old := NMap.at {} s.route i
  let e := s.stagedRoute w
  let w3 := s.rd .WE_STAGE 3
  let stream := bits w3 5 6
  if (bit old.w3 31 && !owns w (World.ofCode (bits old.w3 28 2))) || (bit w3 4 && s.streamForeign w stream) then 2
  else if bits w3 12 16 ≠ 0 || bit w3 30 || (bit w3 4 && bit ((s.strm stream).words.getD 4 0) 0 && bit ((s.strm stream).words.getD 4 0) 1) then 3
  else if s.chanForeign w (cut 16 e.w2) || s.chanForeign w (e.w2 / 65536)
      || (bit w3 1 && (List.range 16).any fun k => bit e.w2 k && !owns w (World.ofCode (s.rd .CAN_RINGCFG_WORLD (4 * k + bits w3 2 2))))
      || (bit w3 0 && w ≠ .safety) then 1
  else 0

/-- Why a stream commit is refused: OWNER, FIELD (R241, R246). The worlds of the channels of CHMASK are tested with each message
(R245). -/
def State.streamError (s : State) (w : World) (i : Nat) : Nat :=
  let g (n : Nat) : Nat := s.rd .WE_STAGE n
  if s.streamForeign w i then 2
  else if bit (g 3) 31 || bits (g 4) 4 4 ≠ 0 || bits (g 4) 11 5 ≠ 0 || bits (g 5) 7 25 ≠ 0 || 100 < bits (g 5) 0 7 || g 6 ≠ 0 || g 7 ≠ 0 then 3
  else 0

/-- ROUTE_ENTRY_COMMIT (R241, R246): WE_ENT_CMD with OP 0; `table` 0 routing, 1 stream. -/
def execRouteEntryCommit (who : Initiator) (table index : Nat) (s : State) : Out := s.asMaster who <|
  let s := s.answer .none
  let w := s.worldOf who
  .next <| if table % 2 = 0 then
    let i := index % 4096
    let c := s.routeError w i
    if c ≠ 0 then s.weResult c else ({ s with route := NMap.put {} s.route i (s.stagedRoute w) }).weResult 0
  else if 63 < index then s.weResult 4
  else
    let c := s.streamError w index
    if c ≠ 0 then s.weResult c
    else
      let ws := (List.range 8).map (s.rd .WE_STAGE ·)
      let w4 := ws.getD 4 0
      let s := s.sendBundle index
      (s.setStrm index { words := ws.set 4 (w4 - 4 * bits w4 2 2 + 4 * w.code) }).weResult 0

/-- ROUTE_ENTRY_CLEAR (R241): WE_ENT_CMD with OP 1. -/
def execRouteEntryClear (who : Initiator) (table index : Nat) (s : State) : Out := s.asMaster who <|
  let s := s.answer .none
  let w := s.worldOf who
  .next <| if table % 2 = 0 then
    let i := index % 4096
    let old := NMap.at {} s.route i
    if bit old.w3 31 && !owns w (World.ofCode (bits old.w3 28 2)) then s.weResult 2
    else ({ s with route := NMap.put {} s.route i {} }).weResult 0
  else if 63 < index then s.weResult 4
  else if s.streamForeign w index then s.weResult 2
  else ((s.sendBundle index).setStrm index {}).weResult 0

/-! ## Ingress from Ethernet -/

/-- One ACF message (R245): placed at the stream's level of channel bus_id, or dropped; one that could be placed is not where the
segment is shut (R247). -/
def State.acfIn (s : State) (n : Nat) (m : List Nat) : State :=
  let type := be m 0 2 / 2 ^ 9
  let brief := type = 2
  if type ≠ 1 && type ≠ 2 then s
  else
    let b2 := m.getD 2 0
    let pad := b2 / 64
    let k := m.getD 3 0 % 16
    let off := if brief then 8 else 16
    let id := cut 29 (be m (off - 4) 4)
    let len := m.length - off - pad
    let w (i : Nat) : Nat := (s.strm n).words.getD i 0
    let f : CanFrame := { id := id, ide := bit b2 3, rtr := bit b2 4, fmt := b2n (bit b2 1), brs := bit b2 2, esi := bit b2 0,
                          len := len, dlc := dlcOf (b2n (bit b2 1)) len, data := if bit b2 4 then [] else (m.drop off).take len }
    if !bit (bits (w 4) 16 16) k || 16 ≤ m.getD 3 0 % 32 || s.canWorld k ≠ World.ofCode (bits (w 4) 2 2) || !f.ok
        || !s.canTake k f then s.inc .WE_CNT_ETHDROP
    else if s.segShut k then s.inc .WE_CNT_ASLEEP
    else s.join k (bits (w 4) 8 3) { frame := f, origin := 1, gen := s.rd .WE_GEN, srcCh := k }

/-- The ACF messages of a PDU body in order. -/
def State.acfAll (s : State) (n : Nat) : Nat → List Nat → State
  | 0, _ => s
  | fuel + 1, b =>
    let len := 4 * (be b 0 2 % 2 ^ 9)
    if b.length < 4 || len = 0 || b.length < len then s
    else State.acfAll (s.acfIn n (b.take len)) n fuel (b.drop len)

/-- How many ACF messages a PDU body holds, of whatever type. -/
def acfCount : Nat → List Nat → Nat
  | 0, _ => 0
  | fuel + 1, b =>
    let len := 4 * (be b 0 2 % 2 ^ 9)
    if b.length < 4 || len = 0 || b.length < len then 0 else 1 + acfCount fuel (b.drop len)

/-- ETH_CAN_INGRESS (R238, R245): an NTSCF or TSCF PDU that Confluence has handed to Weir; its bytes from the subtype on. -/
def execEthCanIngress (pdu : List Nat) (s : State) : Out := s.running <|
  let s := s.taken 0x100
  let sub := pdu.getD 0 0
  let id := (pdu.drop 4).take 8
  let hit := s.stream.find? fun e => bit (e.2.words.getD 4 0) 0 && bit (e.2.words.getD 4 0) 1
    && leBytes 4 (e.2.words.getD 0 0) ++ leBytes 4 (e.2.words.getD 1 0) == id
  .next <| if sub ≠ 0x82 && sub ≠ 0x05 then s
  else match hit with
  | none => s
  | some (n, st) =>
    let seq := if sub = 0x82 then pdu.getD 3 0 else pdu.getD 2 0
    let len := if sub = 0x82 then be pdu 1 2 % 2 ^ 11 else be pdu 20 2
    let body := (pdu.drop (if sub = 0x82 then 12 else 24)).take len
    let s := if st.last.any fun l => (l + 1) % 256 ≠ seq then s.inc .WE_CNT_ETHSEQ else s
    let s := s.setStrm n { st with last := some seq }
    if s.flag .WE_CTL_EN then (s.acfAll n body.length body).weView
    else s.inc .WE_CNT_ETHDROP 0 (acfCount body.length body)

/-! ## Sleep and wake -/

/-- A write to a Weir field of the safety world, which the secure world may make too (R258, R379): the normal world's sets
REFUSED. -/
def State.weSafety (s : State) (who : Initiator) (g : State → State) : State :=
  if s.worldOf who ≠ .normal then g s else s.setF .WE_STAT_REFUSED

/-- SLEEP_REQUEST (R251): a write of 1 to WE_SLP_CTLs.REQ. -/
def execSleepRequest (who : Initiator) (n : Nat) (s : State) : Out := s.asMaster who <|
  let n := n % 8
  .next <| (s.answer .none).weSafety who fun s =>
    if (s.segChans n).isEmpty || (s.segChans n).any fun k => bit (s.rd .MR_REFCH) k then s.setF .WE_STAT_REFUSED
    else (s.setF .WE_SLP_CTL_REQ n).roundMay n

/-- INTENT_SEND_TIMEOUT (R251): intent or commit frames have not been sent on all channels within 10 ms. -/
def execIntentSendTimeout (n : Nat) (s : State) : Out := s.running <|
  let n := n % 8
  let p := (s.sg n).phase
  .next <| if p = 1 || p = 3 then
    let s := if p = 1 then s.each (s.segChans n) fun s k => s.each (List.range 8) fun s l =>
        let keep := (s.level k l).filter fun e => !(e.origin = 3 && e.srcCh = n && e.route = 1) || ((s.cn k).tx == some (.level l) && s.headElem k l == some e)
        (s.setLevel k l keep).revokeHeads k
      else s
    ((s.wakeFrames n).roundLists n [] []).roundRetry n 4
  else s

/-- VOTE_WINDOW_END (R251, R253, R256): all voters agreed and no node held, or the round is held. -/
def execVoteWindowEnd (n : Nat) (s : State) : Out := s.running <|
  let n := n % 8
  let g := s.sg n
  .next <| if g.phase ≠ 2 then s
  else
    let voters := (List.range 128).filter fun x => x ≠ 0 && bit (s.rd .XCVR_VOTERS (4 * n + x / 32)) (x % 32)
    if g.heldBy.isEmpty && voters.all fun x => g.agreed.contains x then
      let s := (s.setSg n { g with phase := 3 }).queueSleep n 2 (s.rd .WE_SLP_TIMES_COMMITW n)
      if (s.sg n).unsent = 0 then ((s.setSg n { s.sg n with phase := 4 }).segXcvr n 1).segState n 2 else s
    else
      let silent := voters.filter fun x => !g.agreed.contains x && !g.heldBy.contains x
      ((s.roundLists n g.heldBy silent).inc .WE_HOLDCNT n).roundRetry n 2

/-- COMMIT_WINDOW_END (R251): the segment sleeps. -/
def execCommitWindowEnd (n : Nat) (s : State) : Out := s.running <|
  let n := n % 8
  .next <| if (s.sg n).phase = 4 && s.rd .WE_SLP_STAT_STATE n = 2 then
    let s := ((s.setSg n {}).segXcvr n 3).roundLists n [] []
    ((s.wr .WE_SLP_STAT_RESULT 1 n).clrF .WE_SLP_CTL_REQ n).segState n 3
  else s

/-- COMMIT_ABORT (R255): bus activity, or a wake source of R250, in COMMIT. -/
def execCommitAbort (n src : Nat) (s : State) : Out := s.running <|
  let n := n % 8
  .next <| if s.rd .WE_SLP_STAT_STATE n = 2 && s.runsSegs then s.segAbort n (src % 16) else s

/-- SLEEP_RETRY (R251): RETRY seconds have passed; the next round starts if REQ is still 1 and the segment is awake. -/
def execSleepRetry (n : Nat) (s : State) : Out := s.running <|
  let n := n % 8
  .next <| if (s.sg n).phase = 5 then (s.setSg n {}).roundMay n else s

/-- SEGMENT_WAKE_REQUEST (R250): a write of 1 to WE_SLP_CTLs.WAKE. -/
def execSegmentWakeRequest (n : Nat) (s : State) : Out := s.running <| .next ((s.answer .none).segWake (n % 8) 5)

/-- SEGMENT_AWAKE (R250): the transceivers of a waking segment have reached normal. -/
def execSegmentAwake (n : Nat) (s : State) : Out := s.running <|
  let n := n % 8
  .next <| if s.rd .WE_SLP_STAT_STATE n = 4 && s.runsSegs then
    (((s.segXcvr n 0).clrF .WE_SLP_CTL_REQ n).segState n 0).wakeFrames n
  else s

/-- A module wake while it is in Standby (3) or Sleep (4): the source is recorded and the segments it names will be
awake (R250); `State.segWake` otherwise. -/
def State.wakeSource (s : State) (src index : Nat) (segs : List Nat) : State :=
  let p := s.rd .SYS_PWR_STAT_STATE
  if p = 3 || p = 4 then
    let s := if s.pw.woken then s
      else { (s.wr .XCVR_WAKELOG_SRC src).wr .XCVR_WAKELOG_INDEX index with pw := { s.pw with woken := true } }
    let s := { s with pw := { s.pw with wokenSegs := (s.pw.wokenSegs ++ segs).eraseDups } }
    s.each segs fun s n => (s.wr .WE_SLP_STAT_WAKESRC src n).wr .WE_SLP_STAT_STATE 0 n
  else s.each segs fun s n => s.segWake n src

/-- WAKE_UP_PATTERN (R248 to R250): a WUP on channel `k`, detected in standby and sleep with WAKEEN, where the transceiver has its
supply (R48). -/
def execWakeUpPattern (k : Nat) (s : State) : Out :=
  let k := k % 16
  let m := s.rd .XCVR_STAT_MODE k
  .next <| if s.unpowered then s
  else if (m = 2 || m = 3) && s.flag .XCVR_CTL_WAKEEN k then
    let s := (s.setF .XCVR_STAT_WUP k).setF .XCVR_STAT_INH k
    s.wakeSource 2 k [s.segOf k]
  else if m = 1 && s.rd .WE_SLP_STAT_STATE (s.segOf k) = 2 && s.runsSegs then s.segAbort (s.segOf k) 2
  else s

/-- WAKE_LINE_PULSE (R33, R250): a pulse of at least 50 µs on wake line `n`. -/
def execWakeLinePulse (n : Nat) (s : State) : Out :=
  let n := n % 4
  .next (if s.unpowered then s else s.wakeSource 1 n ((List.range 8).filter fun g => bit (s.rd .XCVR_WAKEMAP n) g))

/-- TRANSCEIVER_FAULT (R259): the transceiver of channel `k` reports a fault. -/
def execTransceiverFault (k : Nat) (s : State) : Out := .next (s.setF .XCVR_STAT_FAULT (k % 16))

end Sys2Proof.Machine
end

