-- ==== Sys2Proof/Machine/MillraceOps.lean ====
section
/-!
DEFINITION. Shared operations of Millrace (R53 to R79): states, the event table and its dispatch, reference frames, the
wall-clock association, and the start of a turn.
-/
namespace Sys2Proof.Machine

/-- The state of R58 changes; INTREF shows source INT in HOLDOVER; entry into HOLDOVER starts a new count of turns. -/
def State.mrGo (s : State) (st : Nat) : State :=
  let int := st == 3 && s.rd .MR_CTL_SRC == 4
  let entry := st == 3 && s.rd .MR_STAT_STATE != 3
  let m := s.mr
  let md := m.modes ||| (b2n (st == 3) + 2 * b2n (st == 4) + 4 * b2n int)
  let s := { s with mr := if entry then { m with modes := md, good := 0, bad := 0, slew := m.slew } else { m with modes := md } }
  ((s.wr .MR_STAT_STATE st).putF .MR_STAT_INTREF int).when entry (·.wr .MR_HOLD_TURNS 0)

/-- An angle error below 5 us at frequency `f` (R56); `above5` where it exceeds it. -/
def below5 (e : Int) (f : Nat) : Bool := e.natAbs * 1000000 < 1280 * f
def above5 (e : Int) (f : Nat) : Bool := 1280 * f < e.natAbs * 1000000

/-- A difference of angles in the range −0.5 turn to below +0.5 turn (R61). -/
def wrapAngle (x : Int) : Int := (x + 2 ^ 23) % 2 ^ 24 - 2 ^ 23

/-- The frequency lies between 45 and 65 Hz (R56). -/
def inBand (f : Nat) : Bool := 0x2D0000 ≤ f && f ≤ 0x410000

/-- The source selected has what it needs: its input, or two inputs for SYN3 (R55). -/
def State.refOk (s : State) (oks : Nat) : Bool :=
  let src := s.rd .MR_CTL_SRC
  if src < 3 then bit oks src else src == 3 && 2 ≤ b2n (bit oks 0) + b2n (bit oks 1) + b2n (bit oks 2)

/-- The phase error of a crossing now: reference angle with MR_COMP added, less the own angle (R57, R61). -/
def State.crossErr (s : State) : Int := wrapAngle (s.rdI .MR_COMP - s.angle)

/-- What of the error remains once the slew of the present turn is complete. -/
def State.restErr (s : State) (e : Int) : Int := wrapAngle (e - (s.mr.slew * (2 ^ 24 - s.angle : Int)).fdiv (2 ^ 24))

/-- ROT decided as a source is qualified: from the inputs that SYN3 uses, and with L1, L2 or L3 where all three inputs qualify;
a reversed rotation is recorded (R55). -/
def State.setRot (s : State) (oks : Nat) (rev : Bool) : State :=
  if oks % 8 = 7 || s.rd .MR_CTL_SRC = 3 then (s.putF .MR_STAT_ROT rev).when rev (·.log 0x02 0x03 Initiator.hw []) else s

/-! ## Event table -/

/-- TIME of an entry (R68). -/
def EvtEntry.time (e : EvtEntry) : Nat := e.w0 + 2 ^ 32 * (e.w1 % 65536)
def EvtEntry.count (e : EvtEntry) : Nat := e.w1 / 65536
def EvtEntry.valid (e : EvtEntry) : Bool := bit e.w2 31
def EvtEntry.lateOk (e : EvtEntry) : Bool := bit e.w2 30
def EvtEntry.world (e : EvtEntry) : World := World.ofCode (bits e.w2 28 2)
def EvtEntry.ttype (e : EvtEntry) : Nat := bits e.w2 0 4
def EvtEntry.action (e : EvtEntry) : Nat := bits e.w2 4 4
def EvtEntry.tindex (e : EvtEntry) : Nat := bits e.w2 8 8
def EvtEntry.param (e : EvtEntry) : Nat := bits e.w2 16 12

/-- Target, action, index and PARAM as R69 allows them. -/
def EvtEntry.targetOk (e : EvtEntry) : Bool :=
  match e.ttype with
  | 1 => e.tindex < 32 && (if e.action = 3 then decide (e.param ≤ 1000) else e.action < 3 && e.param == 0)
  | 2 => e.tindex < 48 && e.action < 2 && e.param == 0
  | 3 => e.tindex < 16 && e.action == 0 && e.param == 0
  | 4 => e.tindex < 16 && e.action == 0 && e.param < 8
  | 5 => e.tindex == 0 && e.action == 0
  | _ => false

/-- The world to which an entry's target belongs; a mark belongs to every world (R69, R380). -/
def State.targetWorld (s : State) (e : EvtEntry) (w : World) : World :=
  match e.ttype with
  | 1 => s.chanWorld e.tindex
  | 2 => s.ioWorld e.tindex
  | 3 => s.lineWorld e.tindex
  | 4 => s.canWorld e.tindex
  | _ => w

/-- The quota of a world (R74). -/
def State.quota (s : State) : World → Nat
  | .normal => s.rd .MR_EVT_QUOTA0_NORMAL
  | .safety => s.rd .MR_EVT_QUOTA0_SAFETY
  | .secure => s.rd .MR_EVT_QUOTA1_SECURE

/-- Commits and cancels that wait for the journal, oldest first. -/
def State.evtWaiting (s : State) : List (Nat × EvtEntry × Bool) :=
  (s.braid.waiting.map (·.work) ++ s.braid.held.map (·.2.2)).filterMap fun
    | .evt idx e cancel => some (idx, e, cancel)
    | _ => none

/-- The event table as it stands once every commit and cancel that waits for the journal has taken effect: what a further one is
tested against (R70, R74). -/
def State.evtAhead (s : State) : NMap EvtEntry :=
  s.evtWaiting.foldl (fun t (idx, e, cancel) => NMap.put {} t idx (if cancel then {} else e)) s.evt

/-- Valid entries of a world, entry `idx` left out (R70). -/
def State.heldBy (s : State) (w : World) (idx : Nat) : Nat :=
  (s.evtAhead.filter fun p => p.1 ≠ idx && p.2.valid && p.2.world = w).length

/-- How far a time lies in the past, 0 where it is later than now (R54). -/
def State.lateBy (s : State) (t : Nat) : Nat := if later t s.phase then 0 else (s.phase + 2 ^ 48 - t % 2 ^ 48) % 2 ^ 48

/-- The code of a commit, in the order NOTIME, OWNER, TARGET, WORLD, RANGE, PAST, QUOTA (R70). -/
def State.commitCode (s : State) (w : World) (idx : Nat) (e : EvtEntry) : Nat :=
  let old : EvtEntry := NMap.at {} s.evtAhead idx
  if !s.phaseRuns then 6
  else if old.valid && !owns w old.world then 4
  else if !e.targetOk then 7
  else if !owns w (s.targetWorld e w) then 3
  else if 2 ^ 24 < s.lateBy e.time then 2
  else if !later e.time s.phase && !e.lateOk then 1
  else if s.quota w ≤ s.heldBy w idx then 5
  else 0

/-- The entry a commit of the staging words makes: VALID is taken from them, WORLD from the initiator (R68). -/
def State.stagedEvt (s : State) (w : World) : EvtEntry :=
  let w2 := s.rd .MR_EVT_STAGE 2
  { w0 := s.rd .MR_EVT_STAGE 0, w1 := s.rd .MR_EVT_STAGE 1,
    w2 := w2 - bits w2 28 2 * 2 ^ 28 + w.code * 2 ^ 28, w3 := s.rd .MR_EVT_STAGE 3 }

/-- An entry leaves use: VALID clears and its work is complete (R72, R312). -/
def State.evtClear (s : State) (idx : Nat) : State :=
  let e := s.entry idx
  if e.valid then (s.setEntry idx { e with w2 := e.w2 - 2 ^ 31, jseq := 0 }).complete e.jseq else s

/-- An entry is held for no later tick any more, or is held for the next one. -/
def State.unhold (s : State) (idx : Nat) : State := { s with mr := { s.mr with hold := s.mr.hold.filter (·.1 != idx) } }
def State.holdNext (s : State) (idx : Nat) : State :=
  { s with mr := { s.mr with hold := (idx, s.now + 1) :: s.mr.hold.filter (·.1 != idx) } }

/-- An accepted commit or cancel takes effect; the entry replaced is complete, and a cancel's own entry too (R312). A time in the
past dispatches at the next tick and counts in MR_EVT_LATE (R70). An entry whose target has passed to another world while
the commit waited for the journal is cancelled, as R380 has it of the table. BUSY ends with the last commit that waits; CODE is
then 0, whatever a commit refused meanwhile has put there (DESIGN CHOICE, log entry 101). -/
def State.evtDone (s : State) (idx : Nat) (e : EvtEntry) (cancel : Bool) (jseq : Nat) : State :=
  let s := (s.evtClear idx).unhold idx
  let s :=
    if cancel then s.complete jseq
    else if !owns e.world (s.targetWorld e e.world) then (s.complete jseq).log 0x02 0x05 Initiator.hw (leBytes 2 idx)
    else
      let s := s.setEntry idx { e with jseq := jseq }
      if s.lateBy e.time ≠ 0 then (s.holdNext idx).inc .MR_EVT_LATE else s
  if s.evtWaiting.isEmpty then (s.wr .MR_EVT_RESULT_CODE 0).clrF .MR_EVT_RESULT_BUSY else s

/-- The action of an entry at its target (R69, R71). -/
def State.evtAct (s : State) (e : EvtEntry) : State :=
  let who : Initiator := ⟨0x04, e.world⟩
  match e.ttype with
  | 1 => s.chanCmd who e.tindex e.action e.param 1
  | 2 => s.ioCmd who e.tindex e.action 1
  | 3 => s.raiseOf (1 + e.tindex) (s.lineWorld e.tindex)
  | 4 => (s.canRelease e.tindex (e.param % 8)).1
  | _ => s.log 0x02 0x04 who (leBytes 2 e.param)

/-- The die an entry's output stands on, 4 where it has none (R71). -/
def EvtEntry.dieIdx (e : EvtEntry) : Nat := if e.ttype = 1 then dieOf e.tindex else if e.ttype = 2 then e.tindex / 12 else 4

/-- One entry dispatched, and what R71 and R72 do with it. The counts of R71 take the entries dispatched before it whose times
lie in the 10 us that end at its own; times are kept for two turns, and no late entry is older. -/
def State.dispatch1 (s : State) (idx : Nat) : State :=
  let e := s.entry idx
  let t := e.time
  let near := s.mr.recent.filter fun r =>
    ((t + 2 ^ 48 - r.1 % 2 ^ 48) % 2 ^ 48) * 100000 * 65536 < s.mr.rate * (2 ^ 24 + s.mr.slew).toNat
  let d := e.dieIdx
  let full := 64 ≤ near.length || (d < 4 && 16 ≤ (near.filter (·.2 == d)).length)
  let s := (s.when full (·.inc .MR_EVT_LATE))
  let kept := s.mr.recent.filter fun r => s.lateBy r.1 < 2 ^ 25
  let s := { s with mr := { s.mr with recent := kept ++ [(t, d)], dispatched := idx :: s.mr.dispatched } }
  let s := (s.evtAct e).unhold idx
  let e : EvtEntry := s.entry idx
  if e.w3 = 0 || e.count = 1 then s.evtClear idx
  else
    let t' := (t + e.w3) % 2 ^ 48
    let n : Nat := if e.count = 0 then 0 else e.count - 1
    let s := (s.setEntry idx { e with w0 := cut 32 t', w1 := t' / 2 ^ 32 + 65536 * n }).dispatchMark e.jseq t' n
    if later t' s.phase then s else s.holdNext idx

/-- A pair inserted by lateness, latest time first; equal times keep the ascending index order. -/
def insLate (x : Nat × Nat) : List (Nat × Nat) → List (Nat × Nat)
  | [] => [x]
  | y :: r => if y.1 < x.1 then x :: y :: r else y :: insLate x r

/-- How many MILL ticks ago an entry was due: since the tick held for it, or since the first tick at which the phase time was
not earlier than its own. -/
def State.overdue (s : State) (idx t : Nat) : Nat :=
  match s.mr.hold.find? (·.1 == idx) with
  | some h => s.now - h.2
  | none =>
    if t / 2 ^ 24 % 2 ^ 24 = s.mr.turn then s.now - s.tickAt (t % 2 ^ 24)
    else s.lateBy t * 65536 * 100000000 / max 1 (s.mr.rate * (2 ^ 24 + s.mr.slew).toNat)

/-- The entry may dispatch now: it is not held for a later tick (R70, R72). -/
def State.unheld (s : State) (idx : Nat) : Bool := s.mr.hold.all fun h => h.1 != idx || h.2 ≤ s.now

/-- Entries due now, in dispatch order: by the tick at which they came due, those of one tick in ascending index order (R71). -/
def State.dueNow (s : State) : List Nat :=
  (((s.evt.filter fun p => p.2.valid && !later p.2.time s.phase && s.unheld p.1).map fun p =>
    (s.overdue p.1 p.2.time, p.1)).foldl (fun l x => insLate x l) []).map (·.2)

/-- The entries due at this tick dispatch (R71, R73). -/
def State.dispatchDue (s : State) : State :=
  if !s.phaseRuns then s
  else
    let due := s.dueNow
    let s := if s.mr.dispTick = s.now then s else { s with mr := { s.mr with dispTick := s.now, dispatched := [] } }
    s.each due fun s i => s.dispatch1 i

/-- The code of a commit or cancel; a commit whose VALID is 0 is a cancel, which meets NOTIME and OWNER alone (R70). -/
def State.evtCode (s : State) (w : World) (idx : Nat) (e : EvtEntry) (cancel : Bool) : Nat :=
  let old : EvtEntry := NMap.at {} s.evtAhead idx
  if cancel || !e.valid then (if !s.phaseRuns then 6 else if old.valid && !owns w old.world then 4 else 0)
  else s.commitCode w idx e

/-- What is due in the tick in which a commit or cancel reaches an entry that is due itself: it dispatches first (R73). -/
def State.evtFirst (s : State) (idx : Nat) : State := if s.dueNow.contains idx then s.dispatchDue else s

/-- A commit or cancel as a register write or an object write makes it (R70, R73, R74). -/
def State.evtCommand (s : State) (w : World) (idx : Nat) (e : EvtEntry) (cancel : Bool) : State :=
  let s := s.evtFirst idx
  let s := s.putF .MR_EVT_RESULT_AFTER (s.mr.dispTick == s.now && s.mr.dispatched.contains idx)
  let code := s.evtCode w idx e cancel
  let cancel := cancel || !e.valid
  let old : EvtEntry := NMap.at {} s.evtAhead idx
  if code ≠ 0 then s.wr .MR_EVT_RESULT_CODE code
  else
    let s := s.decision 2 ([b2n cancel] ++ leBytes 2 idx ++ leBytes 4 e.w0 ++ leBytes 4 e.w1 ++ leBytes 4 e.w2 ++ leBytes 4 e.w3)
    if cancel && !old.valid then s.wr .MR_EVT_RESULT_CODE 0
    else s.submit (.evt idx e cancel) (·.setF .MR_EVT_RESULT_BUSY) fun j s => s.evtDone idx e cancel j

/-- A restored entry whose time has passed: dispatched once; a repeating one moves on to its first future occurrence, and
what it skips is counted and uses up COUNT (R313). -/
def State.restorePast (s : State) (idx : Nat) (e : EvtEntry) (jseq : Nat) : State :=
  let late := s.lateBy e.time
  let s := s.evtAct e
  if e.w3 = 0 || e.count = 1 then s.complete jseq
  else
    let m := late / e.w3 + 1
    let s := s.inc .MR_EVT_LATE 0 (if e.count = 0 then m - 1 else min (m - 1) (e.count - 1))
    if e.count ≠ 0 && e.count ≤ m then s.complete jseq
    else
      let t' := (e.time + m * e.w3) % 2 ^ 48
      let n := e.count - m
      (s.setEntry idx { e with w0 := cut 32 t', w1 := t' / 2 ^ 32 + 65536 * n, jseq := jseq }).dispatchMark jseq t' n

/-- Entries restored from the journal are committed again at the first lock, those past in time order (R70, R77, R313). -/
def State.recommit (s : State) : State :=
  let open' := s.braid.jopen.filterMap fun j =>
    match j.work with
    | .evt idx e false => if (s.entry idx).jseq = j.jseq && (s.entry idx).valid then none else some (idx, e, j.jseq)
    | _ => none
  let past := (open'.zipIdx.filter fun x => !later x.1.2.1.time s.phase).map fun x =>
    (s.lateBy x.1.2.1.time, x.2)
  let s := s.each ((past.foldl (fun l x => insLate x l) []).map (·.2)) fun s n =>
    match open'[n]? with
    | some (idx, e, jseq) => if owns e.world (s.targetWorld e e.world) && e.targetOk then s.restorePast idx e jseq else s.complete jseq
    | none => s
  s.each (open'.filter fun x => later x.2.1.time s.phase) fun s (idx, e, jseq) =>
    if s.commitCode e.world idx e = 0 then s.setEntry idx { e with jseq := jseq } else s.complete jseq

/-! ## Reference frames -/

/-- The reference frame of channel `k` for this turn (R66). The first turn after lock is that of the first lock; the turn in
which RELOCK becomes LOCKED is not taken as one (DESIGN CHOICE, log entry 101). -/
def State.refFrame (s : State) (k : Nat) (first : Bool) : CanFrame :=
  let st := s.rd .MR_STAT_STATE
  let t := s.mr.turn
  let sent := bit s.mr.sent k && !first
  let ide := s.flag .MR_REFID_IDE
  let b1 := 128 * b2n (st == 3) + 64 * b2n (st == 4) + 32 * b2n (s.flag .MR_STAT_INTREF) + 16 * b2n (!sent) + 4 * (t % 4)
  { id := if ide then s.rd .MR_REFID_ID else s.rd .MR_REFID_ID % 2048, ide := ide, fmt := 1, brs := s.flag .MR_REFID_BRS,
    len := 16, dlc := 10,
    data := [0x10 + bits (s.rd .MR_PLAN) (2 * k) 2, b1] ++ leBytes 3 t ++ leBytes 3 (s.rd .MR_FREQ)
      ++ leBytes 3 (s.rd .MR_ANGLE0) ++ [8, 0] ++ leBytes 3 (if sent then s.mr.sofPrev.getD k 0xFFFFFF else 0xFFFFFF) }

/-- At angle 0, one reference frame on each channel of MR_REFCH whose plan is X8 or F2 (R65, R79). -/
def State.queueRefs (s : State) (first : Bool) : State :=
  let frames := (List.range 16).filterMap fun k =>
    let p := bits (s.rd .MR_PLAN) (2 * k) 2
    if bit (s.rd .MR_REFCH) k && (p == 1 || p == 2) then some (k, s.refFrame k first) else none
  let s := s.each frames fun s f => s.setCn f.1 { s.cn f.1 with refFrame := some f.2 }
  { s with mr := { s.mr with sent := 0, sofPrev := List.replicate 16 0xFFFFFF } }

/-! ## Association -/

/-- A_n to the registers (R75). -/
def State.setAssoc (s : State) (a : Int) : State :=
  let n := a.toNat
  let s := { s with mr := { s.mr with assocValid := true, assocW := a } }
  (((s.wr .MR_ASSOC_TURN s.mr.turn).wr .MR_ASSOC_SEC_LO (cut 32 (n / 1000000000))).wr .MR_ASSOC_SEC_HI
    (bits (n / 1000000000) 32 16)).wr .MR_ASSOC_NS (n % 1000000000)

/-- The association at angle 0 (R75, R76). The manual leaves three points open (DESIGN CHOICE, log entry 84): while the clock is
not synchronised and no association exists yet, none is formed; the first turn after turns with EN = 0 is predicted from
the last A that was formed; and D in the record of an accepted step is kept modulo 2^32. -/
def State.associate (s : State) : State :=
  if !s.flag .MR_ASSOC_CTL_EN then s
  else
    let w : Int := s.ptpNow
    let p : Int := s.mr.assocW + 10 * (s.rd .MR_PERIOD : Int)
    let d := w - p
    let synced := s.flag .CF_PTP_CTL_SYNC
    let s := s.putF .MR_ASSOC_CTL_UNSYNC (!synced)
    if s.mr.accept then
      (({ s with mr := { s.mr with accept := false } }).setAssoc w).log 0x02 0x02 Initiator.hw (leBytes 4 (ofInt 32 d))
    else if !synced then (if s.mr.assocValid then s.setAssoc p else s)
    else if !s.mr.assocValid then s.setAssoc w
    else if d.natAbs ≤ 1000 * s.rd .MR_ASSOC_CTL_THR then s.setAssoc w
    else
      let s := if s.flag .MR_ASSOC_CTL_STEP then s
        else (s.setF .MR_ASSOC_CTL_STEP).log 0x02 0x01 Initiator.hw (leBytes 4 (ofInt 32 (max (-2147483648) (min 2147483647 d))))
      (s.wrI .MR_ASSOC_DEV d).setAssoc p

/-! ## Start of a turn -/

/-- A class T value takes effect. When the EN of Gauge goes from 0 to 1 the board table is cleared (R99) and the turn before does not
count as passed (R111). -/
def State.takeT (s : State) (f : Fld) (i v : Nat) : State :=
  (s.when (f == .GA_CTL_EN && v == 1 && !s.flag .GA_CTL_EN) fun s =>
    { s.wipe (gaugeSram + 0x80000) 0x4000 with gauge := { s.gauge with lastPassed := none } }).wr f v i

/-- Class T shadows take effect (R5). -/
def State.applyShadows (s : State) : State :=
  let l := s.shadow
  ({ s with shadow := [] }).each l fun s e => s.takeT e.1.1 e.1.2 e.2

/-- The nominal frequency of source INT (R62). -/
def State.nominal (s : State) : Nat := if s.rd .MR_CTL_NOM = 2 then 0x3C0000 else 0x320000

/-- The slew of a turn at frequency `f` that is to be `want`: while a change of source is followed, the length stays within
0.5 % of the turn before (R62). The flag says that this limit acts. -/
def State.boundedSlew (s : State) (f want : Int) : Int × Bool :=
  if !s.mr.bound then (want, false)
  else
    let old : Int := s.mr.rate * (2 ^ 24 + s.mr.slew)
    let p := f * (2 ^ 24 + want)
    let lo := -((-(old * 200)).fdiv 201)
    let hi := (old * 200).fdiv 199
    if f = 0 || (lo ≤ p && p ≤ hi) then (want, false)
    else ((if p < lo then -((-lo).fdiv f) else hi.fdiv f) - 2 ^ 24, true)

/-- The slew of a turn in RELOCK: up to MR_SLEW of the error (R61). -/
def State.nextSlew (s : State) : Int × Bool :=
  let lim : Int := s.rd .MR_SLEW
  s.boundedSlew (s.rd .MR_FREQ) (max (-lim) (min lim s.mr.err))

/-- A frequency at which the next turn, with no slew, has a length within 0.5 % of the turn before (R62). -/
def State.inHalfPercent (s : State) (r : Nat) : Nat :=
  let old : Int := s.mr.rate * (2 ^ 24 + s.mr.slew)
  if old ≤ 0 then r
  else max (-((-(old * 200)).fdiv (201 * 2 ^ 24))).toNat (min ((old * 200).fdiv (199 * 2 ^ 24)).toNat r)

/-- What the loop does at a boundary, after the shadows: changes of source and of compensation, holdover, slewing, lock
(R57, R60, R61, R62). `src` and `comp` are the values before the shadows, `len` the length of the turn just ended. -/
def State.loopBoundary (s : State) (src : Nat) (comp : Int) (len : Nat) : State :=
  let new := s.rd .MR_CTL_SRC
  let s := if new ≠ src then
      let s := s.mrGo 3
      { s with mr := { s.mr with good := 0, bad := 0, err := 0, bound := new ≠ 4 } }
    else
      let st := s.rd .MR_STAT_STATE
      if s.rdI .MR_COMP ≠ comp && (st = 2 || st = 4) then
        ({ s with mr := { s.mr with err := wrapAngle (s.mr.err + s.rdI .MR_COMP - comp), bad := 0 } }).mrGo 4
      else s
  match s.rd .MR_STAT_STATE with
  | 2 => { s with mr := { s.mr with rate := if s.mr.bad = 0 then s.rd .MR_FREQ else s.mr.rate, slew := s.mr.err, err := 0 } }
  | 4 =>
    let n := s.nextSlew
    if below5 s.mr.err (s.rd .MR_FREQ) && !n.2 then
      let s := s.mrGo 2
      { s with mr := { s.mr with rate := s.rd .MR_FREQ, slew := s.mr.err, err := 0, bound := false, bad := 0 } }
    else { s with mr := { s.mr with rate := s.rd .MR_FREQ, slew := n.1, err := wrapAngle (s.mr.err - n.1) } }
  | _ =>
    if new = 4 then
      let step := 65536 * len / 100000000
      let r := if s.mr.rate < s.nominal then min s.nominal (s.mr.rate + step) else max s.nominal (s.mr.rate - step)
      let r := s.inHalfPercent r
      (({ s with mr := { s.mr with rate := r, slew := 0 } }).wr .MR_FREQ r)
    else { s with mr := { s.mr with slew := (s.boundedSlew s.mr.rate 0).1 } }

/-- What Lalos dies keep of the turn just ended (R148). -/
def State.dieBoundary (s : State) : State :=
  s.each (List.range 4) fun s g =>
    let fm := ((List.range 8).map fun l => if s.isFine (chanOf g l) then 2 ^ l else 0).sum
    s.setDi g { s.di g with prevFine := fm, prevFovr := (s.di g).fovr, fovr := 0 }

/-- The turn record of the active unit (R302). -/
def State.turnRec (s : State) : TurnRec :=
  { turn := s.mr.turn, period := s.rd .MR_PERIOD, freq := s.rd .MR_FREQ, rate := s.mr.rate, slew := s.mr.slew,
    state := s.rd .MR_STAT_STATE, intref := s.flag .MR_STAT_INTREF, assocValid := s.mr.assocValid, assocW := s.mr.assocW }

/-- The start of the present turn at angle 0, in the order of R73: shadows, with maps and geometry, then `loop`, then
reference frames, then entries due; and with them the association, the opening of the turn in Gauge, the always-on
values and what Braid does at a boundary. -/
def State.startTurn (s : State) (first : Bool) (loop : State → State) : State :=
  let plans := s.rd .MR_PLAN
  let angle0 := s.rd .MR_ANGLE0
  let s := s.dieBoundary.sensorsAge.applyShadows
  let (s, mapNew) := s.mapsInForce
  let s := loop s.geometryCopy
  let st := s.rd .MR_STAT_STATE
  let s := { s with mr := { s.mr with modes := b2n (st == 3) + 2 * b2n (st == 4) + 4 * b2n (s.flag .MR_STAT_INTREF),
                                      aonValid := true, aonTurn := s.mr.turn, aonFreq := s.rd .MR_FREQ, aonTime := s.mr.boundary } }
  let s := s.wr .MR_TURN_FREE ((s.mr.boundary - s.release) % 2 ^ 32)
  let s := s.associate
  let s := s.sendRec (.turn s.turnRec)
  let s := s.queueRefs first
  let s := if s.flag .GA_CTL_EN then s.gaugeOpen s.mr.turn plans angle0 mapNew else s
  s.dispatchDue.braidBoundary

/-- The turn just ended as Gauge keeps it: its length, the length before it, and the modes it saw (R98, R107). -/
def State.endTurn (s : State) (len : Nat) : State :=
  let h := s.mr.turn % 2
  let t := s.gt h
  if t.isOpen && t.turn = s.mr.turn then
    s.setGt h { t with len := len, prevLen := s.rd .MR_PERIOD, modes := t.modes ||| s.mr.modes }
  else s

/-- The boundary that ends the present turn at time `t` (R53, R64). -/
def State.nextTurn (s : State) (t : Nat) : State :=
  let src := s.rd .MR_CTL_SRC
  let comp := s.rdI .MR_COMP
  let len := t - s.mr.boundary
  let s := (s.endTurn len).wr .MR_PERIOD len
  let s := { s with now := max s.now t, mr := { s.mr with turn := (s.mr.turn + 1) % 2 ^ 24, boundary := t } }
  (s.when (s.rd .MR_STAT_STATE = 3) (·.inc .MR_HOLD_TURNS)).startTurn false (·.loopBoundary src comp len)

/-- A boundary of the active unit, taken from its record (R304): number, length, state, frequency and association are
those of the record, and angle 0 fell the link delay ago, which the unit has measured from the heartbeat round trip: a free
value (log entry 42). -/
def State.slaveTurn (s : State) (r : TurnRec) : State :=
  let s := (s.endTurn r.period).wr .MR_PERIOD r.period
  let s := { s with mr := { s.mr with turn := r.turn, boundary := s.now - Config.linkDelay s.now, locked1 := true } }
  let s := s.startTurn false fun s =>
    ((({ s with mr := { s.mr with rate := r.rate, slew := r.slew, err := 0 } }).wr .MR_STAT_STATE r.state).putF .MR_STAT_INTREF
      r.intref).wr .MR_FREQ r.freq
  if r.assocValid then s.setAssoc r.assocW else s

/-- The turn number at the first lock (R77, R78): the preset at the first lock after a reset or a wake where PRESET is 1,
else what the always-on values give, else 0. PRESET does not apply to the lock after a pause by EN, since phase time never
decreases across it (DEDUCED, log entry 101). -/
def State.firstNumber (s : State) : Nat :=
  let m := s.mr
  if s.flag .MR_CTL_PRESET && !m.locked1 then s.rd .MR_TURN_PRESET
  else if m.aonValid then
    let elapsed := (s.now - m.aonTime) * 32768 / 100000000
    (m.aonTurn + roundDiv (elapsed * m.aonFreq) (65536 * 32768) + 1) % 2 ^ 24
  else 0

/-- Time advances from a crossing at frequency `f` to the angle 0 of the compensated reference: a positive MR_COMP moves it
earlier than the crossing (R57). -/
def State.waitCompensated (s : State) (f : Nat) : State :=
  s.advance (ceilDiv ((-s.rdI .MR_COMP % 2 ^ 24).toNat * 65536 * 100000000) (f * 2 ^ 24))

/-- The first lock after a start, an enable or a wake: phase time runs from angle 0 of the number of R77, in state `st`
(R56, R58, R78). A change that still waited for a boundary is handled at this one. -/
def State.firstLock (s : State) (st : Nat) : State :=
  let n := s.firstNumber
  let src := s.rd .MR_CTL_SRC
  let comp := s.rdI .MR_COMP
  let s := if st = 3 then s.wr .MR_FREQ s.nominal else s
  let s := { s with mr := { s.mr with turn := n, boundary := s.now, rate := s.rd .MR_FREQ, slew := 0, err := 0, good := 0,
                                      bad := 0, bound := false, modes := 0, locked1 := true, sent := 0 },
                      gauge := { s.gauge with wait := none } }
  ((s.mrGo st).startTurn true (·.loopBoundary src comp 0)).recommit.dispatchDue

/-- Entry into ACQUIRE; with source INT, HOLDOVER at the next MILL tick (R58, R62). Before the first lock phase time reads turn 0,
angle 0; in OFF and ACQUIRE after a pause it holds its last value (DESIGN CHOICE, log entry 101). -/
def State.acquire (s : State) : State :=
  let m := s.mr
  let s := { s with mr := if m.locked1 then { m with good := 0, bad := 0 } else { m with good := 0, bad := 0, turn := 0, frozen := 0 } }
  let s := s.mrGo 1
  if s.rd .MR_CTL_SRC = 4 then (s.advance 1).firstLock 3 else s

/-- Phase time stops: OFF (R58, R78). Turns that are open are given up. -/
def State.mrStop (s : State) : State :=
  let s := { s with mr := { s.mr with frozen := s.angle, rate := 0, slew := 0, err := 0, good := 0, bad := 0, bound := false } }
  let s := { s with gauge := { s.gauge with turns := s.gauge.turns.map fun (t : GTurn) => { t with isOpen := false }, wait := none, lastPassed := none } }
  (s.mrGo 0).gaActive

end Sys2Proof.Machine
end

