-- ==== Sys2Proof/Machine/Millrace.lean ====
section
/-!
DEFINITION. Commands and events of Millrace (R53 to R80). Time: a zero crossing comes `dt` MILL ticks after the event
before it; a boundary, a withdrawal and a dispatch come at the tick that the angle gives (log entry 7).
-/
namespace Sys2Proof.Machine

/-- PHASE_TIME_READ (R79): MR_NOW_LO is read and latches MR_NOW_HI. -/
def execPhaseTimeRead (s : State) : Out := s.running <|
  let p := s.phase
  .next ((((s.wr .MR_NOW_LO (cut 32 p)).wr .MR_NOW_HI_TIME (p / 2 ^ 32)).wr .MR_NOW_HI_KIND s.stampKind).answer
    (.value (cut 32 p)))

/-- MILLRACE_ENABLE (R58): a write of 1 to MR_CTL.EN. -/
def execMillraceEnable (s : State) : Out := s.running <|
  let s := s.answer .none
  .next <| if s.flag .MR_CTL_EN then s else ((s.setF .MR_CTL_EN).confWrite).acquire

/-- MILLRACE_DISABLE (R78): a write of 0 to MR_CTL.EN, refused while the event table, Gauge, the reference channels or
the association need phase time. -/
def execMillraceDisable (s : State) : Out := s.running <|
  let s := s.answer .none
  .next <| if !s.flag .MR_CTL_EN then s
  else if s.evt.any (·.2.valid) || s.flag .GA_CTL_EN || s.rd .MR_REFCH != 0 || s.flag .MR_ASSOC_CTL_EN then
    s.setF .MR_STAT_REFUSED
  else ((s.clrF .MR_CTL_EN).confWrite).mrStop

/-- The frequency has left 45 to 65 Hz (R59). -/
def State.freqLost (s : State) : State := (s.setF .MR_STAT_FRANGE).mrGo 3

/-- A crossing in ACQUIRE (R56): lock after three consecutive turns with the error below 5 us. -/
def State.crossAcquire (s : State) (freq oks : Nat) (rev settled : Bool) : State :=
  if !inBand freq || !s.refOk oks || !settled then { s with mr := { s.mr with good := 0 } }
  else if s.mr.good < 2 then { s with mr := { s.mr with good := s.mr.good + 1 } }
  else (((s.setRot oks rev).wr .MR_FREQ freq).waitCompensated freq).firstLock 2

/-- A crossing in LOCKED (R61): the loop tracks; three consecutive turns above 5 us lead to RELOCK. -/
def State.crossLocked (s : State) (freq : Nat) : State :=
  let e := s.crossErr
  let m := s.mr
  let s := s.wrI .MR_PHERR e
  if above5 e freq then
    if m.bad < 2 then { s with mr := { m with bad := m.bad + 1, err := 0 } }
    else (({ s with mr := { m with bad := 0, err := s.restErr e } }).wr .MR_FREQ freq).mrGo 4
  else if m.bad = 0 || below5 e freq then ({ s with mr := { m with bad := 0, err := s.restErr e } }).wr .MR_FREQ freq
  else s

/-- A crossing in HOLDOVER (R61): after three qualifying turns the error is taken and RELOCK entered. -/
def State.crossHoldover (s : State) (freq oks : Nat) (rev : Bool) : State :=
  if s.rd .MR_CTL_SRC = 4 then s
  else if !inBand freq || !s.refOk oks then { s with mr := { s.mr with good := 0 } }
  else if s.mr.good < 2 then { s with mr := { s.mr with good := s.mr.good + 1 } }
  else
    let e := s.crossErr
    let s := ((s.setRot oks rev).wr .MR_FREQ freq).wrI .MR_PHERR e
    ({ s with mr := { s.mr with good := 0, err := s.restErr e } }).mrGo 4

/-- A crossing in RELOCK (R61): the error that remains is measured; below 5 us Millrace is LOCKED. -/
def State.crossRelock (s : State) (freq : Nat) : State :=
  let e := s.crossErr
  let rest := s.restErr e
  let s := ({ s with mr := { s.mr with err := rest } }.wr .MR_FREQ freq).wrI .MR_PHERR e
  if below5 e freq && !s.mr.bound then s.mrGo 2 else s

/-- ZERO_CROSSING (R55, R56, R59, R61): a valid positive-going crossing of the reference, `dt` ticks after the event
before, at a measured frequency in 2^-16 Hz; `oks` are the inputs that meet R56, `rev` is a reversed rotation, and
`settled` that the loop's error in ACQUIRE is below 5 us. A standby measures its own sense alone (R304). -/
def execZeroCrossing (dt freq oks : Nat) (rev settled : Bool) (s : State) : Out := s.running <|
  let s := (s.advance dt).wr .MR_STAT_LOK (oks % 8)
  let st := s.rd .MR_STAT_STATE
  let freq := cut 24 freq
  .next <| if st = 0 then s
  else if s.standby then
    (if s.phaseRuns && 5120 * freq < s.crossErr.natAbs * 1000000 then s.setF .BR_STAT_SENSEDIFF else s)
  else if st = 1 then s.crossAcquire freq oks rev settled
  else if st = 3 then s.crossHoldover freq oks rev
  else if !inBand freq then s.freqLost
  else if st = 2 then s.crossLocked freq else s.crossRelock freq

/-- SENSE_LOST (R55, R59): no crossing within 1.25 turns, an amplitude below 1.0 V rms for half a turn, or a frequency out
of range (`range`); `oks` are the inputs that still meet R56. SYN3 goes on with two of them. Sense lost shows in LOSS in
ACQUIRE and HOLDOVER too. -/
def execSenseLost (oks : Nat) (range : Bool) (s : State) : Out := s.running <|
  let s := s.wr .MR_STAT_LOK (oks % 8)
  let st := s.rd .MR_STAT_STATE
  .next <| if s.standby || st = 0 || s.rd .MR_CTL_SRC = 4 then s
  else if !range && s.rd .MR_CTL_SRC = 3 && s.refOk oks then s
  else if st = 1 || st = 3 then ({ s with mr := { s.mr with good := 0 } }).when (!range) (·.setF .MR_STAT_LOSS)
  else if range then s.freqLost
  else (s.setF .MR_STAT_LOSS).mrGo 3

/-- ASSOCIATION_ACCEPT (R76): a write of 1 to MR_ASSOC_CTL.ACCEPT. -/
def execAssociationAccept (s : State) : Out := s.running <|
  let s := s.answer .none
  .next <| if s.flag .MR_ASSOC_CTL_STEP then { s.clrF .MR_ASSOC_CTL_STEP with mr := { s.mr with accept := true } } else s

/-- REFERENCE_FRAME_WITHDRAW (R65, R226): at angle 0x80_0000, every reference frame that has not started is withdrawn. -/
def execReferenceFrameWithdraw (s : State) : Out := s.running <|
  let s := if s.phaseRuns then s.waitAngle 0x800000 else s
  .next <| s.each (List.range 16) fun s k =>
    let c := s.cn k
    if c.refFrame.isSome && c.tx ≠ some .reference then
      (s.setCn k { c with refFrame := none }).setF .MR_STAT_REFLATE
    else s

/-- EVENT_COMMIT (R68 to R74): OP 0 of MR_EVT_CMD. -/
def execEventCommit (who : Initiator) (index : Nat) (s : State) : Out := s.asMaster who <|
  let w := s.worldOf who
  .next ((s.answer .none).evtCommand w (index % 1024) (s.stagedEvt w) false)

/-- EVENT_CANCEL (R70): OP 1 of MR_EVT_CMD. -/
def execEventCancel (who : Initiator) (index : Nat) (s : State) : Out := s.asMaster who <|
  .next ((s.answer .none).evtCommand (s.worldOf who) (index % 1024) {} true)

/-- EVENT_DISPATCH (R71, R72): the first tick at which phase time reaches the time of an entry; one that lies in this turn
is waited for, one in a later turn waits for its boundary. An entry already past goes at the next tick where it has come
late or has dispatched in this one. -/
def execEventDispatch (s : State) : Out := s.running <|
  .next <| if !s.phaseRuns then s
  else if !s.dueNow.isEmpty then s.dispatchDue
  else if !(s.advance 1).dueNow.isEmpty then (s.advance 1).dispatchDue
  else
    let here := s.evt.filterMap fun p =>
      if p.2.valid && p.2.time / 2 ^ 24 = s.mr.turn then some (p.2.time % 2 ^ 24) else none
    match here with
    | [] => s
    | a :: r => (s.waitAngle (r.foldl min a)).dispatchDue

end Sys2Proof.Machine
end

