-- ==== Sys2Proof/Machine/UpdateOps.lean ====
section
/-!
DEFINITION. The registers that show the banks and the record (R463), and the choice and verification of a bank (R457).
-/
namespace Sys2Proof.Machine

/-! ## The update registers -/

/-- The registers that follow the record and the manifests (R463). -/
def State.updView (s : State) : State :=
  let r := s.record
  let o := 1 - r.bank
  let mo := s.manifest o
  let ver (b t : Nat) : Nat := let m := s.manifest b
    if s.hasBase b || mftFormat m then partVersion (mftFind m t) else 0
  let s := (((((((s.wr .UPD_STAT_BANK r.bank).putF .UPD_STAT_TRIAL r.trial).wr .UPD_STAT_TRIALS s.marksUsed).putF
    .UPD_STAT_RETURNED r.returned).putF .UPD_STAT_FALLBACK r.fallback).putF .UPD_STAT_OTHERVALID r.otherValid).wr
    .UPD_STAT_LASTFAIL r.lastFail).wr .UPD_STAT_MIROTHER (if s.hasBase o || mftFormat mo then mftMir mo else 0)
  let s := (s.wr .UPD_MSEQ_FORCE (r.mseq r.bank)).wr .UPD_MSEQ_OTHER (r.mseq o)
  let vf := (List.range 5).map fun i => (ver r.bank (i + 1), ver o (i + 1))
  s.each (List.range 5) fun s i => (s.wr .UPD_VER (vf.getD i (0, 0)).1 i).wr .UPD_OVER (vf.getD i (0, 0)).2 i

/-! ## Verification and the choice of a bank -/

/-- A part of a bank verifies: its digest is that of its entry. -/
def State.partVerifies (s : State) (b t : Nat) : Bool :=
  let p := mftFind (s.manifest b) t
  sha384 (s.partBytes b p) = partDigest p

/-- What fails first in a bank, as LASTFAIL codes it, in the order of the start sequence: the manifest and parts 3 and 2 at
step 3, part 4 at step 6, parts 1 and 5 at step 10 (R457). The base image set verifies (R19, log entry 83). -/
def State.bankFails (s : State) (b : Nat) : Option Nat :=
  let m := s.manifest b
  if s.hasBase b then none
  else if !mftFormat m || !mftSigned m || mftSeq m ≠ s.record.mseq b then some 6
  else [3, 2, 4, 1, 5].find? fun t => !s.partVerifies b t

/-- The choice of the bank (R457): the bank that verifies, or rescue; whether a failure past step 3 has led to a full
reset on the way. `fuel` bounds the changes of bank: at most one return and one fallback. -/
def State.bankSelect (s : State) (again : Bool) : Nat → State × Option Nat × Bool
  | 0 => (s, none, again)
  | fuel + 1 =>
    let r := s.record
    let (s, b) := if r.trial && 3 ≤ s.marksUsed then
        (s.writeRec { r with bank := 1 - r.bank, trial := false, returned := true, lastFail := 7 }, 1 - r.bank)
      else (s, r.bank)
    let r := if r.trial && r.bank ≠ b then s.record else r
    match s.bankFails b with
    | none => (if r.trial then s.markTrial else s, some b, again)
    | some f =>
      let late := f ≠ 6 && f ≠ 3 && f ≠ 2
      if r.trial then
        (s.writeRec { r with bank := 1 - b, trial := false, returned := true, lastFail := f }).bankSelect (again || late) fuel
      else if !r.fallback && r.otherValid then
        (s.writeRec { r with bank := 1 - b, trial := false, fallback := true, lastFail := f }).bankSelect (again || late) fuel
      else (s, none, again)

end Sys2Proof.Machine
end

