-- ==== Sys2Proof/Machine/Update.lean ====
section
/-!
DEFINITION. Field update (R454 to R463): copy, abort, activation, confirmation, and the card.
-/
namespace Sys2Proof.Machine

/-- The state record of a pair after a change of the update state (R461). -/
def State.updRecord (s : State) : State :=
  if !s.pairMode then s
  else
    let b (f : Fld) (n : Nat) : Nat := s.rd f * 2 ^ n
    let st := b .UPD_STAT_STATE 0 + b .UPD_STAT_BANK 3 + b .UPD_STAT_TRIAL 4 + b .UPD_STAT_TRIALS 5 + b .UPD_STAT_RETURNED 7
      + b .UPD_STAT_FALLBACK 8 + b .UPD_STAT_OTHERVALID 9 + b .UPD_STAT_CARD 10 + b .UPD_STAT_LASTFAIL 11 + b .UPD_STAT_MIROTHER 16
    s.sendFree 0x09 ([0x01] ++ leBytes 3 st ++ [s.rd .UPD_RESULT_CODE + 16 * s.rd .UPD_RESULT_REFUSED] ++ leBytes 4 (s.rd .UPD_MSEQ_FORCE))

/-- The outcome of a command, with the registers that follow the record. -/
def State.updResult (s : State) (code : Nat) (refused : Bool) : State :=
  let s := (s.updView).wr .UPD_RESULT_CODE code
  (s.when refused (·.setF .UPD_RESULT_REFUSED)).updRecord

/-- A command for this unit: UNIT 0 in single mode, or the unit's own number; for another unit it does nothing here (R461).
The normal world may not write it (R463). -/
def State.updCmd (s : State) (who : Initiator) (unit : Nat) (g : State → State) : State :=
  if s.worldOf who = .normal then s.setF .UPD_RESULT_REFUSED
  else if unit % 4 = 3 || (unit % 4 = 0 && s.pairMode) then s.updResult 11 true
  else if unit % 4 = 0 || unit % 4 = s.rd .BR_STAT_UNIT + 1 then g s
  else s

/-- The bank that is not in force. -/
abbrev State.otherBank (s : State) : Nat := 1 - s.record.bank

/-- The file of a part, and a manifest whose part files all exist with the lengths it states (R454 check 4). -/
abbrev Card.file (c : Card) (p : List Nat) : Option (List Nat) := (c.files.find? fun f => f.1 == partFile p).map (·.2)
def Card.complete (c : Card) (m : List Nat) : Bool :=
  (mftParts m).all fun p => ((c.file p).map (·.length)) == some (partLen p)

/-- The code of the first check of R454 that fails; 0 none. `old` applies check 6. -/
def State.copyError (s : State) (old : Bool) : Nat :=
  if s.upd.copying.isSome then 1
  else if s.record.trial then 6
  else match s.upd.card with
  | none => 2
  | some c =>
    if !c.fits then 2
    else match c.mft with
    | none => 3
    | some m =>
      if !c.complete m then 3
      else if !mftFormat m then 4
      else if old && mftSeq m ≤ s.record.mseq s.record.bank then 5
      else 0

/-- Steps 1 and 2 of R454: the record, and the other bank erased. -/
def State.copyStart (s : State) (m : List Nat) : State :=
  let r := s.record
  let o := 1 - r.bank
  let s := (s.writeRec ({ r with copy := true, otherValid := false }.setMseq o 0)).wipe (norBank o) 0x7FE0000
  let s := { s with upd := { s.upd with copying := some m, baseSet := s.upd.baseSet && o ≠ 0 } }
  ((s.wr .UPD_STAT_STATE 2).wr .UPD_PROGRESS 0).putBit .HW_USE 5 true

/-- The parts of a manifest, as the card holds them, with their places in the other bank. -/
def State.copyParts (s : State) (m : List Nat) : List (Nat × List Nat) :=
  match s.upd.card with
  | none => []
  | some c => (mftParts m).map fun p => (partOff p, (c.file p).getD [])

/-- How far a copy under way has come shows in STATE and UPD_PROGRESS when they are read (R463): erasing and then programming, at
a pace that the manual leaves open (a free value; log entry 105). -/
def State.copyLive (s : State) : State :=
  match s.upd.copying with
  | none => s
  | some m =>
    if s.rd .UPD_STAT_STATE = 2 && s.fresh % 2 = 0 then s.freshened
    else
      let total := ((s.copyParts m).map (·.2.length)).sum
      let p := s.rd .UPD_PROGRESS
      ((s.freshened).wr .UPD_STAT_STATE 3).wr .UPD_PROGRESS (p + s.fresh / 2 % (total - p + 1))

/-- Parts programmed into a bank, the first `n` bytes of them all in manifest order. -/
def State.program (s : State) (bank : Nat) : Nat → List (Nat × List Nat) → State
  | _, [] => s
  | n, (off, l) :: rest => (s.setBytes (norBank bank + off) (l.take n)).program bank (n - l.length) rest

/-- A copy ends without its last step (R455): what was programmed before is a free value. -/
def State.copyTorn (s : State) (code : Nat) : State :=
  match s.upd.copying with
  | none => s
  | some m =>
    let parts := s.copyParts m
    let total := (parts.map (·.2.length)).sum
    let n := s.fresh % (total + 1)
    let s := (s.freshened.program s.otherBank n parts).wr .UPD_PROGRESS n
    let s := { s with upd := { s.upd with copying := none } }
    ((s.wr .UPD_STAT_STATE 5).putBit .HW_USE 5 false).updResult code false

/-- Steps 3 to 5 of R454. -/
def State.copyFinish (s : State) : State :=
  match s.upd.copying with
  | none => s
  | some m =>
    let parts := s.copyParts m
    let total := (parts.map (·.2.length)).sum
    let o := s.otherBank
    let s := ((s.program o total parts).setBytes (norBank o) m).wr .UPD_PROGRESS total
    let s := s.writeRec ({ s.record with copy := false, otherValid := true }.setMseq o (mftSeq m))
    let s := { s with upd := { s.upd with copying := none } }
    ((s.wr .UPD_STAT_STATE 4).putBit .HW_USE 5 false).updResult 0 false

/-- UPDATE_COPY (R454): UPD_CMD.OP = 1. -/
def execUpdateCopy (who : Initiator) (unit : Nat) (s : State) : Out := s.asMaster who <|
  .next <| (s.answer .none).updCmd who unit fun s =>
    match s.copyError true, s.upd.card.bind (·.mft) with
    | 0, some m => (s.copyStart m).updResult 0 false
    | c, _ => s.updResult c true

/-- COPY_DONE (R454, R455): every page has been programmed and read back (`code` 0), a card read has failed (7, CARD), or a page
did not read back as programmed (another code; FLASH). -/
def execCopyDone (code : Nat) (s : State) : Out := s.running <|
  .next (if code = 0 then s.copyFinish else s.copyTorn (if code = 7 then 7 else 8))

/-- UPDATE_ABORT (R455): UPD_CMD.OP = 5. -/
def execUpdateAbort (who : Initiator) (unit : Nat) (s : State) : Out := s.asMaster who <|
  .next <| (s.answer .none).updCmd who unit fun s =>
    if s.upd.copying.isSome then s.copyTorn 0 else s.updResult 0 false

/-- The code that refuses ACTIVATE (R456, R462); 0 none. -/
def State.activateError (s : State) : Nat :=
  let r := s.record
  let o := 1 - r.bank
  if !r.otherValid || r.copy then 9
  else if r.trial then 6
  else if r.mseq o ≤ r.mseq r.bank then 5
  else if s.pairMode && mftMir (s.manifest o) ≠ s.rd .BR_MIRFMT && s.workOpen then 10
  else 0

/-- The record of an activation (R456). -/
def State.activateRec (s : State) : State :=
  let r := s.record
  let o := 1 - r.bank
  s.writeRec { r with bank := o, trial := true, returned := false, fallback := false, confirm := mftConfirm (s.manifest o) }

/-- ACTIVATE (R456), with a full reset behind it for OP 3. -/
def State.activate (s : State) (reset : Bool) : State :=
  match s.activateError with
  | 0 =>
    let s := s.activateRec.updResult 0 false
    if reset then { s with pw := { s.pw with due := 3 } } else s
  | c => s.updResult c true

/-- UPDATE_ACTIVATE (R456): UPD_CMD.OP = 2. -/
def execUpdateActivate (who : Initiator) (unit : Nat) (s : State) : Out := s.asMaster who <|
  .next <| (s.answer .none).updCmd who unit fun s => s.activate false

/-- UPDATE_ACTIVATE_RESET (R456): UPD_CMD.OP = 3; the full reset follows the response. -/
def execUpdateActivateReset (who : Initiator) (unit : Nat) (s : State) : Out := s.asMaster who <|
  .next <| (s.answer .none).updCmd who unit fun s => s.activate true

/-- UPDATE_CONFIRM (R458): UPD_CMD.OP = 4. -/
def execUpdateConfirm (who : Initiator) (unit : Nat) (s : State) : Out := s.asMaster who <|
  .next <| (s.answer .none).updCmd who unit fun s =>
    if !s.record.trial then s.updResult 12 true
    else
      let s := (s.writeRec { s.record with trial := false }).wr .UPD_CONFIRM_LEFT 0
      ({ s with upd := { s.upd with confirmAt := none } }).updResult 0 false

/-- CONFIRM_TIMEOUT (R458): no confirmation has come by the deadline; Headwater writes SYS_RST.FULL. -/
def execConfirmTimeout (s : State) : Out := s.running <|
  .next <| if s.record.trial && s.upd.confirmAt.isSome then { s with pw := { s.pw with due := 2 } } else s

/-- CARD_REMOVED (R47, R455): card power is removed; a copy under way ends. -/
def execCardRemoved (s : State) : Out :=
  let s := s.copyTorn 7
  .next (({ s with upd := { s.upd with card := none } }).clrF .UPD_STAT_CARD).updRecord

/-- In rescue the loader copies the set on the card into the bank that is not BANK and activates it, and a full reset follows
(R459); without such a card it waits. -/
def State.rescueTry (s : State) : State :=
  let s := { s with upd := { s.upd with copying := none } }
  match s.copyError false, s.upd.card.bind (·.mft) with
  | 0, some m =>
    let s := (s.copyStart m).copyFinish.activateRec.updView
    { s with pw := { s.pw with due := 2 } }
  | _, _ => s

/-- CARD_INSERTED (R47, R459): a card closes card detect. -/
def execCardInserted (card : Card) (s : State) : Out :=
  let s := ({ s with upd := { s.upd with card := some card } }).setF .UPD_STAT_CARD
  .next (if s.rd .UPD_STAT_STATE = 6 then s.rescueTry else s.updRecord)

end Sys2Proof.Machine
end

