-- ==== Sys2Proof/Machine/Headwater.lean ====
section
/-!
DEFINITION. Headwater (R379 to R406): calls and services, the scrubbing return, measurement, debug tokens, restart alone,
the TRNG, tamper, lost blocks, and the world assignment.
-/
namespace Sys2Proof.Machine

/-! ## Messages on Eddy -/

/-- A message that hardware or firmware sends on a channel of Eddy (R348). -/
def State.eddySend (s : State) (e r : Nat) (w : List Nat) : State :=
  let i := 8 * e + r
  if 4 < (s.ed i).words.length + w.length then s.setF .ED_TX_STAT_REFUSED i
  else (s.setEd i { s.ed i with words := (s.ed i).words ++ w }).eddyView e r

/-- The doorbell of a channel (R348, R349). -/
def State.eddyRing (s : State) (e r : Nat) : State :=
  let i := 8 * e + r
  if (s.ed i).words.isEmpty then s
  else (s.setEd i { s.ed i with timer := true }).setF .ED_RX_STAT_RING (8 * r + e)

/-- A hart's call goes to Headwater as soon as its channel has room (R350, R384). -/
def State.callSend (s : State) (h : Nat) (m : List Nat) : State :=
  if 4 < (s.ed (8 * h + 6)).words.length + m.length then { s with head := { s.head with unsent := NMap.put [] s.head.unsent h m } }
  else ({ s with head := { s.head with unsent := NMap.put [] s.head.unsent h [] } }.eddySend h 6 m).eddyRing h 6

/-- The receiver takes `n` words of a channel; a call that waits for room follows. -/
def State.eddyTake (s : State) (e r n : Nat) : State :=
  let i := 8 * e + r
  let w := (s.ed i).words.drop n
  let s := (s.setEd i { s.ed i with words := w, timer := !w.isEmpty }).eddyView e r
  let s := if w.isEmpty then (s.setF .ED_TX_STAT_EMPTYEVT i).when (bit (s.rd .ED_IE_EMPTY e) r) (·.eddyIrq e) else s
  let m := NMap.at [] s.head.unsent e
  if r = 6 && e < 4 && !m.isEmpty then s.callSend e m else s

/-! ## Calls -/

/-- The services of R387. -/
def services : List Nat := [0x0001, 0x0010, 0x0011, 0x0012, 0x0013, 0x0014, 0x0015, 0x0020]

/-- The endpoint has a whole call on its channel to HW (endpoint 6). -/
abbrev State.hasCall (s : State) (e : Nat) : Bool := 4 ≤ (s.ed (8 * e + 6)).words.length

/-- The call Headwater takes next: S0, S1, then the harts in turn after the one last served (R385). -/
def State.nextCall (s : State) : Option Nat :=
  ([4, 5] ++ (List.range 4).map fun i => (s.head.last + 1 + i) % 4).find? s.hasCall

/-- What a service sees of its caller: world, partition, ARG0 to ARG2. -/
structure Call where
  e : Nat
  world : World
  part : Nat
  seq : Nat
  arg : List Nat
  deriving DecidableEq, Repr

/-- The call of endpoint `e`. -/
def State.callOf (s : State) (e : Nat) : Call :=
  let w := (s.ed (8 * e + 6)).words
  let w0 := w.headD 0
  ⟨e, if e < 4 then .normal else .safety, if e < 4 then bits w0 16 5 else 0, bits w0 32 32, (w.drop 1).take 3⟩

abbrev Call.lo (c : Call) (i : Nat) : Nat := cut 32 (c.arg.getD i 0)
abbrev Call.hi (c : Call) (i : Nat) : Nat := bits (c.arg.getD i 0) 32 32

/-- The memory of a caller's buffer is open to it (R387). -/
abbrev State.bufOk (s : State) (c : Call) (a n : Nat) (k : Access) : Bool :=
  s.rangeOk (eddyMaster c.e) c.world a n k

/-- The registers that SCRET clears (R386). -/
def scretX (i : Nat) : Bool := (5 ≤ i && i ≤ 7) || (12 ≤ i && i ≤ 17) || 28 ≤ i
def scretF (i : Nat) : Bool := i ≤ 7 || (10 ≤ i && i ≤ 17) || 28 ≤ i

/-- A register list with the registers that `p` names cleared. -/
def scrub (p : Nat → Bool) (l : List Nat) : List Nat := l.zipIdx.map fun r => if p r.2 then 0 else r.1

/-- MRET (PRESUMED, the RISC-V privileged architecture that R386 refers to; log entry 31). -/
def Hart.mret (h : Hart) : Hart :=
  { h with pc := h.mepc, mode := h.mpp, virt := h.mpp != 3 && h.mpv, mie := h.mpie, mpie := true, mpp := 0, mpv := false,
           mprv := h.mprv && h.mpp == 3 }

/-- A trap taken into M mode (PRESUMED, as for MRET). -/
def Hart.trap (h : Hart) (cause tval : Nat) : Hart :=
  { h with mepc := h.pc, mcause := cause, mtval := tval, mpp := h.mode, mpv := h.virt, virt := false, mpie := h.mie, mie := false,
           mode := 3, pc := 4 * (h.mtvec / 4) }

/-- The illegal instruction exception. -/
abbrev Hart.illegal (h : Hart) (insn : Nat) : Hart := h.trap 2 insn

/-- The trap of an ECALL (PRESUMED, as for MRET): its cause tells the mode of the caller. -/
def Hart.ecall (h : Hart) : Hart := h.trap (if h.mode = 3 then 11 else if h.mode = 0 then 8 else if h.virt then 10 else 9) 0

/-- The scrubbing return in M mode (R386). -/
def Hart.scret (h : Hart) : Hart := { h.mret with x := scrub scretX h.x, f := scrub scretF h.f, fflags := 0 }

/-- The monitor returns to the caller of hart `h` by the scrubbing return, past the ECALL (R384, R386): STATUS in a0, and VALUE,
where an answer holds one, in a1. -/
def State.callReturn (s : State) (h status : Nat) (value : Option Nat) : State :=
  let c : Hart := NMap.at {} s.hart (h % 4)
  let x := c.x.set 10 status
  let x := (value.map fun v => x.set 11 (v % 2 ^ 64)).getD x
  { s with hart := NMap.put {} s.hart (h % 4) { c with x := x, mepc := (c.mepc + 4) % 2 ^ 64 }.scret }

/-- Code of hart `h` places the service in a7 and the arguments in a0 to a2 and executes ECALL (R384). -/
def State.callTrap (s : State) (h service a0 a1 a2 : Nat) : State :=
  let c : Hart := NMap.at {} s.hart (h % 4)
  let x := (((c.x.set 10 (cut 64 a0)).set 11 (cut 64 a1)).set 12 (cut 64 a2)).set 17 (cut 64 service)
  { s with hart := NMap.put {} s.hart (h % 4) { c with x := x }.ecall }

/-- The answer to a call: STATUS, CALLSEQ and VALUE on the channel from HW (R384, R385). The monitor of a hart pops it, and
returns it to the caller that still waits for this CALLSEQ; a late one is discarded. -/
def State.answerCall (s : State) (c : Call) (status value : Nat) : State :=
  let s := s.eddyTake c.e 6 4
  let h := s.head
  let waits := c.e < 4 && h.calling.getD c.e none = some c.seq
  let s := { s with head := { h with last := if c.e < 4 then c.e else h.last,
                                     calling := if waits then h.calling.set c.e none else h.calling } }
  let s := (s.eddySend 6 c.e [status + 2 ^ 32 * c.seq, value % 2 ^ 64]).eddyRing 6 c.e
  let s := if c.e < 4 then (s.eddyTake 6 c.e 2).clrF .ED_RX_STAT_RING (8 * c.e + 6) else s
  (s.when waits (·.callReturn c.e status (some value))).answer (.statusData status (leBytes 8 value))

/-- Headwater serves the next call where it asks for service `n` (R385, R387). A key service answers KEYLESS while the
device runs keyless (R402). -/
def State.serve (s : State) (n : Nat) (key : Bool) (g : State → Call → State × Nat × Nat) : State :=
  let s := s.answer .none
  match s.nextCall with
  | none => s
  | some e =>
    if (s.ed (8 * e + 6)).words.headD 0 % 65536 ≠ n || !s.flag .HW_STAT_READY || s.head.halted then s
    else
      let c := s.callOf e
      if key && s.flag .HW_STAT_KEYLESS then s.answerCall c 7 0
      else
        let r := g s c
        r.1.answerCall c r.2.1 r.2.2

/-- The slot a handle names for a caller, or the status that says why it does not (R395): slot and generation, usage,
world and partition. -/
def State.useKey (s : State) (c : Call) (handle : Nat) (fits : KeySlot → Bool) : Nat ⊕ Nat :=
  let n := handleSlot handle
  let k := s.slot n
  if !k.used || k.gen ≠ handleGen handle then .inl 2
  else if !fits k then .inl 3
  else if !k.openTo c.world c.part then .inl 4
  else .inr n

/-- A free slot (R396). -/
def State.freeSlot (s : State) : Option Nat := ((List.range 248).map (· + 8)).find? fun n => !(s.slot n).used

/-- An attribute word is in range (R394): TYPE, the code of WORLD, PART of another world, the reserved bits. -/
def attrRange (a : Nat) : Bool :=
  1 ≤ bits a 7 3 && bits a 7 3 ≤ 5 && bits a 10 2 ≠ 3 && (bits a 10 2 = 0 || bits a 12 5 = 0) && bits a 25 7 = 0

/-- The caller may own a key with this attribute word (R396, R397). -/
def attrOwn (c : Call) (a : Nat) : Bool :=
  owns c.world (World.ofCode (bits a 10 2)) && (bits a 10 2 ≠ 0 || c.part = 0 || bits a 12 5 = c.part)

/-- An attribute word with another PARENT. -/
def attrParent (a p : Nat) : Nat := a % 2 ^ 17 + p % 256 * 2 ^ 17

/-- A key placed into a slot; its handle. -/
def State.placeKey (s : State) (n : Nat) (key : List Nat) (a : Nat) : State × Nat × Nat :=
  let s := s.storeKey n (padTo (keyBytes (bits a 7 3)) key) a
  (s, 0, s.handleOf n)

/-- MONITOR_CALL (R384, R385): an ECALL of hart `h` for a partition, which waits for its answer in the monitor. A service that is
not one of R387 is not permitted. -/
def execMonitorCall (h part service a0 a1 a2 : Nat) (permitted : Bool) (s : State) : Out := s.running <|
  let h := h % 4
  let s := s.answer .none
  .next <| if (s.head.calling.getD h none).isSome then s
  else
    let s := s.callTrap h service a0 a1 a2
    if !permitted || !services.contains (cut 64 service) then (s.callReturn h 1 none).answer (.status 1)
  else
    let q := (s.head.callSeq.getD h 0 + 1) % 2 ^ 32
    let s := { s with head := { s.head with callSeq := s.head.callSeq.set h q, calling := s.head.calling.set h (some q) } }
    s.callSend h [cut 16 service + part % 32 * 2 ^ 16 + q * 2 ^ 32, cut 64 a0, cut 64 a1, cut 64 a2]

/-- MONITOR_CALL_TIMEOUT (R384): 20 ms without an answer. -/
def execMonitorCallTimeout (h : Nat) (s : State) : Out := s.running <|
  let h := h % 4
  .next <| if (s.head.calling.getD h none).isNone then s
  else (({ s with head := { s.head with calling := s.head.calling.set h none, unsent := NMap.put [] s.head.unsent h [] } }).callReturn
    h 9 none).answer (.status 9)

/-! ## The scrubbing return -/

/-- SCRET (R386), executed by hart `h`. -/
def execScret (h : Nat) (s : State) : Out := s.running <|
  let h := h % 4
  let c : Hart := NMap.at {} s.hart h
  let c' : Hart := if c.mode = 3 then c.scret else c.illegal 0x8000000B
  .next { (s.answer .none) with hart := NMap.put {} s.hart h c' }

/-! ## Services -/

/-- RANDOM (R387, R399). -/
def execRandom (s : State) : Out := s.running <|
  .next <| s.serve 0x0001 false fun s _ =>
    if s.flag .HW_STAT_TRNGFAIL then (s, 10, 0)
    else (s.freshened, 0, cut 64 (leVal ((Config.randomBytes s.free 8).map (· % 256))))

/-- KEY_DERIVE (R396, R399). -/
def execKeyDerive (s : State) : Out := s.running <|
  .next <| s.serve 0x0010 true fun s c =>
    let a := c.hi 0
    if !attrRange a then (s, 6, 0)
    else match s.useKey c (c.lo 0) fun k => bit k.attr 5 with
    | .inl st => (s, st, 0)
    | .inr p =>
      let k := s.slot p
      if !attrOwn c a then (s, 4, 0)
      else if bit a 0 && !bit k.attr 0 then (s, 3, 0)
      else if s.flag .HW_STAT_TRNGFAIL && (bits a 7 3 = 3 || bits a 7 3 = 4) then (s, 10, 0)
      else match s.freeSlot with
      | none => (s, 5, 0)
      | some n =>
        let a := attrParent a p
        s.placeKey n (Config.kdf k.key (leBytes 8 (c.arg.getD 1 0) ++ leBytes 8 (c.arg.getD 2 0)) a k.origin (keyBytes (bits a 7 3))) a

/-- KEY_DESTROY (R400). -/
def execKeyDestroy (s : State) : Out := s.running <|
  .next <| s.serve 0x0011 true fun s c =>
    if handleSlot (c.lo 0) < 4 then (s, 1, 0)
    else match s.useKey c (c.lo 0) fun _ => true with
    | .inl st => (s, st, 0)
    | .inr n =>
      let r := s.revoke n
      (r.1, 0, r.2)

/-- KEY_INFO (R387). -/
def execKeyInfo (s : State) : Out := s.running <|
  .next <| s.serve 0x0012 true fun s c =>
    match s.useKey c (c.lo 0) fun _ => true with
    | .inl st => (s, st, 0)
    | .inr n => (s, 0, (s.slot n).attr + 2 ^ 32 * (s.slot n).gen)

/-- Length of a blob (R397). -/
abbrev blobLen (keyLen : Nat) : Nat := 8 * ceilDiv (4 + keyLen) 8 + 8

/-- A key that may wrap (R397): WRAP, of the size AES-256 takes. -/
abbrev wraps (k : KeySlot) : Bool := bit k.attr 6 && k.type = 2

/-- KEY_EXPORT (R397). -/
def execKeyExport (s : State) : Out := s.running <|
  .next <| s.serve 0x0013 true fun s c =>
    match s.useKey c (c.lo 0) fun k => bit k.attr 0, s.useKey c (c.hi 0) wraps with
    | .inl st, _ => (s, st, 0)
    | .inr _, .inl st => (s, st, 0)
    | .inr n, .inr w =>
      let k := s.slot n
      let buf := c.arg.getD 1 0
      if k.world ≠ (s.slot w).world then (s, 4, 0)
      else if !s.bufOk c buf 64 .write then (s, 1, 0)
      else
        let m := blobLen (keyBytes k.type)
        (s.setBytes buf (padTo m ((Config.kwpWrap (s.slot w).key (leBytes 4 k.attr ++ k.key)).map (· % 256))), 0, m)

/-- A failed import into an occupied chain (R400): where slots in use descend from the free slot that the import would have
taken, they are revoked. -/
def State.importFailed (s : State) : State :=
  match s.freeSlot with
  | some n => s.when (s.usedSlots.any fun m => s.descends n 256 m) fun s => (s.revoke n).1
  | none => s

/-- KEY_IMPORT (R397): the blob has to hold the attribute word of the call, but for PARENT (log entry 30). -/
def execKeyImport (s : State) : Out := s.running <|
  .next <| s.serve 0x0014 true fun s c =>
    let a := c.hi 0
    let buf := c.arg.getD 1 0
    let m := blobLen (keyBytes (bits a 7 3))
    if !attrRange a then (s, 6, 0)
    else match s.useKey c (c.lo 0) wraps with
    | .inl st => (s, st, 0)
    | .inr w =>
      if !attrOwn c a || World.ofCode (bits a 10 2) ≠ (s.slot w).world then (s, 4, 0)
      else if !s.bufOk c buf m .read then (s, 1, 0)
      else match Config.kwpUnwrap (s.slot w).key (s.loadBytes buf m) with
      | none => (s.importFailed, 6, 0)
      | some p =>
        if leVal (p.take 4) % 2 ^ 17 ≠ a % 2 ^ 17 then (s.importFailed, 6, 0)
        else match s.freeSlot with
        | none => (s, 5, 0)
        | some n => s.placeKey n ((p.drop 4).map (· % 256)) (attrParent a n)

/-- KEY_PUBLIC (R387). -/
def execKeyPublic (s : State) : Out := s.running <|
  .next <| s.serve 0x0015 true fun s c =>
    match s.useKey c (c.lo 0) fun k => k.type = 3 || k.type = 4 with
    | .inl st => (s, st, 0)
    | .inr n =>
      let curve := (s.slot n).type - 2
      let buf := c.arg.getD 1 0
      if !s.bufOk c buf 96 .write then (s, 1, 0)
      else (s.setBytes buf (padTo (curveBytes curve) ((Config.ecPublic curve (s.slot n).key).map (· % 256))), 0, curveBytes curve)

/-- MEASURE_READ (R387, R390). -/
def execMeasureRead (s : State) : Out := s.running <|
  .next <| s.serve 0x0020 false fun s c =>
    let i := c.arg.getD 0 0
    let buf := c.arg.getD 1 0
    if 6 ≤ i then (s, 6, 0)
    else if !s.bufOk c buf 48 .write then (s, 1, 0)
    else (s.setBytes buf (padTo 48 (s.head.measure.getD i [])), 0, 48)

/-! ## Debug enables -/

/-- A request of class `cls` has the rights of class S on an object that has them for this class alone: SERVICE_KEY is asserted
and no override removes them (R7, R8, R409). -/
def State.service (s : State) (cls index : Nat) (write : Bool) : Bool := cls = 2 && s.pw.key && !s.overridden cls index write

/-- DEBUG_CHALLENGE (R389, R399, R406): a read of 0x2A04.00 on a path of class `cls` (0 P, 1 E, 2 S, 3 B, 4 I). -/
def execDebugChallenge (cls : Nat) (s : State) : Out := s.running <|
  .next <| if !s.service cls 0x2A04 false then s.answer (.abort abortRights)
  else if s.flag .HW_STAT_TRNGFAIL then s.answer (.abort abortValue)
  else
    let c := padTo 32 ((Config.randomBytes s.free 32).map (· % 256))
    ({ s.freshened with head := { s.head with challenge := some (s.now, c) } }).answer (.data c)

/-- A token is valid (R389): its challenge is the latest and no older than 60 s, its request holds enables only, and its
signature verifies. -/
def State.tokenOk (s : State) (token : List Nat) : Bool :=
  match s.head.challenge with
  | none => false
  | some (t, c) =>
    let key := Config.debugKey (s.partBytes (s.rd .UPD_STAT_BANK) (mftFind (s.manifest (s.rd .UPD_STAT_BANK)) 3))
    let req := token.take 8
    s.now ≤ t + 6000000000 && leVal req < 64 && !s.locked 2
      && Config.ecdsaVerify 2 key (sha384 (c ++ leBytes 4 s.factory.serial ++ req)) (token.drop 8)

/-- HW_DBG as one value, and with bits set, those of the secure world only where the image permits (R388). -/
def State.dbg (s : State) : Nat :=
  s.rd .HW_DBG_NNID + 2 * s.rd .HW_DBG_NID + 4 * s.rd .HW_DBG_SNID + 8 * s.rd .HW_DBG_SID + 16 * s.rd .HW_DBG_XNID + 32 * s.rd .HW_DBG_XID

def State.setDbg (s : State) (v : Nat) : State :=
  let p := s.head.debugOk
  (((((s.putF .HW_DBG_NNID (bit v 0)).putF .HW_DBG_NID (bit v 1)).putF .HW_DBG_SNID (bit v 2)).putF .HW_DBG_SID (bit v 3)).putF
    .HW_DBG_XNID (bit v 4 && p)).putF .HW_DBG_XID (bit v 5 && p)

/-- DEBUG_TOKEN (R389, R406): a write of 0x2A05.00. A valid token sets the enables it asks for; its challenge stays the latest,
valid for its 60 s. -/
def execDebugToken (cls : Nat) (token : List Nat) (s : State) : Out := s.running <|
  .next <| if !s.service cls 0x2A05 true then s.answer (.abort abortRights)
  else if token.length ≠ 104 then s.answer (.abort abortLength)
  else if !s.tokenOk token then (s.log 0x0A 0x02 Initiator.hw []).answer (.abort abortValue)
  else
    let v := leVal (token.take 8)
    let s := { s with head := { s.head with token := s.head.token ||| v } }
    (s.setDbg (s.dbg ||| v)).answer (.abort 0)

/-! ## Restart alone -/

/-- Slots 0 to 3 with the keys that derive from the root (R393, R396). -/
def State.deriveRoots (s : State) : State :=
  let at' (typ use world : Nat) : Nat := use + typ * 2 ^ 7 + world * 2 ^ 10
  let put (s : State) (n typ use world : Nat) : State :=
    s.storeKey n (padTo (keyBytes typ) ((Config.deviceKey n).map (· % 256))) (at' typ use world)
  put (put (put (put s 0 5 32 2) 1 5 32 0) 2 5 32 1) 3 4 8 2

/-- A raised source of class 2 or 3 that is still raised blocks the root, and so does ZEROISED (R402, R403). -/
def State.rootBlocked (s : State) : Bool :=
  s.flag .TP_STAT_ZEROISED ||
    (List.range 8).any fun n => bit (s.rd .TP_STAT_LIVE) n && bit (s.rd .TP_CFG) (4 * n) && 2 ≤ bits (s.rd .TP_CFG) (4 * n + 1) 2

/-- Sources that were still raised may have ended meanwhile: no command tells when one ends, so which have is a free value (log
entry 105). -/
def State.settleLive (s : State) : State :=
  if s.rd .TP_STAT_LIVE = 0 then s else (s.freshened).wr .TP_STAT_LIVE (s.rd .TP_STAT_LIVE &&& s.fresh)

/-- The CRC-32 of the helper data holds in neither factory area (R393). Their layout is not stated: a free value of the bytes. -/
def State.helperBad (s : State) : Bool :=
  (List.range 2).all fun b => Config.helperBad (s.loadBytes (norBank b + 0x7FF0000) 0x10000)

/-- The root regenerated from the PUF and the helper data (R393), unless it is blocked or they fail: whether the response can be
corrected is a free value. -/
def State.regenerate (s : State) (blocked : Bool) : State :=
  let s := s.settleLive
  let fails := s.helperBad || s.fresh % 2 = 1
  let s := (s.freshened).putF .HW_STAT_PUFFAIL fails
  if blocked || s.rootBlocked || fails then s.setF .HW_STAT_KEYLESS
  else (s.clrF .HW_STAT_KEYLESS).deriveRoots

/-- The measurement log still matches HW_MEASLOG, and the Headwater image register 1 (R392). -/
def State.remeasure (s : State) : Bool :=
  let b := s.rd .UPD_STAT_BANK
  sha384 (s.partBytes b (mftFind (s.manifest b) 3)) = s.head.measure.getD 1 []
    && sha384 (s.bytesAt measBase measSize) = (List.range 12).flatMap fun i => leBytes 4 (s.rd .HW_MEASLOG i)

/-- Headwater restarts alone (R336, R391, R392); `cause` 1 watchdog, 2 HW_CMD.RESTART, 3 object 0x2A40.00, 4 its firmware (log
entry 32). -/
def State.headRestart (s : State) (cause : Nat) : State :=
  let s := s.abortKeys 8 fun _ => true
  let s := s.each s.usedSlots State.liftSlot
  let s := s.each (List.range 6) fun s e => if s.hasCall e then s.answerCall (s.callOf e) 8 0 else s
  let s := { s with head := { s.head with challenge := none, quoteWait := none } }
  let same := s.remeasure
  let s := (s.inc .HW_STAT_RESTARTS).log 0x0A 0x03 Initiator.hw [cause]
  let s := if same then s else (s.setF .HW_STAT_MEASFAIL).log 0x0A 0x04 Initiator.hw []
  let s := s.regenerate (!same || s.flag .HW_STAT_MEASFAIL)
  (((s.putF .HW_STAT_READY s.factory.romOk).releaseLocks 0x00).remaskRound).answer .none

/-- HEADWATER_RESTART (R391, R405): HW_CMD.RESTART of a safety pair, no other safety-world master, or of the secure world, or
Headwater's firmware. -/
def execHeadwaterRestart (who : Initiator) (s : State) : Out := s.asMaster who <|
  .next <| match s.worldOf who with
  | .normal => (s.setF .HW_STAT_REFUSED).answer .none
  | .safety => if who.master = 1 || who.master = 2 then s.headRestart 2 else (s.setF .HW_STAT_REFUSED).answer .none
  | .secure => s.headRestart (if who.master = 0 then 4 else 2)

/-- HEADWATER_WATCHDOG_EXPIRE (R391). -/
def execHeadwaterWatchdogExpire (s : State) : Out := s.running <| .next (s.headRestart 1)

/-! ## Masks and entropy -/

/-- REMASK_ROUND (R398). -/
def execRemaskRound (s : State) : Out := s.running <| .next s.remaskRound

/-- TRNG_HEALTH_FAIL (R399). -/
def execTrngHealthFail (s : State) : Out := s.running <| .next (s.setF .HW_STAT_TRNGFAIL)

/-- TRNG_HEALTH_RECOVER (R399). -/
def execTrngHealthRecover (s : State) : Out := s.running <| .next (s.clrF .HW_STAT_TRNGFAIL)

/-! ## Tamper -/

/-- Class 2 of R402: slots 1 to 255 and the engines' keys are overwritten, every generation advances, and the device runs
keyless. Class 3 clears slot 0 too. -/
def State.clearKeys (s : State) (zero : Bool) : State :=
  let s := s.each (List.range 256) fun s n =>
    if n ≠ 0 || zero then s.clearSlot n else s.setSlot n { s.slot n with gen := ((s.slot n).gen + 1) % 2 ^ 24 }
  s.setF .HW_STAT_KEYLESS

/-- The next fuse of the zeroise row programmed (R402). -/
def State.burnFuse (s : State) : State := { s with head := { s.head with fuses := min 31 (s.head.fuses + 1) } }

/-- The tamper interrupt of the secure world, on Headwater's local controller, and of the safety world. R353 gives them no
number (DESIGN CHOICE, log entry 33). -/
abbrev tamperSecure : Nat := 3063
abbrev tamperSafety : Nat := 3064

/-- The actions of a class on a source (R402). -/
def State.tamperAct (s : State) (src cls stamp : Nat) : State :=
  let s := (s.logStamped stamp 0x0A 0x01 Initiator.hw [src, cls]).raise tamperSafety
  let s := ((s.raise tamperSecure).abortKeys 9 fun _ => true).remaskRound
  let s := if 2 ≤ cls then s.clearKeys (cls == 3) else s
  if cls = 3 then
    let s := s.burnFuse
    s.when (s.head.fuses % 2 == 1) (·.setF .TP_STAT_ZEROISED)
  else s

/-- TAMPER_RAISE (R401 to R403): source `src` is raised, and stays raised where `still` says so. In Standby and Sleep the
always-on domain latches it with its class and stamp. Without a logic feed no source is watched (R32). -/
def execTamperRaise (src : Nat) (still : Bool) (s : State) : Out :=
  let src := src % 8
  let cfg := s.rd .TP_CFG
  .next <| if s.unpowered || !bit cfg (4 * src) then s
  else
    let cls := bits cfg (4 * src + 1) 2
    let s := ((s.putBit .TP_STAT_LATCH src true).putBit .TP_STAT_LIVE src still).inc .TP_CNT
    if 3 ≤ s.rd .SYS_PWR_STAT_STATE then
      { s with head := { s.head with latched := s.head.latched ++ [(src, cls, s.stamp)] } }
    else s.tamperAct src cls s.stamp

/-- ZEROISE_CLEAR (R402, R406): true written to 0x2A32.00 under class S programs the next fuse. -/
def execZeroiseClear (cls : Nat) (s : State) : Out := s.running <|
  .next <| if !s.service cls 0x2A32 true then s.answer (.abort abortRights) else s.burnFuse.answer (.abort 0)

/-! ## Attestation -/

/-- The signed part of a quote (R406). -/
def State.quoteBody (s : State) (nonce : List Nat) : List Nat :=
  padTo 32 nonce ++ leBytes 4 s.factory.serial ++ leBytes 8 s.stamp ++ (List.range 6).flatMap fun i => padTo 48 (s.head.measure.getD i [])

/-- ATTESTATION_NONCE (R406): a write of 0x2A21.00 starts a quote. -/
def execAttestationNonce (nonce : List Nat) (s : State) : Out := s.running <|
  .next <| if nonce.length ≠ 32 then s.answer (.abort abortLength)
  else ({ s with head := { s.head with quoteWait := some (nonce.map (· % 256)) } }).answer (.abort 0)

/-- ATTESTATION_QUOTE_READY (R406): signed by slot 3 over the SHA-384 digest. -/
def execAttestationQuoteReady (s : State) : Out := s.running <|
  .next <| match s.head.quoteWait with
  | none => s
  | some n =>
    if s.flag .HW_STAT_KEYLESS then { s with head := { s.head with quoteWait := none, quote := [] } }
    else
      let b := s.quoteBody n
      { s with head := { s.head with quoteWait := none, quote := b ++ padTo 96 (Config.ecdsaSign 2 (s.slot 3).key (sha384 b)) } }

/-! ## Blocks the secure world uses -/

/-- LOST_BLOCK (R404): a marked block loses its power or clock without a request. Blocks are numbered as bits of HW_USE. The
operations in flight in it end with TAMPER, those that hold a key over the key bus among them; a copy in the SD host ends; the
keys it held are cleared, and a re-mask round runs (R398). The block then holds nothing, as after its reset. -/
def execLostBlock (b : Nat) (s : State) : Out := s.running <|
  let b := b % 7
  .next <| if !bit s.inUse b then s
  else
    let s := s.setF .HW_STAT_LOSTBLK
    let hit (o : DeltaOp) : Bool := (b = 0 && o.unit = 4) || (b = 1 && o.unit = 5) || (b = 2 && o.unit = 6) || (b = 4 && o.slot.isSome)
    let s := s.each (List.range 64) fun s q =>
      match (s.dqu q).fly with
      | some o => if hit o && o.fate.isNone then s.setDq q { s.dqu q with fly := some { o.noKey with stop := some 9 } } else s
      | none => s
    let s := s.remaskRound
    let s := if b = 6 then (s.each s.usedSlots State.clearSlot).setF .HW_STAT_KEYLESS else s
    let s := if b = 5 then s.copyTorn 7 else s
    s.putBit .HW_USE b false

/-! ## World assignment -/

/-- The resources of world assignment register `r`: WA_SL_LO, WA_SL_HI, WA_IO0 to 2, WA_CAN, WA_PORT, WA_MRIRQ (R380). -/
def waFld (r : Nat) : Fld × Nat :=
  match r with
  | 0 => (.WA_SL, 0)
  | 1 => (.WA_SL, 1)
  | 2 => (.WA_IO, 0)
  | 3 => (.WA_IO, 1)
  | 4 => (.WA_IO, 2)
  | 5 => (.WA_CAN, 0)
  | 6 => (.WA_PORT, 0)
  | _ => (.WA_MRIRQ, 0)

/-- Resources a register assigns; the field of P8 is reserved. -/
def waCount (r : Nat) : List Nat := if r = 6 then [0, 1, 2, 3, 4, 5, 6, 7, 9] else List.range 16

/-- The entry targets resource `i` of register `r` (R69). -/
def waTarget (r i : Nat) (e : EvtEntry) : Bool :=
  match r with
  | 0 | 1 => e.ttype = 1 && e.tindex = 16 * r + i
  | 2 | 3 | 4 => e.ttype = 2 && e.tindex = 16 * (r - 2) + i
  | 5 => e.ttype = 4 && e.tindex = i
  | 7 => e.ttype = 3 && e.tindex = i
  | _ => false

/-- A resource is active (R380). -/
def State.waActive (s : State) (r i : Nat) : Bool :=
  match r with
  | 0 | 1 => s.rd .SL_STAT_STATE (16 * r + i) ≠ 0
  | 2 | 3 | 4 => (s.fio (16 * (r - 2) + i)).cmdOn
  | 5 => s.flag .CAN_CTL_EN i
  | 6 => s.flag .CFP_CTL_EN i
  | _ => s.evt.any fun p => p.2.valid && waTarget 7 i p.2

/-- One resource given another world: entries of other worlds that target it are cancelled and recorded (R380). -/
def State.waChange (s : State) (r i w : Nat) : State :=
  let f := waFld r
  let v := s.rd f.1 f.2
  let s := s.wr f.1 (v - bits v (2 * i) 2 * 2 ^ (2 * i) + w * 2 ^ (2 * i)) f.2
  let hit := (s.evt.filter fun p => p.2.valid && waTarget r i p.2 && p.2.world != World.ofCode w).map (·.1)
  s.each hit fun s n => (s.evtClear n).log 0x02 0x05 Initiator.hw (leBytes 2 n)

/-- WORLD_ASSIGN (R380, R405, R477): a write of a world assignment register; each resource's two bits are a field. -/
def execWorldAssign (who : Initiator) (r v : Nat) (s : State) : Out := s.asMaster who <|
  let r := r % 8
  let s := s.answer .none
  let f := waFld r
  let old := s.rd f.1 f.2
  let diff := (waCount r).filter fun i => bits v (2 * i) 2 ≠ bits old (2 * i) 2
  .next <| if diff.isEmpty then s
  else if s.worldOf who ≠ .secure then s.setF .HW_STAT_REFUSED
  else if s.frozen who 0 then (s.setF .HW_STAT_REFUSED).logLocked who (0x40000420 + 4 * r) v
  else
    let s := s.confWrite
    s.each diff fun s i =>
      if bits v (2 * i) 2 = 3 || s.waActive r i then s.setF .HW_STAT_REFUSED else s.waChange r i (bits v (2 * i) 2)

end Sys2Proof.Machine
end

