-- ==== Sys2Proof/Machine/BraidCmd.lean ====
section
/-!
DEFINITION. The Braid commands that a register write gives (R289, R292, R301, R320, R321, R324): mode, keepalive, release,
planned swap, adoption, resynchronisation, state regions.
-/
namespace Sys2Proof.Machine

/-- A write to the BRAID block: safety-only (R324, R379). -/
def State.brWrite (s : State) (who : Initiator) (g : State → State) : State :=
  if s.worldOf who = .safety then g (s.answer .none) else (s.answer .none).setF .BR_STAT_REFUSED

/-- KEEPALIVE (R292): any value written to BR_KEEP. -/
def execKeepalive (who : Initiator) (s : State) : Out := s.asMaster who <|
  .next <| s.brWrite who fun s => { s with braid := { s.braid with kept := true } }

/-- KEEPALIVE_EXPIRE (R292): 2 ms without a write of BR_KEEP. -/
def execKeepaliveExpire (s : State) : Out := s.running <|
  .next <| if !s.pairMode then s
  else
    let s := { s with braid := { s.braid with kept := false } }
    if s.brState = 5 || s.brState = 6 then s.dropLatch.brGo 2 else s

/-- The claim is released, or the latch clears in its confirm window (R292). A unit that holds none has nothing to release. -/
def State.brRelease (s : State) : State :=
  if s.pairMode && (s.braid.latch || s.brState = 5 || s.brState = 6) then s.yieldClaim false else s

/-- CLAIM_RELEASE (R292): BR_CMD.RELEASE. -/
def execClaimRelease (who : Initiator) (s : State) : Out := s.asMaster who <| .next (s.brWrite who State.brRelease)

/-- A planned swap is accepted: the partner has stood by without divergence for CMPWIN turns (R301). -/
def State.swapOk (s : State) : Bool :=
  s.pairMode && s.brState = 5 && s.rd .BR_PEER % 16 = 4 && s.rd .BR_CTL_CMPWIN ≤ s.braid.agree

/-- The swap waits for the turn boundary. -/
def State.brSwap (s : State) : State :=
  if s.swapOk then { s with braid := { s.braid with swapWait := true } } else s.setF .BR_STAT_REFUSED

/-- PLANNED_SWAP (R301): BR_CMD.SWAP. -/
def execPlannedSwap (who : Initiator) (s : State) : Out := s.asMaster who <| .next (s.brWrite who State.brSwap)

/-- Adoption is accepted (R320, R291): a unit of a pair in STALE or INIT whose partner is not heard in ACTIVE or ALONE, and
whose claim reads released. -/
def State.adoptOk (s : State) : Bool :=
  s.pairMode && (s.brState = 2 || (s.brState = 0 && s.rd .BR_FENCE_FENCECH ≠ 0)) && !s.flag .SYS_WAKE_RESTORE && !s.flag .BR_STAT_PCLAIM && !s.braid.latch
    && !((s.flag .BR_STAT_P9OK || s.flag .BR_STAT_HBOK) && (s.rd .BR_PEER % 16 = 5 || s.rd .BR_PEER % 16 = 6))

/-- The latch is set for adoption, once the partner's claim has read released for 40 us. -/
def State.brAdopt (s : State) : State := if s.adoptOk then s.waitFree.setLatch 5 else s.setF .BR_STAT_REFUSED

/-- ADOPT (R320): BR_CMD.ADOPT. -/
def execAdopt (who : Initiator) (s : State) : Out := s.asMaster who <| .next (s.brWrite who State.brAdopt)

/-- Resynchronisation may start (R321): a stale unit, both BLOOPs seated, equal formats, a partner that holds the claim. -/
def State.syncOk (s : State) : Bool :=
  s.pairMode && s.brState = 2 && s.flag .BR_STAT_SEATED && bit (s.rd .BR_PEER) 4 && !s.flag .BR_STAT_FMTDIFF
    && s.flag .BR_STAT_P9OK && (s.rd .BR_PEER % 16 = 5 || s.rd .BR_PEER % 16 = 6)

/-- The stale unit enters SYNC. -/
def State.brSync (s : State) : State := if s.syncOk then s.brGo 3 else s.setF .BR_STAT_REFUSED

/-- RESYNC_START (R321): BR_CMD.SYNC, or the automatic start of a unit with AUTOSYNC = 1, which no master sends. -/
def execResyncStart (who : Initiator) (s : State) : Out := s.asMaster who <|
  .next <| if who.master = 0xFF then (if s.flag .BR_CTL_AUTOSYNC && s.syncOk then s.brGo 3 else s)
  else s.brWrite who State.brSync

/-- The state region of world `w` is copied to the syncing partner (R321), unless the region checker refuses it to Braid (R326,
R382). -/
def State.regionReady (s : State) (w : Nat) : State :=
  let a := s.regionAddr w
  let n := s.rd .BR_STATE_LEN w
  if !(s.sending && s.rd .BR_PEER % 16 = 3) then s
  else if !s.rangeOk 0x14 .safety a n .read then s.denied 0x14 .safety a n
  else (s.sendRec (.region w (s.dataAt a n))).setF .BR_STATE_CTL_DONE w

/-- STATE_REGION_READY (R321, R324): BR_STATEw.CTL.READY. The safety world alone writes the block, for the software of every world
(log entry 94). -/
def execStateRegionReady (who : Initiator) (w : Nat) (s : State) : Out := s.asMaster who <|
  .next (s.brWrite who (·.regionReady (w % 3)))

/-- MODE of BR_CTL is quiet in SYNC, STANDBY and ACTIVE (R289). -/
def State.modeQuiet (s : State) : Bool := !(s.brState = 3 || s.brState = 4 || s.brState = 5)

/-- MODE changes (R289): SOLO becomes ALONE with its claim, and fences where its end of the cable reads unseated (R296); INIT, STALE
and ALONE become SOLO, through the interlock of R291 where the claim is not held. The address block in use and FG_STAT.STANDBY
follow (R17, R176). A unit that has not yet taken its claim at start comes to stand in INIT of pair mode (log entry 34). -/
def State.setMode (s : State) (m : Nat) : State :=
  if m = s.rd .BR_CTL_MODE then s
  else
    let s := ((s.wr .BR_CTL_MODE m).putF .FG_STAT_STANDBY (!s.claim)).macInUse
    if m = 1 then
      let s := { s with braid := { s.braid with entering := false } }
      if s.brState = 1 then
        let s := s.brGo 6
        s.when (!s.flag .BR_STAT_SEATED) State.startFence
      else { s with braid := { s.braid with latch := false, window := false } }
    else if s.claim then s.brGo 1
    else
      let s := { s with braid := { s.braid with entering := true } }
      if s.flag .BR_STAT_PCLAIM then s else s.waitFree.setLatch 0

end Sys2Proof.Machine
end

