-- ==== Sys2Proof/Machine/BusOps.lean ====
section
/-!
DEFINITION. The register side of the interconnect: which register lies at an address (R335), who may write a field
(R379, R383 and the register tables), which values it takes, when it is quiet (R5), and what refuses a write (R477).
-/
namespace Sys2Proof.Machine

/-! ## Addresses -/

/-- The register groups whose window holds offset `o` from 0x4000_0000, each with its instance and the offset in it. -/
def windowsAt (o : Nat) : List (Block × Nat × Nat) :=
  let w := o % 0x10000
  let p := o / 0x10000
  if p = 0 then [(.sysctl, 0, w)]
  else if p = 1 then [(.lock, 0, w)]
  else if p = 2 then [(.millrace, 0, w)]
  else if p = 3 then [(.gauge, 0, w), (.gaugeEst, 0, w)]
  else if p = 4 then [(.ferry, 0, w), (.floodgate, 0, w)]
  else if 8 ≤ p && p < 12 then
    let g := p - 8
    [(.die, g, w), (.ioDie, g, w)]
      ++ (if 0x100 ≤ w && w < 0x500 then [(.chan, chanOf g ((w - 0x100) / 0x80), w % 0x80)] else [])
      ++ (if 0x600 ≤ w && w < 0x780 then [(.io, 12 * g + (w - 0x600) / 0x20, w % 0x20)] else [])
  else if 16 ≤ p && p < 32 then [(.can, p - 16, w)]
  else if p = 32 then [(.weir, 0, w)]
  else if p = 33 then [(.xcvr, 0, w)]
  else if 48 ≤ p && p < 64 then [(.confluence, 0, o - 0x300000)]
  else if p = 64 then [(.braid, 0, w)]
  else if p = 80 && w < 0x8000 then
    let e := w / 0x1000
    let x := w % 0x1000
    if x / 0x20 = e || (0x400 ≤ x && (x - 0x400) / 0x20 = e) then [] else [(.eddy, e, x)]
  else if p = 81 then [(.lkregs, 0, w)]
  else if p = 96 then
    if w < 0x8000 then [(.delta, 0, w)]
    else (.deltaFn, 0, w - 0x8000) :: (if 0x9000 ≤ w && w < 0xA000 then [(.deltaQ, (w - 0x9000) / 0x40, w % 0x40)] else [])
  else if 113 ≤ p && p < 144 then
    (.deltaFn, p - 112, w) :: (if 0x1000 ≤ w && w < 0x2000 then [(.deltaQ, (w - 0x1000) / 0x40, w % 0x40)] else [])
  else if p = 144 then [(.od, 0, w)]
  else if p = 160 then [(.upd, 0, w)]
  else []

/-- Which register of a row lies at an offset. -/
def RegRow.at? (r : RegRow) (off : Nat) : Option Nat :=
  if off < r.off then none
  else
    let d := off - r.off
    let i := d / r.stride
    let m := d % r.stride
    if r.n2 = 1 then (if m = 0 && i < r.n then some i else none)
    else if i < r.n && m % r.stride2 = 0 && m / r.stride2 < r.n2 then some (i * r.n2 + m / r.stride2) else none

/-- A register found: its block, the block's instance, the row of the register table, and the index of its fields. -/
structure RegAt where
  b : Block
  bi : Nat
  row : RegRow
  i : Nat

/-- The register at offset `off` of a block. -/
def Block.find (b : Block) (bi off : Nat) : Option RegAt :=
  b.rows.findSome? fun r => (r.at? off).map fun j => ⟨b, bi, r, bi * (r.n * r.n2) + j⟩

/-- The register at a physical address. -/
def regAt (a : Nat) : Option RegAt :=
  if a < 0x40000000 || 0x40B00000 ≤ a then none
  else (windowsAt (a - 0x40000000)).findSome? fun x => x.1.find x.2.1 x.2.2

/-- The register lies in a die, behind its Ferry link (R342): the die. -/
def dieSide (a : Nat) : Option Nat :=
  if 0x40080000 ≤ a && a < 0x400C0000 && a % 0x10000 < 0x8000 then some ((a - 0x40080000) / 0x10000) else none

/-- The value of a register as a read shows it: its readable fields, a signed 24-bit register sign-extended (R1 to R3). -/
def State.regValue (s : State) (r : RegAt) : Nat :=
  let v := (r.row.fields.map fun f =>
    if f.info.acc = .wo then 0 else s.rd f r.i * 2 ^ f.info.lo).sum
  match r.row.fields with
  | [f] => if f.signed24 && bit v 23 then v + 0xFF000000 else v
  | _ => v

/-! ## Rights -/

/-- The world that owns the channel a block instance belongs to. -/
def State.blockWorld (s : State) (b : Block) (bi : Nat) : World :=
  match b with
  | .chan => s.chanWorld bi
  | .io => s.ioWorld bi
  | _ => s.canWorld bi

/-- A pair that debug has taken out of lockstep may not write Floodgate registers or fail-safe staging (R333). -/
def State.brokenPair (s : State) (who : Initiator) : Bool :=
  (who.master == 1 && s.flag .LS_STAT_DBGBRK 0) || (who.master == 2 && s.flag .LS_STAT_DBGBRK 1)

/-- The sender may write field `f` of register instance `i` (R379, R383 and the register tables); the safety world may clear a
REFLEX cause on a channel of any world (R166, R186). -/
def State.mayWrite (s : State) (who : Initiator) (r : RegAt) (f : Fld) : Bool :=
  let w := s.worldOf who
  let own (c : Nat) : Bool := owns w (World.ofCode c)
  ((r.b ≠ .sysctl && r.b ≠ .lock) || w ≠ .normal || f = .SYS_PWR_CMD_REQ)
  && (match f with
    | .SL_FS_STAGE_LO | .SL_FS_STAGE_HI | .IO_FS_STAGE => !s.brokenPair who
    | .DM_QCFG_FUNC | .DM_QCFG_CLASS | .DM_QCFG_SHARE | .DM_QCFG_RSTMODE => s.fnWrite who (s.rd .DM_QCFG_FUNC r.i)
    | .DM_FCFG_MAXINFL | .DM_FCFG_EN | .DM_EMMC_BASE | .DM_EMMC_COUNT => s.fnWrite who r.i
    | .DM_WIN_BASE_LO | .DM_WIN_BASE_HI | .DM_WIN_SIZE_LO | .DM_WIN_SIZE_HI => s.fnWrite who (r.i / 4)
    | .FY_ELOG_A_VALID => w ≠ .normal || NMap.at .normal s.errWorld r.i = .normal
    | _ => r.b ≠ .floodgate || !s.brokenPair who)
  && ((f = .SL_PROT_CMD_CLEAR && w = .safety && s.rd .SL_PROT_STAT_CAUSE r.bi = 4)
    || match f.info.who with
    | .any | .normSafe | .cfGlobal => true
    | .safety => w = .safety
    | .lsCtl => w ≠ .normal
    | .normal => owns w .normal
    | .secure => w = .secure
    | .safeSec => w ≠ .normal
    | .owner => owns w (s.blockWorld r.b r.bi)
    | .ring => own (s.rd .CAN_RINGCFG_WORLD r.i)
    | .port => owns w (s.portWorld (r.i / r.row.n2))
    | .hq => own (s.rd .HQ_CFG_WORLD r.i)
    | .ptp => own (s.rd .CF_PTP_CTL_WORLD)
    | .otherPair => who.master = 2 - r.i
    | .eddyOwner => who.master = eddyMaster r.bi
    | .fnOwner => own (s.rd .DM_FCFG_WORLD (if r.b = .deltaQ then s.rd .DM_QCFG_FUNC r.bi else r.bi)))

/-! ## Quiet classes -/

/-- The block is active for a class Q field (R5). -/
def State.active (s : State) (r : RegAt) (f : Fld) : Bool :=
  match r.b with
  | .millrace => s.flag .MR_CTL_EN
  | .die => s.rd .SL_STAT_STATE (chanOf r.bi 0) ≠ 0 ||
      (s.rd .SL_STAT_STATE (chanOf r.bi 1) ≠ 0 && s.rd .SL_STAT_STATE (chanOf r.bi 1) ≠ 7)
  | .chan => s.rd .SL_STAT_STATE (s.lead r.bi) ≠ 0
  | .io => (s.fio r.bi).cmdOn
  | .can => s.flag .CAN_CTL_EN r.bi || ((match f with
      | .CAN_TXPOOL_PSZ | .CAN_TXPOOL_NTX | .CAN_RINGCFG_PSZ | .CAN_RINGCFG_DEPTH | .CAN_RINGCFG_WORLD => true
      | _ => false) && (s.cn r.bi).levels.any (!·.isEmpty))
  | .weir => s.flag .WE_CTL_EN
  | .confluence => if f.info.who = .port then s.flag .CFP_CTL_EN (r.i / r.row.n2) else s.flag .HQ_CFG_EN r.i
  | .braid => (match f with
      | .BR_STATE_ADDR_LO | .BR_STATE_ADDR_HI | .BR_STATE_LEN => s.brState = 3
      | _ => !s.modeQuiet)
  | .delta => (match f with
      | .DM_QCFG_FUNC | .DM_QCFG_CLASS => s.flag .DQ_CTL_EN r.i || s.rd .DQ_STAT_PEND r.i ≠ 0
      | .DM_WIN_BASE_LO | .DM_WIN_BASE_HI | .DM_WIN_SIZE_LO | .DM_WIN_SIZE_HI => s.flag .DM_FCFG_EN (r.i / 4)
      | _ => s.flag .DM_FCFG_EN r.i)
  | .deltaQ => s.flag .DQ_CTL_EN r.i
  | _ => false

/-! ## Values -/

/-- The current limit range of a channel, 0.1 A (R133, R135). -/
def State.ilimRange (s : State) (k : Nat) : Nat × Nat :=
  if s.isPair k then (100, 1200) else if isHeavy k then (50, 600) else (15, 180)

/-- Clamp energy a stage may dissipate per second, 0.1 mJ (R170, R172). -/
def State.clampPower (s : State) (k : Nat) : Nat := if s.isPair k then 30000 else if isHeavy k then 15000 else 4000

/-- A Floodgate entry can be armed (R174, R175): STYPE, its CODE and INDEX, and DUTY. -/
def fgArmable (src act : Nat) : Bool :=
  let t := bits src 0 3
  let code := bits src 3 4
  let idx := bits src 7 6
  bits act 2 10 ≤ 1000 && (t = 1 || code = 0)
    && match t with
      | 1 => code ≤ 10 && (idx ≤ 23 || idx = 63)
      | 2 => idx ≤ 31
      | 3 => idx ≤ 47
      | 4 => idx ≤ 3
      | 5 => idx ≤ 31
      | _ => false

/-- Blocks of the eMMC (R370). -/
abbrev emmcBlocks : Nat := 67108864

/-- An eMMC window keeps off the saved-log area, the last 512 blocks (R370). -/
def emmcWindowOk (base count : Nat) : Bool := count = 0 || base + count ≤ emmcBlocks - 512

/-- A world assignment word: every resource of `mask` has a code other than 0b11 (R379). -/
def waOk (v : Nat) : Bool := (List.range 16).all fun i => bits v (2 * i) 2 ≠ 3

/-- The value is one the field takes. `new` gives the value that another field of the same write would have after it. -/
def State.takes (s : State) (r : RegAt) (f : Fld) (v : Nat) (new : Fld → Nat) : Bool :=
  let i := r.i
  let n := f.info
  ((n.zeroToo && v = 0) || (n.min ≤ v && v ≤ n.max)) && v % n.align = 0 && (r.b ≠ .chan || !s.isFollow r.bi)
  && match f with
    | .MR_CTL_SRC => v ≤ 4
    | .MR_EVT_QUOTA0_NORMAL => v + new .MR_EVT_QUOTA0_SAFETY + s.rd .MR_EVT_QUOTA1_SECURE ≤ 1024
    | .MR_EVT_QUOTA0_SAFETY => v + new .MR_EVT_QUOTA0_NORMAL + s.rd .MR_EVT_QUOTA1_SECURE ≤ 1024
    | .MR_EVT_QUOTA1_SECURE => v + s.rd .MR_EVT_QUOTA0_NORMAL + s.rd .MR_EVT_QUOTA0_SAFETY ≤ 1024
    | .SL_DIE_CFG_PAIR => s.chanWorld (chanOf r.bi 0) = s.chanWorld (chanOf r.bi 1)
    | .SL_ILIM => (s.ilimRange r.bi).1 ≤ v && v ≤ (s.ilimRange r.bi).2 && v ≤ s.rd .SL_ILIM_IN i
    | .SL_ILIM_IN => (s.ilimRange r.bi).1 ≤ v && v ≤ (s.ilimRange r.bi).2 && s.rd .SL_ILIM i ≤ v
    | .SP_BUDGET => v ≤ s.clampPower r.bi * s.rd .SP_WIN i
    | .SP_WIN => s.rd .SP_BUDGET i ≤ s.clampPower r.bi * v
    | .SL_UV_THR => v + 10 ≤ s.rd .SL_DIP_THR i
    | .SL_DIP_THR => s.rd .SL_UV_THR i + 10 ≤ v
    | .SL_FS_STAGE_LO | .SL_FS_STAGE_HI => v / 4 ≤ 1000
    | .IO_FS_STAGE => (List.range 12).all fun j => bits v (2 * j) 2 ≠ 3
    | .IO_THR => s.rd .IO_HYS i + 15 ≤ v
    | .IO_HYS => v + 15 ≤ s.rd .IO_THR i
    | .IO_CFG_MODE => v ≤ 2 && !(v = 2 && new .IO_CFG_INV = 1)
    | .IO_CFG_PROF => v ≤ 2
    | .IO_CFG_INV => !(v = 1 && new .IO_CFG_MODE = 2)
    | .CAN_TXPOOL_PSZ | .CAN_RINGCFG_PSZ => v ≤ 4
    | .CAN_RINGCFG_DEPTH => v ≠ 1
    | .CFP_CTL_SPEED | .CFP_CTL_ROLE => v = 0 || (2 ≤ i && i ≤ 7)
    | .CFP_PTPCOMP => v = 0 || i ≤ 1
    | .CFP_QLIM_MAX => new .CFP_QLIM_MIN ≤ v
    | .CFP_QLIM_MIN => v + ((((List.range 80).filter (· ≠ i)).map fun j => s.rd .CFP_QLIM_MIN j).sum) ≤ 32768
    | .FG_SRC | .FG_MASK => !bit (s.rd .FG_ACT i) 31
    | .FG_ACT => !bit v 31 || (!bit (s.rd .FG_ACT i) 31 && fgArmable (s.rd .FG_SRC i) v)
    | .HW_DBG_XNID | .HW_DBG_XID => v = 0 || s.head.debugOk
    | .WA_SL | .WA_IO | .WA_CAN | .WA_PORT | .WA_MRIRQ => waOk v
    | .DM_EMMC_BASE => emmcWindowOk v (new .DM_EMMC_COUNT)
    | .DM_EMMC_COUNT => emmcWindowOk (new .DM_EMMC_BASE) v
    | .OD_OVR_LAST => new .OD_OVR_FIRST ≤ v
    | _ => true

/-! ## Refusals -/

/-- The refused flag of the block that holds the register (R477). A
configuration write to the second half of a heavy pair also sets WHY = PAIRED (R135). -/
def State.refuse (s : State) (r : RegAt) : State :=
  match r.b with
  | .millrace => s.setF .MR_STAT_REFUSED
  | .gauge => s.setF .GA_STAT_REFUSED
  | .gaugeEst => s.setF .GE_STAT_REFUSED
  | .die => s.setF .SL_DIE_STAT_REFUSED r.bi
  | .chan =>
    let s := s.setF .SL_DIE_STAT_REFUSED (dieOf r.bi)
    if s.isFollow r.bi then (s.setF .SL_STAT_REFUSED r.bi).wr .SL_STAT_WHY 2 r.bi else s
  | .ioDie => s.setF .IO_DSTAT_REFUSED r.bi
  | .io => s.setF .IO_DSTAT_REFUSED (r.bi / 12)
  | .can => s.setF .CAN_STAT_REFUSED r.bi
  | .weir => s.setF .WE_STAT_REFUSED
  | .confluence => s.setF .CF_STAT_REFUSED
  | .braid => s.setF .BR_STAT_REFUSED
  | .sysctl =>
    if r.row.off < 0x100 then s.setF .SYS_PWR_STAT_REFUSED
    else if r.row.off < 0x200 then s.setF .LS_STAT_REFUSED (r.i % 2)
    else if 0x400 ≤ r.row.off then s.setF .HW_STAT_REFUSED
    else s
  | .lock => s.setF .LK_STAT_REFUSED
  | .floodgate => s.setF .FG_STAT_REFUSED
  | .delta => s.setF .DM_STAT_REFUSED
  | .deltaFn => s.setF .DF_INT_REFUSED r.bi
  | .deltaQ => s.setF .DF_INT_REFUSED (s.rd .DM_QCFG_FUNC r.bi)
  | .od => s.setF .OD_STAT_REFUSED
  | .upd => s.setF .UPD_RESULT_REFUSED
  | .xcvr | .ferry | .eddy | .lkregs => s

/-! ## Verdicts -/

/-- What becomes of a written field. -/
inductive Verdict where
  | ok | noWrite | rights | locked | active | value
  deriving DecidableEq, Repr

/-- A field that counts as written only where the value changes (R477): class Q or K, under a lock, or given to named
worlds. A doorbell counts whatever its value (R365): its page is closed to other worlds. -/
def Fld.restricted (f : Fld) : Bool :=
  f ≠ .DQ_TAIL && (f.info.chg = .quiet || f.info.lock.isSome || f.info.who ≠ .any)

/-- The verdict on a field, in the order rights, lock, activity, value (R6, R408, R477). -/
def State.verdict (s : State) (who : Initiator) (r : RegAt) (f : Fld) (v : Nat) (new : Fld → Nat) : Verdict :=
  let n := f.info
  match n.acc with
  | .ro | .rc => .noWrite
  | .w1c | .w1s | .wo => if v = 0 then .noWrite else if s.mayWrite who r f then .ok else .rights
  | .rw =>
    if f.restricted && v = s.rd f r.i then .noWrite
    else if !s.mayWrite who r f || (f = .DM_QCFG_FUNC && !s.fnWrite who v) then .rights
    else if n.lock.any (s.frozen who ·) then .locked
    else if n.chg = .quiet && s.active r f then .active
    else if s.takes r f v new then .ok else .value

end Sys2Proof.Machine
end

