-- ==== Sys2Proof/Machine/ObjTable.lean ====
section
/-!
DEFINITION. The object tables of the manual: every object with its subindices, the size of its type, the classes that may
read and write it (bits P, E, S, B, I), and where its value stands.
-/
namespace Sys2Proof.Machine

/-- Values that no register field shows as it is. -/
inductive Sp where
  | devType | errReg | devName | hwVersion | swVersion | revision | serial | eds | ownMac | ipAddr | sound
  | summary | soundings | nextWsn | lastSeq | ovr | phaseNow | freeNow | evtIdx | evtEntry | turnAvg
  | avgTurn | pairNow | fsTable | ioLast | ioSafe | weIdx | weEntry | cfSel | cfEntry | ptpSec | ptpNs | cellIdx
  | cellShadow | cellInForce | reinit | pairMac | health | fcfg | challenge | token | tpCfg | tpClear
  | measure | nonce | quote | slots | zeroClear | confirmLeft | partner | lockSet | latestEvt | readPos
  | record | records | held | cellWord | cellRecord | cellTurn | strWord | strRecord | passWord
  deriving DecidableEq, Repr

/-- Where a register lies: a place that moves with the instance of the index and with the subindex, or a channel's block. -/
inductive Loc where
  | lin (base stepA stepJ : Nat)
  | chan (off : Nat)
  | io (off : Nat)
  deriving DecidableEq, Repr

/-- Where a value stands: bits of a register, consecutive registers, a memory area, a constant, or elsewhere. -/
inductive Src where
  | reg (l : Loc) (sh w : Nat)
  | words (l : Loc) (n : Nat)
  | mem (base stepJ : Nat)
  | const (v : Nat)
  | sp (x : Sp)
  deriving DecidableEq, Repr

/-- A row of an object table: `n` indices from `idx`, `m` subindices from `sub`. -/
structure ObjRow where
  idx : Nat
  n : Nat
  sub : Nat
  m : Nat
  size : Nat
  r : Nat
  w : Nat
  src : Src
  deriving DecidableEq, Repr

/-- Objects of the general table. -/
def objs_general : List ObjRow := [
  ⟨0x1000, 1, 0x0, 1, 4, 31, 0, .sp .devType⟩,
  ⟨0x1001, 1, 0x0, 1, 1, 31, 0, .sp .errReg⟩,
  ⟨0x1008, 1, 0x0, 1, 6, 31, 0, .sp .devName⟩,
  ⟨0x1009, 1, 0x0, 1, 8, 31, 0, .sp .hwVersion⟩,
  ⟨0x100a, 1, 0x0, 1, 16, 31, 0, .sp .swVersion⟩,
  ⟨0x1018, 1, 0x0, 1, 1, 31, 0, .const 4⟩,
  ⟨0x1018, 1, 0x1, 1, 4, 31, 0, .const 0x494D4B⟩,
  ⟨0x1018, 1, 0x2, 1, 4, 31, 0, .const 0x1800⟩,
  ⟨0x1018, 1, 0x3, 1, 4, 31, 0, .sp .revision⟩,
  ⟨0x1018, 1, 0x4, 1, 4, 31, 0, .sp .serial⟩,
  ⟨0x1021, 1, 0x0, 1, 131072, 31, 0, .sp .eds⟩,
  ⟨0x1022, 1, 0x0, 1, 1, 31, 0, .const 0⟩,
  ⟨0x1d00, 1, 0x1, 1, 6, 31, 0, .sp .ownMac⟩,
  ⟨0x1d00, 1, 0x2, 1, 6, 31, 0, .words (.lin 0x40400024 0x0 0x0) 2⟩,
  ⟨0x1d00, 1, 0x3, 1, 6, 31, 0, .words (.lin 0x40300010 0x0 0x0) 2⟩,
  ⟨0x1d20, 8, 0x1, 1, 4, 31, 28, .sp .ipAddr⟩,
  ⟨0x1d20, 8, 0x2, 1, 4, 31, 28, .sp .ipAddr⟩,
  ⟨0x1d20, 8, 0x3, 1, 4, 31, 28, .sp .ipAddr⟩,
  ⟨0x1d28, 1, 0x1, 3, 4, 31, 28, .sp .ipAddr⟩,
  ⟨0x2000, 1, 0x1, 1, 1, 31, 28, .reg (.lin 0x40900000 0x0 0x0) 0 3⟩,
  ⟨0x2000, 1, 0x2, 1, 1, 31, 0, .reg (.lin 0x40900004 0x0 0x0) 0 8⟩,
  ⟨0x2000, 1, 0x3, 3, 4, 31, 0, .reg (.lin 0x40900008 0x0 0x4) 0 32⟩,
  ⟨0x2001, 1, 0x0, 1, 1, 0, 31, .sp .sound⟩,
  ⟨0x2001, 1, 0x1, 1, 1536, 31, 0, .sp .summary⟩,
  ⟨0x2001, 1, 0x2, 1, 2, 31, 0, .sp .soundings⟩,
  ⟨0x2002, 1, 0x0, 1, 4, 0, 31, .sp .nextWsn⟩,
  ⟨0x2003, 1, 0x1, 255, 3, 31, 0, .sp .lastSeq⟩,
  ⟨0x2004, 1, 0x1, 16, 6, 31, 24, .sp .ovr⟩]

/-- Objects of the millrace table. -/
def objs_millrace : List ObjRow := [
  ⟨0x2100, 1, 0x0, 1, 1, 31, 0, .reg (.lin 0x40020004 0x0 0x0) 0 3⟩,
  ⟨0x2101, 1, 0x0, 1, 6, 31, 0, .sp .phaseNow⟩,
  ⟨0x2102, 1, 0x0, 1, 3, 31, 0, .reg (.lin 0x40020010 0x0 0x0) 0 24⟩,
  ⟨0x2103, 1, 0x0, 1, 1, 28, 28, .reg (.lin 0x40020000 0x0 0x0) 0 3⟩,
  ⟨0x2104, 1, 0x0, 1, 3, 28, 28, .reg (.lin 0x40020018 0x0 0x0) 0 24⟩,
  ⟨0x2105, 1, 0x0, 1, 3, 28, 28, .reg (.lin 0x4002001c 0x0 0x0) 0 24⟩,
  ⟨0x2106, 1, 0x0, 1, 2, 28, 28, .reg (.lin 0x40020040 0x0 0x0) 0 16⟩,
  ⟨0x2107, 1, 0x0, 1, 4, 28, 28, .reg (.lin 0x4002004c 0x0 0x0) 0 32⟩,
  ⟨0x2108, 1, 0x0, 1, 4, 28, 28, .reg (.lin 0x40020044 0x0 0x0) 0 32⟩,
  ⟨0x2109, 1, 0x0, 1, 3, 28, 28, .reg (.lin 0x40020048 0x0 0x0) 0 24⟩,
  ⟨0x210a, 1, 0x1, 1, 3, 28, 28, .reg (.lin 0x40020060 0x0 0x0) 8 24⟩,
  ⟨0x210a, 1, 0x2, 1, 1, 0, 21, .reg (.lin 0x40020060 0x0 0x0) 1 1⟩,
  ⟨0x210a, 1, 0x3, 1, 1, 31, 0, .reg (.lin 0x40020060 0x0 0x0) 2 1⟩,
  ⟨0x210a, 1, 0x4, 1, 3, 31, 0, .reg (.lin 0x40020064 0x0 0x0) 0 24⟩,
  ⟨0x210a, 1, 0x5, 1, 6, 31, 0, .words (.lin 0x40020068 0x0 0x0) 2⟩,
  ⟨0x210a, 1, 0x6, 1, 4, 31, 0, .reg (.lin 0x40020070 0x0 0x0) 0 32⟩,
  ⟨0x210a, 1, 0x7, 1, 4, 31, 0, .reg (.lin 0x40020074 0x0 0x0) 0 32⟩,
  ⟨0x210b, 1, 0x0, 1, 3, 31, 0, .reg (.lin 0x40020024 0x0 0x0) 0 24⟩,
  ⟨0x210c, 1, 0x0, 1, 4, 30, 0, .sp .freeNow⟩,
  ⟨0x2110, 1, 0x1, 1, 2, 20, 16, .sp .evtIdx⟩,
  ⟨0x2110, 1, 0x2, 1, 16, 20, 16, .sp .evtEntry⟩,
  ⟨0x2110, 1, 0x3, 1, 1, 20, 0, .reg (.lin 0x40020094 0x0 0x0) 0 8⟩,
  ⟨0x2111, 1, 0x1, 1, 2, 28, 28, .reg (.lin 0x40020098 0x0 0x0) 0 11⟩,
  ⟨0x2111, 1, 0x2, 1, 2, 28, 28, .reg (.lin 0x40020098 0x0 0x0) 16 11⟩,
  ⟨0x2111, 1, 0x3, 1, 2, 28, 28, .reg (.lin 0x4002009c 0x0 0x0) 0 11⟩]

/-- Objects of the sluice table. -/
def objs_sluice : List ObjRow := [
  ⟨0x2200, 32, 0x0, 1, 1, 31, 0, .const 20⟩,
  ⟨0x2200, 32, 0x1, 1, 2, 0, 20, .reg (.chan 0x0) 0 16⟩,
  ⟨0x2200, 32, 0x2, 1, 1, 31, 28, .reg (.chan 0x4) 0 2⟩,
  ⟨0x2200, 32, 0x3, 1, 2, 31, 28, .reg (.chan 0x8) 0 16⟩,
  ⟨0x2200, 32, 0x4, 1, 2, 31, 28, .reg (.chan 0xc) 0 16⟩,
  ⟨0x2200, 32, 0x5, 1, 2, 31, 28, .reg (.chan 0x10) 0 16⟩,
  ⟨0x2200, 32, 0x6, 1, 2, 31, 28, .reg (.chan 0x14) 0 16⟩,
  ⟨0x2200, 32, 0x7, 1, 2, 31, 28, .reg (.chan 0x18) 0 16⟩,
  ⟨0x2200, 32, 0x8, 1, 2, 31, 28, .reg (.chan 0x1c) 0 16⟩,
  ⟨0x2200, 32, 0x9, 1, 1, 31, 28, .reg (.chan 0x4) 2 1⟩,
  ⟨0x2200, 32, 0xa, 1, 1, 31, 28, .reg (.chan 0x4) 3 1⟩,
  ⟨0x2200, 32, 0xb, 1, 1, 31, 28, .reg (.chan 0x4) 4 1⟩,
  ⟨0x2200, 32, 0xc, 1, 2, 31, 28, .reg (.chan 0x20) 0 16⟩,
  ⟨0x2200, 32, 0xd, 1, 1, 31, 28, .reg (.chan 0x24) 0 8⟩,
  ⟨0x2200, 32, 0xe, 1, 2, 31, 28, .reg (.chan 0x28) 0 16⟩,
  ⟨0x2200, 32, 0xf, 1, 3, 31, 0, .reg (.chan 0x2c) 0 24⟩,
  ⟨0x2200, 32, 0x10, 1, 3, 31, 0, .reg (.chan 0x30) 0 24⟩,
  ⟨0x2200, 32, 0x11, 1, 3, 31, 0, .sp .turnAvg⟩,
  ⟨0x2200, 32, 0x12, 1, 3, 31, 0, .sp .avgTurn⟩,
  ⟨0x2200, 32, 0x13, 1, 1, 31, 28, .reg (.chan 0x4) 5 1⟩,
  ⟨0x2200, 32, 0x14, 1, 3, 31, 0, .sp .pairNow⟩,
  ⟨0x2240, 4, 0x1, 1, 2, 31, 24, .reg (.lin 0x40080008 0x10000 0x0) 0 16⟩,
  ⟨0x2240, 4, 0x2, 1, 1, 31, 24, .reg (.lin 0x4008000c 0x10000 0x0) 0 8⟩,
  ⟨0x2240, 4, 0x3, 1, 2, 31, 24, .reg (.lin 0x40080010 0x10000 0x0) 0 16⟩,
  ⟨0x2240, 4, 0x4, 1, 1, 31, 24, .reg (.lin 0x40080014 0x10000 0x0) 0 1⟩,
  ⟨0x2240, 4, 0x5, 1, 3, 31, 0, .reg (.lin 0x40080018 0x10000 0x0) 0 24⟩,
  ⟨0x2240, 4, 0x6, 1, 1, 31, 24, .reg (.lin 0x40080000 0x10000 0x0) 0 1⟩,
  ⟨0x2240, 4, 0x7, 1, 1, 31, 0, .reg (.lin 0x40080004 0x10000 0x0) 0 5⟩,
  ⟨0x2240, 4, 0x10, 1, 1, 31, 24, .reg (.lin 0x40080040 0x10000 0x0) 0 8⟩,
  ⟨0x2240, 4, 0x11, 1, 2, 31, 24, .reg (.lin 0x40080044 0x10000 0x0) 0 16⟩,
  ⟨0x2240, 4, 0x12, 1, 3, 31, 0, .reg (.lin 0x40080050 0x10000 0x0) 0 24⟩,
  ⟨0x2240, 4, 0x13, 1, 1, 31, 0, .reg (.lin 0x40080048 0x10000 0x0) 0 8⟩,
  ⟨0x2240, 4, 0x14, 1, 2, 31, 0, .reg (.lin 0x4008004c 0x10000 0x0) 0 16⟩,
  ⟨0x2240, 4, 0x15, 1, 2, 31, 24, .reg (.lin 0x40080060 0x10000 0x0) 0 16⟩,
  ⟨0x2240, 4, 0x16, 1, 1, 31, 0, .reg (.lin 0x40080068 0x10000 0x0) 0 8⟩,
  ⟨0x2240, 4, 0x17, 1, 12, 31, 24, .sp .fsTable⟩,
  ⟨0x2240, 4, 0x18, 1, 1, 0, 24, .reg (.lin 0x40080090 0x10000 0x0) 0 1⟩,
  ⟨0x2250, 32, 0x0, 1, 1, 31, 0, .const 13⟩,
  ⟨0x2250, 32, 0x1, 1, 1, 31, 28, .reg (.chan 0x40) 0 4⟩,
  ⟨0x2250, 32, 0x2, 1, 2, 31, 28, .reg (.chan 0x44) 0 16⟩,
  ⟨0x2250, 32, 0x3, 1, 1, 31, 28, .reg (.chan 0x40) 4 1⟩,
  ⟨0x2250, 32, 0x4, 1, 2, 31, 28, .reg (.chan 0x48) 0 16⟩,
  ⟨0x2250, 32, 0x5, 1, 1, 0, 28, .reg (.chan 0x4c) 0 8⟩,
  ⟨0x2250, 32, 0x6, 1, 3, 31, 0, .reg (.chan 0x50) 0 24⟩,
  ⟨0x2250, 32, 0x7, 1, 3, 31, 0, .reg (.chan 0x54) 0 24⟩,
  ⟨0x2250, 32, 0x8, 1, 1, 31, 28, .reg (.chan 0x58) 0 8⟩,
  ⟨0x2250, 32, 0x9, 1, 3, 31, 28, .reg (.chan 0x5c) 0 24⟩,
  ⟨0x2250, 32, 0xa, 1, 3, 31, 0, .reg (.chan 0x60) 0 24⟩,
  ⟨0x2250, 32, 0xb, 1, 3, 31, 0, .reg (.chan 0x64) 0 24⟩,
  ⟨0x2250, 32, 0xc, 1, 2, 31, 0, .reg (.chan 0x68) 0 16⟩,
  ⟨0x2250, 32, 0xd, 1, 2, 31, 0, .reg (.chan 0x6c) 0 16⟩,
  ⟨0x2270, 1, 0x1, 1, 1, 31, 24, .reg (.lin 0x40048400 0x0 0x0) 0 1⟩,
  ⟨0x2270, 1, 0x2, 1, 4, 31, 24, .reg (.lin 0x40048408 0x0 0x0) 0 32⟩,
  ⟨0x2270, 1, 0x3, 1, 4, 31, 24, .reg (.lin 0x4004840c 0x0 0x0) 0 32⟩,
  ⟨0x2270, 1, 0x4, 1, 4, 0, 24, .reg (.lin 0x40048410 0x0 0x0) 0 32⟩,
  ⟨0x2270, 1, 0x5, 1, 1, 31, 0, .reg (.lin 0x40048404 0x0 0x0) 0 8⟩,
  ⟨0x2280, 64, 0x1, 1, 4, 31, 24, .reg (.lin 0x40048000 0x10 0x0) 0 32⟩,
  ⟨0x2280, 64, 0x2, 1, 4, 31, 24, .reg (.lin 0x40048004 0x10 0x0) 0 32⟩,
  ⟨0x2280, 64, 0x3, 1, 4, 31, 24, .reg (.lin 0x40048008 0x10 0x0) 0 32⟩,
  ⟨0x2280, 64, 0x4, 1, 2, 31, 0, .reg (.lin 0x4004800c 0x10 0x0) 0 16⟩]

/-- Objects of the io table. -/
def objs_io : List ObjRow := [
  ⟨0x2400, 48, 0x0, 1, 1, 31, 0, .const 13⟩,
  ⟨0x2400, 48, 0x1, 1, 1, 0, 20, .reg (.io 0x0) 0 8⟩,
  ⟨0x2400, 48, 0x2, 1, 1, 31, 28, .reg (.io 0x4) 0 2⟩,
  ⟨0x2400, 48, 0x3, 1, 1, 31, 28, .reg (.io 0x4) 2 2⟩,
  ⟨0x2400, 48, 0x4, 1, 1, 31, 28, .reg (.io 0x4) 4 1⟩,
  ⟨0x2400, 48, 0x5, 1, 1, 31, 28, .reg (.io 0x8) 0 8⟩,
  ⟨0x2400, 48, 0x6, 1, 1, 31, 28, .reg (.io 0xc) 0 8⟩,
  ⟨0x2400, 48, 0x7, 1, 2, 31, 28, .reg (.io 0x10) 0 16⟩,
  ⟨0x2400, 48, 0x8, 1, 1, 31, 28, .reg (.io 0x4) 5 2⟩,
  ⟨0x2400, 48, 0x9, 1, 1, 31, 28, .reg (.io 0x4) 7 1⟩,
  ⟨0x2400, 48, 0xa, 1, 1, 31, 28, .reg (.io 0x14) 0 8⟩,
  ⟨0x2400, 48, 0xb, 1, 2, 31, 0, .reg (.io 0x18) 0 16⟩,
  ⟨0x2400, 48, 0xc, 1, 8, 31, 0, .sp .ioLast⟩,
  ⟨0x2400, 48, 0xd, 1, 2, 31, 0, .reg (.io 0x1c) 0 16⟩,
  ⟨0x2430, 4, 0x1, 1, 2, 31, 0, .reg (.lin 0x40080500 0x10000 0x0) 0 16⟩,
  ⟨0x2430, 4, 0x2, 1, 2, 31, 0, .reg (.lin 0x40080508 0x10000 0x0) 0 16⟩,
  ⟨0x2430, 4, 0x3, 1, 3, 31, 24, .sp .ioSafe⟩,
  ⟨0x2430, 4, 0x4, 1, 1, 31, 0, .reg (.lin 0x4008050c 0x10000 0x0) 0 8⟩,
  ⟨0x2430, 4, 0x5, 1, 2, 31, 0, .reg (.lin 0x4008bf14 0x10000 0x0) 0 16⟩]

/-- Objects of the can table. -/
def objs_can : List ObjRow := [
  ⟨0x2500, 16, 0x0, 1, 1, 31, 0, .const 22⟩,
  ⟨0x2500, 16, 0x1, 1, 1, 31, 28, .reg (.lin 0x40100000 0x10000 0x0) 0 1⟩,
  ⟨0x2500, 16, 0x2, 1, 1, 31, 28, .reg (.lin 0x40100000 0x10000 0x0) 1 3⟩,
  ⟨0x2500, 16, 0x3, 1, 4, 31, 28, .reg (.lin 0x4010000c 0x10000 0x0) 0 32⟩,
  ⟨0x2500, 16, 0x4, 1, 4, 31, 28, .reg (.lin 0x40100010 0x10000 0x0) 0 32⟩,
  ⟨0x2500, 16, 0x5, 1, 4, 31, 28, .reg (.lin 0x40100014 0x10000 0x0) 0 32⟩,
  ⟨0x2500, 16, 0x6, 1, 4, 31, 28, .reg (.lin 0x40100018 0x10000 0x0) 0 32⟩,
  ⟨0x2500, 16, 0x7, 1, 4, 31, 28, .reg (.lin 0x4010001c 0x10000 0x0) 0 32⟩,
  ⟨0x2500, 16, 0x8, 1, 4, 31, 28, .reg (.lin 0x40100020 0x10000 0x0) 0 32⟩,
  ⟨0x2500, 16, 0x9, 1, 1, 31, 28, .reg (.lin 0x40100000 0x10000 0x0) 6 1⟩,
  ⟨0x2500, 16, 0xa, 1, 1, 31, 28, .reg (.lin 0x40100000 0x10000 0x0) 4 1⟩,
  ⟨0x2500, 16, 0xb, 1, 2, 31, 28, .reg (.lin 0x40100024 0x10000 0x0) 0 16⟩,
  ⟨0x2500, 16, 0xc, 1, 1, 31, 0, .reg (.lin 0x40100004 0x10000 0x0) 0 3⟩,
  ⟨0x2500, 16, 0xd, 1, 4, 31, 0, .reg (.lin 0x40100008 0x10000 0x0) 0 32⟩,
  ⟨0x2500, 16, 0xe, 1, 4, 31, 0, .reg (.lin 0x40100004 0x10000 0x0) 0 32⟩,
  ⟨0x2500, 16, 0xf, 1, 1, 0, 28, .reg (.lin 0x40100000 0x10000 0x0) 7 1⟩,
  ⟨0x2500, 16, 0x10, 1, 2, 0, 28, .reg (.lin 0x40100034 0x10000 0x0) 0 16⟩,
  ⟨0x2500, 16, 0x11, 1, 2, 31, 0, .reg (.lin 0x40100038 0x10000 0x0) 0 16⟩,
  ⟨0x2500, 16, 0x12, 1, 4, 31, 0, .reg (.lin 0x401000a4 0x10000 0x0) 0 32⟩,
  ⟨0x2500, 16, 0x13, 1, 4, 31, 0, .reg (.lin 0x401000a8 0x10000 0x0) 0 32⟩,
  ⟨0x2500, 16, 0x14, 1, 4, 31, 0, .reg (.lin 0x401000ac 0x10000 0x0) 0 32⟩,
  ⟨0x2500, 16, 0x15, 1, 1, 31, 0, .reg (.lin 0x401000a0 0x10000 0x0) 0 8⟩,
  ⟨0x2500, 16, 0x16, 1, 4, 31, 0, .reg (.lin 0x401000b0 0x10000 0x0) 0 32⟩]

/-- Objects of the weir table. -/
def objs_weir : List ObjRow := [
  ⟨0x2510, 1, 0x1, 1, 1, 31, 28, .reg (.lin 0x40200000 0x0 0x0) 0 1⟩,
  ⟨0x2510, 1, 0x2, 1, 1, 31, 28, .reg (.lin 0x40200000 0x0 0x0) 1 1⟩,
  ⟨0x2510, 1, 0x3, 2, 4, 31, 28, .reg (.lin 0x40200008 0x0 0x4) 0 32⟩,
  ⟨0x2510, 1, 0x5, 1, 3, 31, 0, .reg (.lin 0x40200010 0x0 0x0) 0 24⟩,
  ⟨0x2510, 1, 0x6, 1, 3, 28, 28, .reg (.lin 0x40200014 0x0 0x0) 0 24⟩,
  ⟨0x2510, 1, 0x7, 1, 1, 31, 0, .reg (.lin 0x40200014 0x0 0x0) 31 1⟩,
  ⟨0x2511, 1, 0x1, 1, 2, 28, 28, .sp .weIdx⟩,
  ⟨0x2511, 1, 0x2, 1, 32, 28, 28, .sp .weEntry⟩,
  ⟨0x2511, 1, 0x3, 1, 1, 28, 0, .reg (.lin 0x40200044 0x0 0x0) 0 8⟩,
  ⟨0x2512, 1, 0x1, 7, 4, 31, 0, .reg (.lin 0x40200080 0x0 0x4) 0 32⟩,
  ⟨0x2513, 1, 0x0, 1, 4, 31, 28, .reg (.lin 0x402000a0 0x0 0x0) 0 32⟩,
  ⟨0x2520, 8, 0x1, 1, 1, 31, 30, .reg (.lin 0x40200200 0x40 0x0) 0 1⟩,
  ⟨0x2520, 8, 0x2, 1, 1, 0, 30, .reg (.lin 0x40200200 0x40 0x0) 1 1⟩,
  ⟨0x2520, 8, 0x3, 1, 3, 31, 0, .reg (.lin 0x40200204 0x40 0x0) 0 24⟩,
  ⟨0x2520, 8, 0x4, 1, 4, 31, 28, .reg (.lin 0x40200208 0x40 0x0) 0 32⟩,
  ⟨0x2520, 8, 0x5, 1, 16, 31, 28, .words (.lin 0x40200210 0x40 0x0) 4⟩,
  ⟨0x2520, 8, 0x6, 1, 16, 31, 0, .words (.lin 0x40200220 0x40 0x0) 4⟩,
  ⟨0x2520, 8, 0x7, 1, 16, 31, 0, .words (.lin 0x40200230 0x40 0x0) 4⟩,
  ⟨0x2520, 8, 0x8, 1, 2, 31, 0, .reg (.lin 0x4020020c 0x40 0x0) 0 16⟩,
  ⟨0x2530, 1, 0x1, 16, 1, 31, 0, .reg (.lin 0x40210040 0x0 0x4) 0 8⟩,
  ⟨0x2531, 1, 0x1, 4, 1, 31, 24, .reg (.lin 0x40210080 0x0 0x4) 0 8⟩,
  ⟨0x2531, 1, 0x5, 1, 1, 31, 0, .reg (.lin 0x40210090 0x0 0x0) 0 8⟩]

/-- Objects of the confluence table. -/
def objs_confluence : List ObjRow := [
  ⟨0x2600, 10, 0x1, 1, 1, 31, 28, .reg (.lin 0x40301000 0x100 0x0) 0 1⟩,
  ⟨0x2600, 10, 0x2, 1, 1, 31, 28, .reg (.lin 0x40301000 0x100 0x0) 1 7⟩,
  ⟨0x2600, 10, 0x3, 1, 3, 31, 28, .reg (.lin 0x40301008 0x100 0x0) 0 24⟩,
  ⟨0x2600, 10, 0x4, 1, 2, 31, 28, .reg (.lin 0x4030100c 0x100 0x0) 0 16⟩,
  ⟨0x2600, 10, 0x5, 1, 3, 31, 28, .reg (.lin 0x40301010 0x100 0x0) 0 24⟩,
  ⟨0x2600, 10, 0x6, 2, 4, 31, 28, .reg (.lin 0x40301014 0x100 0x4) 0 32⟩,
  ⟨0x2600, 10, 0x8, 1, 4, 31, 28, .reg (.lin 0x4030101c 0x100 0x0) 0 32⟩,
  ⟨0x2600, 10, 0x9, 1, 3, 31, 28, .reg (.lin 0x40301020 0x100 0x0) 0 24⟩,
  ⟨0x2600, 10, 0xa, 1, 2, 31, 28, .reg (.lin 0x40301024 0x100 0x0) 0 16⟩,
  ⟨0x2600, 10, 0xb, 1, 1, 31, 0, .reg (.lin 0x40301004 0x100 0x0) 0 8⟩,
  ⟨0x2600, 10, 0xc, 12, 4, 31, 0, .reg (.lin 0x40301080 0x100 0x4) 0 32⟩,
  ⟨0x2610, 1, 0x1, 1, 1, 31, 28, .reg (.lin 0x40300000 0x0 0x0) 0 1⟩,
  ⟨0x2610, 1, 0x2, 1, 2, 31, 28, .reg (.lin 0x40300000 0x0 0x0) 16 16⟩,
  ⟨0x2610, 1, 0x3, 1, 3, 31, 0, .reg (.lin 0x40300008 0x0 0x0) 0 24⟩,
  ⟨0x2610, 1, 0x4, 1, 3, 28, 28, .reg (.lin 0x4030000c 0x0 0x0) 0 24⟩,
  ⟨0x2610, 1, 0x5, 1, 1, 31, 0, .reg (.lin 0x4030000c 0x0 0x0) 31 1⟩,
  ⟨0x2610, 1, 0x6, 1, 3, 31, 0, .reg (.lin 0x40300018 0x0 0x0) 0 24⟩,
  ⟨0x2611, 1, 0x1, 1, 3, 28, 28, .sp .cfSel⟩,
  ⟨0x2611, 1, 0x2, 1, 48, 28, 28, .sp .cfEntry⟩,
  ⟨0x2611, 1, 0x3, 1, 1, 28, 0, .reg (.lin 0x40300074 0x0 0x0) 0 8⟩,
  ⟨0x2612, 1, 0x1, 1, 1, 31, 0, .reg (.lin 0x40300080 0x0 0x0) 0 1⟩,
  ⟨0x2612, 1, 0x2, 1, 6, 31, 0, .sp .ptpSec⟩,
  ⟨0x2612, 1, 0x3, 1, 4, 31, 0, .sp .ptpNs⟩]

/-- Objects of the gauge table. -/
def objs_gauge : List ObjRow := [
  ⟨0x2700, 1, 0x0, 1, 1, 31, 28, .reg (.lin 0x40030000 0x0 0x0) 0 1⟩,
  ⟨0x2701, 1, 0x0, 1, 3, 31, 28, .reg (.lin 0x40030008 0x0 0x0) 0 24⟩,
  ⟨0x2702, 1, 0x0, 1, 1, 28, 28, .reg (.lin 0x4003000c 0x0 0x0) 0 8⟩,
  ⟨0x2703, 1, 0x0, 1, 1, 28, 28, .reg (.lin 0x40030000 0x0 0x0) 1 1⟩,
  ⟨0x2704, 1, 0x1, 1, 2, 28, 28, .sp .cellIdx⟩,
  ⟨0x2704, 1, 0x2, 1, 3, 28, 28, .sp .cellShadow⟩,
  ⟨0x2704, 1, 0x3, 1, 3, 31, 0, .sp .cellInForce⟩,
  ⟨0x2705, 1, 0x1, 24, 4, 28, 28, .reg (.lin 0x40030100 0x0 0x4) 0 32⟩,
  ⟨0x2706, 1, 0x1, 24, 4, 28, 28, .reg (.lin 0x40030300 0x0 0x4) 0 32⟩,
  ⟨0x2707, 1, 0x0, 1, 1, 0, 28, .reg (.lin 0x40030010 0x0 0x0) 0 1⟩,
  ⟨0x2708, 1, 0x0, 1, 4, 31, 0, .reg (.lin 0x40030014 0x0 0x0) 0 32⟩,
  ⟨0x2709, 1, 0x1, 8, 4, 31, 0, .reg (.lin 0x40030020 0x0 0x4) 0 32⟩,
  ⟨0x270a, 1, 0x0, 1, 3, 31, 0, .reg (.lin 0x40030018 0x0 0x0) 0 24⟩,
  ⟨0x270b, 1, 0x0, 1, 16384, 31, 28, .mem 0x18080000 0⟩,
  ⟨0x2710, 1, 0x0, 1, 1, 31, 28, .reg (.lin 0x40030810 0x0 0x0) 0 8⟩,
  ⟨0x2711, 1, 0x0, 1, 3, 31, 28, .reg (.lin 0x40030814 0x0 0x0) 0 24⟩,
  ⟨0x2712, 1, 0x0, 1, 2, 28, 28, .reg (.lin 0x40030818 0x0 0x0) 0 16⟩,
  ⟨0x2713, 1, 0x0, 1, 1, 28, 28, .reg (.lin 0x4003081c 0x0 0x0) 0 8⟩,
  ⟨0x2714, 1, 0x0, 1, 1, 28, 28, .reg (.lin 0x40030820 0x0 0x0) 0 8⟩,
  ⟨0x2715, 1, 0x0, 1, 1, 28, 28, .reg (.lin 0x40030824 0x0 0x0) 0 8⟩,
  ⟨0x2716, 1, 0x0, 1, 2, 31, 28, .reg (.lin 0x40030828 0x0 0x0) 0 16⟩,
  ⟨0x2717, 1, 0x0, 1, 4, 31, 24, .reg (.lin 0x4003082c 0x0 0x0) 0 32⟩,
  ⟨0x2718, 1, 0x1, 8, 3, 31, 24, .reg (.lin 0x40030880 0x0 0x4) 0 24⟩,
  ⟨0x2719, 1, 0x1, 8, 3, 31, 24, .reg (.lin 0x400308a0 0x0 0x4) 0 24⟩,
  ⟨0x271a, 1, 0x1, 8, 2, 31, 24, .reg (.lin 0x400308c0 0x0 0x4) 0 16⟩,
  ⟨0x271b, 1, 0x1, 24, 4, 31, 28, .reg (.lin 0x40030900 0x0 0x4) 0 32⟩,
  ⟨0x271c, 1, 0x0, 1, 1, 31, 28, .reg (.lin 0x40030808 0x0 0x0) 0 8⟩,
  ⟨0x271d, 1, 0x1, 2, 8192, 28, 28, .mem 0x18084000 0x2000⟩,
  ⟨0x271e, 1, 0x0, 1, 98304, 28, 28, .mem 0x180A0000 0⟩,
  ⟨0x271f, 1, 0x0, 1, 1, 0, 28, .reg (.lin 0x4003080c 0x0 0x0) 0 1⟩,
  ⟨0x2720, 1, 0x0, 1, 2, 0, 28, .sp .reinit⟩,
  ⟨0x2721, 1, 0x1, 1, 2, 31, 0, .reg (.lin 0x40030830 0x0 0x0) 0 16⟩,
  ⟨0x2721, 1, 0x2, 1, 4, 31, 0, .reg (.lin 0x4003083c 0x0 0x0) 0 32⟩,
  ⟨0x2722, 1, 0x0, 1, 1, 31, 24, .reg (.lin 0x40030800 0x0 0x0) 0 1⟩]

/-- Objects of the braid table. -/
def objs_braid : List ObjRow := [
  ⟨0x2800, 1, 0x0, 1, 1, 31, 0, .reg (.lin 0x40400004 0x0 0x0) 0 4⟩,
  ⟨0x2801, 1, 0x1, 1, 1, 23, 20, .reg (.lin 0x40400000 0x0 0x0) 0 1⟩,
  ⟨0x2801, 1, 0x2, 1, 1, 31, 28, .reg (.lin 0x40400000 0x0 0x0) 1 1⟩,
  ⟨0x2801, 1, 0x3, 1, 1, 31, 28, .reg (.lin 0x40400000 0x0 0x0) 2 1⟩,
  ⟨0x2801, 1, 0x4, 1, 1, 31, 28, .reg (.lin 0x40400000 0x0 0x0) 8 8⟩,
  ⟨0x2801, 1, 0x5, 1, 2, 31, 28, .reg (.lin 0x40400010 0x0 0x0) 0 16⟩,
  ⟨0x2801, 1, 0x6, 1, 2, 31, 28, .reg (.lin 0x40400010 0x0 0x0) 16 11⟩,
  ⟨0x2802, 1, 0x1, 1, 1, 31, 0, .reg (.lin 0x40400004 0x0 0x0) 4 1⟩,
  ⟨0x2802, 1, 0x2, 1, 4, 31, 0, .reg (.lin 0x40400014 0x0 0x0) 0 32⟩,
  ⟨0x2802, 1, 0x3, 1, 4, 31, 0, .reg (.lin 0x40400018 0x0 0x0) 0 32⟩,
  ⟨0x2802, 1, 0x4, 1, 4, 31, 0, .reg (.lin 0x4040001c 0x0 0x0) 0 32⟩,
  ⟨0x2802, 1, 0x5, 1, 1, 31, 0, .reg (.lin 0x40400020 0x0 0x0) 0 8⟩,
  ⟨0x2802, 1, 0x6, 1, 6, 31, 8, .sp .pairMac⟩,
  ⟨0x2803, 1, 0x1, 1, 1, 31, 0, .reg (.lin 0x40400030 0x0 0x0) 0 8⟩,
  ⟨0x2803, 1, 0x2, 1, 4, 31, 0, .reg (.lin 0x40400034 0x0 0x0) 0 32⟩,
  ⟨0x2803, 1, 0x3, 1, 4, 31, 0, .reg (.lin 0x40400038 0x0 0x0) 0 32⟩,
  ⟨0x2803, 1, 0x4, 1, 4, 31, 0, .reg (.lin 0x4040003c 0x0 0x0) 0 32⟩,
  ⟨0x2804, 1, 0x1, 1, 1, 0, 20, .reg (.lin 0x40400008 0x0 0x0) 0 1⟩,
  ⟨0x2804, 1, 0x2, 1, 1, 0, 21, .reg (.lin 0x40400008 0x0 0x0) 1 1⟩,
  ⟨0x2804, 1, 0x3, 1, 1, 0, 20, .reg (.lin 0x40400008 0x0 0x0) 2 1⟩,
  ⟨0x2804, 1, 0x4, 1, 1, 0, 20, .reg (.lin 0x40400008 0x0 0x0) 3 1⟩,
  ⟨0x2805, 1, 0x1, 7, 4, 31, 0, .reg (.lin 0x40400080 0x0 0x4) 0 32⟩,
  ⟨0x2806, 1, 0x0, 1, 52, 31, 0, .sp .health⟩,
  ⟨0x2807, 1, 0x1, 1, 6, 31, 0, .words (.lin 0x40400048 0x0 0x0) 2⟩,
  ⟨0x2807, 1, 0x2, 1, 3, 31, 0, .reg (.lin 0x40400050 0x0 0x0) 0 24⟩,
  ⟨0x2807, 1, 0x3, 1, 2, 31, 0, .reg (.lin 0x40400054 0x0 0x0) 0 16⟩,
  ⟨0x2808, 1, 0x1, 1, 8, 31, 0, .words (.lin 0x40400058 0x0 0x0) 2⟩,
  ⟨0x2808, 1, 0x2, 1, 1, 31, 0, .reg (.lin 0x40400060 0x0 0x0) 0 8⟩]

/-- Objects of the delta table. -/
def objs_delta : List ObjRow := [
  ⟨0x2900, 1, 0x1, 1, 1, 31, 28, .reg (.lin 0x40600000 0x0 0x0) 0 1⟩,
  ⟨0x2900, 1, 0x2, 1, 1, 31, 0, .reg (.lin 0x40600004 0x0 0x0) 8 7⟩,
  ⟨0x2901, 1, 0x1, 64, 4, 31, 28, .reg (.lin 0x40600100 0x0 0x4) 0 32⟩,
  ⟨0x2902, 1, 0x1, 32, 4, 31, 28, .sp .fcfg⟩,
  ⟨0x2903, 1, 0x0, 1, 1, 0, 28, .reg (.lin 0x40600008 0x0 0x0) 0 8⟩,
  ⟨0x2904, 1, 0x1, 7, 4, 31, 0, .reg (.lin 0x40600020 0x0 0x4) 0 32⟩,
  ⟨0x2905, 1, 0x1, 32, 8, 31, 28, .words (.lin 0x40600204 0x0 0x10) 2⟩]

/-- Objects of the headwater table. -/
def objs_headwater : List ObjRow := [
  ⟨0x2a00, 1, 0x0, 1, 2, 31, 0, .reg (.lin 0x40000400 0x0 0x0) 0 16⟩,
  ⟨0x2a01, 1, 0x1, 8, 4, 31, 16, .reg (.lin 0x40000420 0x0 0x4) 0 32⟩,
  ⟨0x2a02, 1, 0x0, 1, 512, 28, 16, .words (.lin 0x40000800 0x0 0x0) 128⟩,
  ⟨0x2a03, 1, 0x0, 1, 1, 31, 16, .reg (.lin 0x4000040c 0x0 0x0) 0 8⟩,
  ⟨0x2a04, 1, 0x0, 1, 32, 4, 0, .sp .challenge⟩,
  ⟨0x2a05, 1, 0x0, 1, 104, 0, 4, .sp .token⟩,
  ⟨0x2a10, 1, 0x1, 8, 1, 31, 20, .sp .tpCfg⟩,
  ⟨0x2a11, 1, 0x1, 1, 3, 31, 0, .reg (.lin 0x40000504 0x0 0x0) 0 24⟩,
  ⟨0x2a11, 1, 0x2, 1, 2, 31, 0, .reg (.lin 0x40000508 0x0 0x0) 0 16⟩,
  ⟨0x2a12, 1, 0x0, 1, 1, 0, 20, .sp .tpClear⟩,
  ⟨0x2a20, 1, 0x1, 6, 48, 31, 0, .sp .measure⟩,
  ⟨0x2a21, 1, 0x0, 1, 32, 0, 31, .sp .nonce⟩,
  ⟨0x2a22, 1, 0x0, 1, 428, 31, 0, .sp .quote⟩,
  ⟨0x2a30, 1, 0x0, 1, 1, 31, 20, .reg (.lin 0x40000410 0x0 0x0) 0 8⟩,
  ⟨0x2a31, 1, 0x0, 1, 2, 31, 0, .sp .slots⟩,
  ⟨0x2a32, 1, 0x0, 1, 1, 0, 4, .sp .zeroClear⟩,
  ⟨0x2a40, 1, 0x0, 1, 1, 0, 20, .reg (.lin 0x40000404 0x0 0x0) 0 1⟩]

/-- Objects of the system table. -/
def objs_system : List ObjRow := [
  ⟨0x2b00, 1, 0x0, 1, 3, 31, 0, .reg (.lin 0x40a00008 0x0 0x0) 0 24⟩,
  ⟨0x2b01, 1, 0x0, 1, 1, 0, 21, .reg (.lin 0x40a00000 0x0 0x0) 0 8⟩,
  ⟨0x2b02, 1, 0x0, 1, 1, 31, 0, .reg (.lin 0x40a0000c 0x0 0x0) 0 8⟩,
  ⟨0x2b03, 1, 0x0, 1, 4, 31, 0, .reg (.lin 0x40a00010 0x0 0x0) 0 32⟩,
  ⟨0x2b04, 1, 0x1, 5, 4, 31, 0, .reg (.lin 0x40a00020 0x0 0x4) 0 32⟩,
  ⟨0x2b04, 1, 0x6, 1, 4, 31, 0, .reg (.lin 0x40a00014 0x0 0x0) 0 32⟩,
  ⟨0x2b05, 1, 0x1, 5, 4, 31, 0, .reg (.lin 0x40a00040 0x0 0x4) 0 32⟩,
  ⟨0x2b05, 1, 0x6, 1, 4, 31, 0, .reg (.lin 0x40a00018 0x0 0x0) 0 32⟩,
  ⟨0x2b06, 1, 0x0, 1, 2, 31, 0, .sp .confirmLeft⟩,
  ⟨0x2b07, 1, 0x0, 1, 1, 23, 20, .reg (.lin 0x40a00004 0x0 0x0) 0 1⟩,
  ⟨0x2b10, 1, 0x1, 1, 3, 31, 0, .sp .partner⟩,
  ⟨0x2b10, 1, 0x2, 1, 1, 31, 0, .sp .partner⟩,
  ⟨0x2b10, 1, 0x3, 1, 4, 31, 0, .sp .partner⟩,
  ⟨0x2c00, 1, 0x1, 2, 2, 31, 0, .reg (.lin 0x40000104 0x0 0x20) 0 16⟩,
  ⟨0x2c00, 1, 0x3, 2, 4, 31, 0, .reg (.lin 0x4000010c 0x0 0x20) 0 32⟩,
  ⟨0x2c01, 1, 0x1, 1, 4, 31, 0, .reg (.lin 0x40000228 0x0 0x0) 0 32⟩,
  ⟨0x2c01, 1, 0x2, 1, 6, 31, 0, .words (.lin 0x40000220 0x0 0x0) 2⟩,
  ⟨0x2c01, 1, 0x3, 6, 4, 31, 0, .reg (.lin 0x40000200 0x0 0x4) 0 32⟩,
  ⟨0x2c10, 1, 0x1, 1, 2, 31, 0, .reg (.lin 0x40010004 0x0 0x0) 0 16⟩,
  ⟨0x2c10, 1, 0x2, 1, 1, 0, 16, .sp .lockSet⟩,
  ⟨0x2d00, 1, 0x0, 1, 1, 31, 0, .reg (.lin 0x40000004 0x0 0x0) 0 3⟩,
  ⟨0x2d01, 1, 0x0, 1, 1, 0, 23, .reg (.lin 0x40000000 0x0 0x0) 0 8⟩,
  ⟨0x2d02, 1, 0x0, 1, 2, 31, 0, .reg (.lin 0x40000004 0x0 0x0) 0 16⟩,
  ⟨0x2d03, 1, 0x0, 1, 1, 31, 28, .reg (.lin 0x40000008 0x0 0x0) 0 8⟩,
  ⟨0x2d04, 1, 0x0, 1, 1, 0, 20, .reg (.lin 0x4000000c 0x0 0x0) 0 1⟩,
  ⟨0x2d05, 1, 0x0, 1, 1, 31, 0, .reg (.lin 0x40000010 0x0 0x0) 0 8⟩,
  ⟨0x2d06, 1, 0x1, 1, 2, 31, 0, .reg (.lin 0x40000014 0x0 0x0) 0 16⟩,
  ⟨0x2d06, 1, 0x2, 1, 2, 31, 0, .reg (.lin 0x40000018 0x0 0x0) 0 16⟩,
  ⟨0x2d06, 1, 0x3, 1, 2, 31, 0, .reg (.lin 0x4000001c 0x0 0x0) 0 16⟩,
  ⟨0x2d07, 1, 0x0, 1, 1, 0, 16, .reg (.lin 0x40000020 0x0 0x0) 0 1⟩,
  ⟨0x2d08, 1, 0x0, 1, 1, 31, 0, .reg (.lin 0x40210090 0x0 0x0) 0 8⟩,
  ⟨0x2e00, 1, 0x1, 1, 4, 31, 0, .sp .latestEvt⟩,
  ⟨0x2e00, 1, 0x2, 1, 4, 31, 31, .sp .readPos⟩,
  ⟨0x2e00, 1, 0x3, 1, 32, 31, 0, .sp .record⟩,
  ⟨0x2e00, 1, 0x4, 1, 1024, 31, 0, .sp .records⟩,
  ⟨0x2e00, 1, 0x5, 1, 2, 31, 0, .sp .held⟩]

/-- Objects of the results table. -/
def objs_results : List ObjRow := [
  ⟨0x3000, 6144, 0x0, 1, 1, 31, 0, .const 14⟩,
  ⟨0x3000, 6144, 0x1, 10, 3, 31, 0, .sp .cellWord⟩,
  ⟨0x3000, 6144, 0xb, 1, 3, 31, 0, .sp .cellWord⟩,
  ⟨0x3000, 6144, 0xc, 1, 3, 31, 0, .sp .cellWord⟩,
  ⟨0x3000, 6144, 0xd, 1, 39, 31, 0, .sp .cellRecord⟩,
  ⟨0x3000, 6144, 0xe, 1, 3, 31, 0, .sp .cellTurn⟩,
  ⟨0x4800, 24, 0x1, 16, 4, 31, 0, .sp .strWord⟩,
  ⟨0x4800, 24, 0x11, 1, 67, 31, 0, .sp .strRecord⟩,
  ⟨0x4818, 1, 0x1, 1, 3, 31, 0, .reg (.lin 0x40030840 0x0 0x0) 0 24⟩,
  ⟨0x4818, 1, 0x2, 1, 2, 31, 0, .sp .passWord⟩,
  ⟨0x4818, 1, 0x3, 1, 2, 31, 0, .sp .passWord⟩,
  ⟨0x4818, 1, 0x4, 1, 3, 31, 0, .reg (.lin 0x40030844 0x0 0x0) 0 24⟩,
  ⟨0x4818, 1, 0x5, 1, 4, 31, 0, .sp .passWord⟩,
  ⟨0x4818, 1, 0x6, 1, 2, 31, 0, .sp .passWord⟩]

/-- Every object, by rising index. -/
def objRows : List ObjRow := objs_general ++ objs_millrace ++ objs_sluice ++ objs_io ++ objs_can ++ objs_weir ++ objs_confluence ++ objs_gauge ++ objs_braid ++ objs_delta ++ objs_headwater ++ objs_system ++ objs_results

end Sys2Proof.Machine
end

