-- ==== Sys2Proof/Machine/ObjView.lean ====
section
/-!
DEFINITION. The object dictionary as it reads: which row an index and subindex name (R407), the rights of a class with
the overrides (R7, R8, R409), the value of each object, and the configuration checksum over them (R317).
-/
namespace Sys2Proof.Machine

/-- The unit is in rescue, where the object dictionary is not served (R459). -/
abbrev State.rescue (s : State) : Bool := s.rd .UPD_STAT_STATE == 6

/-! ## Rows -/

/-- The row of an index and subindex, with the places in its ranges. -/
def objFind (index sub : Nat) : Option (ObjRow × Nat × Nat) :=
  (objRows.find? fun r => r.idx ≤ index && index < r.idx + r.n && r.sub ≤ sub && sub < r.sub + r.m).map
    fun r => (r, index - r.idx, sub - r.sub)

/-- The index exists. -/
def objExists (index : Nat) : Bool := objRows.any fun r => r.idx ≤ index && index < r.idx + r.n

/-- The highest subindex of an index. -/
def objHighest (index : Nat) : Nat :=
  (objRows.filter fun r => r.idx ≤ index && index < r.idx + r.n).foldl (fun m r => max m (r.sub + r.m - 1)) 0

/-- The row that subindex 0 of an object with further subindices has where its table gives none (R407); every class reads
it (log entry 36). -/
def countRow (index : Nat) : ObjRow := ⟨index, 1, 0, 1, 1, 31, 0, .const (objHighest index)⟩

/-- Tests 1 and 2 of R408: the row, or the abort code. -/
def objLookup (index sub : Nat) : (ObjRow × Nat × Nat) ⊕ Nat :=
  match objFind index sub with
  | some r => .inl r
  | none => if !objExists index then .inr abortNoObject else if sub = 0 then .inl (countRow index, 0, 0) else .inr abortNoSub

/-- Test 3 of R408: zero, or the abort code. A class that has the other right reads a write-only object or writes a
read-only one (log entry 36). -/
def State.rightsCode (s : State) (cls index : Nat) (r : ObjRow) (write : Bool) : Nat :=
  let has := bit (if write then r.w else r.r) cls && !s.overridden cls index write
  if has then 0
  else if (if write then r.w else r.r) = 0 then (if write then abortReadOnly else abortWriteOnly)
  else abortRights

/-! ## Values -/

/-- The physical address of a place. -/
def Loc.addr : Loc → Nat → Nat → Nat
  | .lin b sa sj, a, j => b + a * sa + j * sj
  | .chan off, a, _ => dieWindow (dieOf a) + chanOffset a + off
  | .io off, a, _ => dieWindow (ioDieOf a) + ioOffset a + off

/-- Time left of the confirmation, in seconds (R458). -/
def State.confirmLeft (s : State) : Nat :=
  match s.upd.confirmAt with
  | some t => min 4095 ((t - s.now + 99999999) / 100000000)
  | none => 0

/-- Requests that wait for the object engine, by class (R410). -/
def State.odDepth (s : State) (cls : Nat) : Nat :=
  (s.handed.filter fun h => cls = (if h.1 ≤ 1 then 0 else if 0x300 ≤ h.1 then 4 else if h.1 ≤ 7 || 0x200 ≤ h.1 then 1 else 5)).length
    + (s.braid.releases.filter fun e => match e.2 with
        | .request r => r.cls == cls
        | _ => false).length

/-- The registers that follow time, the raised tamper sources, a copy under way, HW_USE, the depths of the object engine's queues,
LK_SET, which reads the locks set (R3), and LK_STAT.RESTORE, the copy of SYS_WAKE.RESTORE (R446). -/
def State.live (s : State) : State :=
  let s := s.settleLive.copyLive
  let s := s.wr .HW_USE s.inUse
  let s := ((s.wr .MR_FREE (cut 32 s.ticks)).wr .MR_FREE_WRAP (s.ticks / 2 ^ 32)).wr .UPD_CONFIRM_LEFT s.confirmLeft
  let s := (s.wr .LK_SET (s.rd .LK_STAT_LOCKS)).wr .LK_STAT_RESTORE (s.rd .SYS_WAKE_RESTORE)
  let d (c : Nat) : Nat := min 16 (s.odDepth c)
  let s := s.wr .BR_HEALTH s.healthWord
  ((((s.wr .OD_QDEPTH_P (d 0)).wr .OD_QDEPTH_E (d 1)).wr .OD_QDEPTH_S (d 2)).wr .OD_QDEPTH_B (d 3)).wr .OD_QDEPTH_I (d 4)

/-- The register at an address as it reads; an address without a register reads zero. -/
def State.regAtValue (s : State) (addr : Nat) : Nat :=
  match regAt addr with
  | some r => s.regValue r
  | none => 0

/-- The half of Gauge results named in GE_DONE (R131). -/
abbrev State.doneHalf (s : State) : Nat := s.rd .GE_DONE_TURN % 2

/-- The turn of the results in the half of the pass named in GE_DONE. While a pass rewrites that half the engine copies from the
newer one, whose records stand there already (R131, R132). -/
def State.halfTurn (s : State) : Nat :=
  let n := s.rd .GE_DONE_TURN
  match s.gauge.running with
  | some (h, _, _, _) => if h = n % 2 then (s.gt h).turn else n
  | none => n

/-- A cell record, a string record and the pass header of that half (R125). -/
abbrev State.cellAddr (s : State) (c : Nat) : Nat := gaugeSram + 0xD0000 + s.doneHalf * 0x48000 + 0x30 * c
abbrev State.strAddr (s : State) (n : Nat) : Nat := gaugeSram + 0x160000 + s.doneHalf * 0x800 + 0x40 * n
abbrev State.passAddr (s : State) : Nat := gaugeSram + 0x161000 + s.doneHalf * 0x100

/-- The latest complete turn record of a die (R148), if any. -/
def State.lastTurnRec (s : State) (g : Nat) : Option Nat :=
  let a (h : Nat) : Nat := dieWindow g + 0xB000 + h * 0x40
  let done (h : Nat) : Bool := bit (s.word (a h + 0x3C)) 31
  let turn (h : Nat) : Nat := s.word (a h) % 2 ^ 24
  match done 0, done 1 with
  | false, false => none
  | true, false => some (a 0)
  | false, true => some (a 1)
  | true, true => some (if (turn 1 + 2 ^ 24 - turn 0) % 2 ^ 24 < 2 ^ 23 then a 1 else a 0)

/-- The error register (R430). -/
def State.errorReg (s : State) : Nat :=
  let b1 := (List.range 32).any (fun k => s.rd .SL_STAT_STATE k = 5 || s.rd .SL_STAT_STATE k = 6)
    || (List.range 4).any fun g => s.flag .SL_WD_STAT_FAILSAFE g
  let b2 := (List.range 4).any fun g => s.flag .SL_UV_STAT_UVOFF g
  let b3 := (List.range 32).any (fun k => s.flag .SL_PROT_STAT_TLATCH k) || bit (s.rd .TP_STAT_LIVE) 5
  let b4 := (List.range 16).any (fun k => s.rd .CAN_STAT_STATE k = 4)
    || [0, 1, 2, 3, 4, 5, 6, 7, 9].any fun p => s.flag .CFP_CTL_EN p && !s.flag .CFP_STAT_LINK p
  let b7 := s.flag .LS_STAT_ERR 0 || s.flag .LS_STAT_ERR 1 || s.flag .BR_STAT_DIVERGE || s.flag .HW_STAT_KEYLESS
  b2n (b1 || b2 || b3 || b4 || b7) + 2 * b2n b1 + 4 * b2n b2 + 8 * b2n b3 + 16 * b2n b4 + 128 * b2n b7

/-- An address word: octets a.b.c.d with `a` most significant. -/
abbrev ip4 (a b c d : Nat) : Nat := 2 ^ 24 * a + 2 ^ 16 * b + 256 * c + d

/-- Address (0), mask (1) or gateway (2) of port `p`; port 8 is the service port (R430). -/
def State.ipOf (s : State) (p j : Nat) : Nat :=
  match NMap.at 0 s.od.addr (3 * p + j) with
  | v + 1 => v
  | 0 =>
    if j = 0 then (if p = 8 then ip4 169 254 61 1 else ip4 169 254 (16 + p) (1 + s.factory.serial % 254))
    else if j = 1 then ip4 255 255 0 0 else 0

/-- The Confluence entry in force that the table selector names; for the MAC table by the key in the staging words
(R269 to R271, log entry 37). -/
def State.confEntry (s : State) : List Nat :=
  let i := s.od.selCf % 0x2000
  match bits s.od.selCf 16 2 with
  | 0 =>
    match s.macFind (s.cfStage 0 + 2 ^ 32 * cut 16 (s.cfStage 1)) (bits (s.cfStage 1) 16 12) with
    | none => []
    | some e => [cut 32 e.mac, e.mac / 2 ^ 32 + 65536 * e.vid, e.mask + 2 ^ 10 * b2n e.static + 2 ^ 28 * e.world + 2 ^ 31]
  | 1 => [NMap.at 0 s.conf.vlan i]
  | 2 => NMap.at [] s.conf.acl i
  | _ => []

/-- The record of ESEQ `e`, zero where it is gone. -/
def State.eventAt (s : State) (e : Nat) : LogRec := (s.elog.find? (·.eseq == e)).getD LogRec.zero

/-- What the object engine keeps for a path. -/
abbrev State.path (s : State) (p : Nat) : OdPath := NMap.at {} s.od.paths p
abbrev State.setPath (s : State) (p : Nat) (c : OdPath) : State := { s with od := { s.od with paths := NMap.put {} s.od.paths p c } }

/-- The health report (R316). -/
def State.healthReport (s : State) : List Nat :=
  leBytes 4 s.healthWord ++ (List.range 16).flatMap fun i => leBytes 3 (s.braid.testTurns.getD i 0xFFFFFF)

/-- A value that no register field shows as it is, for a request that came on `path`: `a` is the place in the row's range
of indices, `j` in that of subindices. -/
def State.spValue (s : State) (path : Nat) (r : ObjRow) (a j : Nat) : Sp → List Nat
  | .devType => leBytes 4 0
  | .errReg => [s.errorReg]
  | .devName => [0x44, 0x5A, 0x36, 0x31, 0x34, 0x34]
  | .hwVersion => padTo 8 s.factory.hwVersion
  | .swVersion => padTo 16 (Config.versionText (s.partBytes (s.rd .UPD_STAT_BANK) (mftFind (s.manifest (s.rd .UPD_STAT_BANK)) 1)))
  | .revision => leBytes 4 s.factory.revision
  | .serial => leBytes 4 s.factory.serial
  | .eds => (Config.edsText (s.manifest (s.rd .UPD_STAT_BANK))).take 131072
  | .ownMac => leBytes 6 s.factory.base
  | .ipAddr => leBytes 4 (if r.idx = 0x1D28 then s.ipOf 8 j else s.ipOf a (r.sub - 1))
  | .summary => padTo 1536 (s.path path).snap
  | .soundings => leBytes 2 s.od.soundings
  | .lastSeq => leBytes 3 (NMap.at 0 s.od.last (j + 1) - 1)
  | .ovr => leBytes 6 (s.rd .OD_OVR_FIRST j + 2 ^ 16 * s.rd .OD_OVR_LAST j + 2 ^ 32 * s.rd .OD_OVR_NOREAD j
      + 2 ^ 40 * s.rd .OD_OVR_NOWRITE j + 2 ^ 47 * s.rd .OD_OVR_VALID j)
  | .phaseNow => leBytes 6 s.phase
  | .freeNow => leBytes 4 s.ticks
  | .evtIdx => leBytes 2 s.od.idxEvt
  | .evtEntry =>
    let e := s.entry s.od.idxEvt
    leBytes 4 e.w0 ++ leBytes 4 e.w1 ++ leBytes 4 e.w2 ++ leBytes 4 e.w3
  | .cellIdx => leBytes 2 s.od.idxCell
  | .cellShadow => leBytes 3 (s.rd .GA_CELLMAP_SH s.od.idxCell)
  | .cellInForce => leBytes 3 (s.rd .GA_CELLMAP s.od.idxCell)
  | .cellWord => s.bytesAt (s.cellAddr a + 4 * (r.sub + j - 1)) 3
  | .cellRecord => leBytes 3 s.halfTurn ++ (List.range 12).flatMap fun i => s.bytesAt (s.cellAddr a + 4 * i) 3
  | .cellTurn => leBytes 3 s.halfTurn
  | .strWord => s.bytesAt (s.strAddr a + 4 * j) 4
  | .strRecord => leBytes 3 s.halfTurn ++ s.bytesAt (s.strAddr a) 64
  | .passWord => s.bytesAt (s.passAddr + (match r.sub with | 2 => 0x18 | 3 => 0x1C | 5 => 0x28 | _ => 0x20)) r.size
  | .turnAvg =>
    match s.lastTurnRec (dieOf a) with
    | some t => s.bytesAt (t + 8 + 4 * localOf a) 3
    | none => leBytes 3 0
  | .avgTurn =>
    match s.lastTurnRec (dieOf a) with
    | some t => s.bytesAt t 3
    | none => leBytes 3 0
  | .pairNow =>
    let x := if s.isPair a then s.rdI .SL_INOW a + s.rdI .SL_INOW (a + 1) else s.rdI .SL_INOW a
    leBytes 3 (ofInt 24 (max (-(2 ^ 23)) (min (2 ^ 23 - 1) x)))
  | .fsTable => (List.range 4).flatMap fun i => leBytes 3 (s.rd .SL_FS_ACT (4 * a + i))
  | .ioLast => leBytes 4 (s.rd .IO_LAST (2 * a)) ++ leBytes 4 (s.rd .IO_LAST (2 * a + 1))
  | .ioSafe => leBytes 3 (s.rd .IO_FS_ACT a)
  | .weIdx => leBytes 2 s.od.selWe
  | .weEntry => padTo 32 ((s.weirEntry (bit s.od.selWe 12) (bits s.od.selWe 0 12)).flatMap (leBytes 4))
  | .cfSel => leBytes 3 s.od.selCf
  | .cfEntry => padTo 48 (s.confEntry.flatMap (leBytes 4))
  | .ptpSec => leBytes 6 (s.ptpNow / 1000000000)
  | .ptpNs => leBytes 4 (s.ptpNow % 1000000000)
  | .pairMac => leBytes 6 (s.rd .BR_PAIRMAC_LO + 2 ^ 32 * s.rd .BR_PAIRMAC_HI)
  | .health => s.healthReport
  | .fcfg => leBytes 4 (s.rd .DM_FCFG_WORLD j + 2 ^ 8 * s.rd .DM_FCFG_MAXINFL j + 2 ^ 16 * s.rd .DM_FCFG_EN j)
  | .tpCfg => [bits (s.rd .TP_CFG) (4 * j) 3]
  | .measure => padTo 48 (s.head.measure.getD j [])
  | .quote => padTo 428 s.head.quote
  | .slots => leBytes 2 s.usedSlots.length
  | .confirmLeft => leBytes 2 s.confirmLeft
  | .partner => leBytes r.size (match r.sub with | 1 => s.od.partner.1 | 2 => s.od.partner.2.1 | _ => s.od.partner.2.2)
  | .latestEvt => leBytes 4 s.eseq
  | .readPos => leBytes 4 (s.path path).readPos
  | .record => (s.eventAt (s.path path).readPos).bytes
  | .records => (List.range 32).flatMap fun i => (s.eventAt ((s.path path).readPos + i)).bytes
  | .held => leBytes 2 s.elog.length
  | .sound | .nextWsn | .reinit | .challenge | .token | .tpClear | .nonce | .zeroClear | .lockSet => leBytes r.size 0

/-- The value of an object. -/
def State.objValue (s : State) (path : Nat) (r : ObjRow) (a j : Nat) : List Nat :=
  match r.src with
  | .reg l sh w => leBytes r.size (bits (s.live.regAtValue (l.addr a j)) sh w)
  | .words l n => ((List.range n).flatMap fun i => leBytes 4 (s.live.regAtValue (l.addr a j + 4 * i))).take r.size
  | .mem base step => s.bytesAt (base + j * step) r.size
  | .const v => leBytes r.size v
  | .sp x => s.spValue path r a j x

/-! ## The configuration checksum -/

/-- Values that stand for a table which is reached through an index object: the checksum and resynchronisation take the
table whole (log entry 38). -/
def Sp.viaIndex : Sp → Bool
  | .cellIdx | .cellShadow | .weIdx | .weEntry | .cfSel | .cfEntry | .readPos => true
  | _ => false

/-- A configuration object: class B may read and write it (log entry 38). -/
def ObjRow.isConf (r : ObjRow) : Bool :=
  bit r.r 3 && bit r.w 3 && r.idx ≠ 0x2511 && match r.src with
    | .sp x => !x.viaIndex
    | _ => true

/-- Every configuration object: row, index and subindex, in ascending index order. -/
def confObjects : List (ObjRow × Nat × Nat) :=
  (List.range 0x2000).flatMap fun i =>
    (objRows.filter fun r => r.isConf && r.idx ≤ 0x1000 + i && 0x1000 + i < r.idx + r.n).flatMap fun r =>
      (List.range r.m).map fun j => (r, 0x1000 + i - r.idx, j)

/-- The tables of Weir (object 0x2511), of Confluence (0x2611) and of Gauge (0x2704) as bytes, entry after entry. -/
def State.weirBytes (s : State) : List Nat :=
  s.route.flatMap (fun e => leBytes 2 e.1 ++ [e.2.w0, e.2.w1, e.2.w2, e.2.w3].flatMap (leBytes 4))
    ++ s.stream.flatMap (fun e => leBytes 2 e.1 ++ e.2.words.flatMap (leBytes 4))
def State.confBytes (s : State) : List Nat :=
  (s.conf.mac.filter (·.static)).flatMap (fun e => leBytes 6 e.mac ++ leBytes 2 e.vid ++ leBytes 4 (e.mask + 2 ^ 28 * e.world))
    ++ s.conf.vlan.flatMap (fun e => leBytes 2 e.1 ++ leBytes 4 e.2)
    ++ s.conf.acl.flatMap (fun e => leBytes 2 e.1 ++ e.2.flatMap (leBytes 4))

def State.cellBytes (s : State) : List Nat := (s.cellRegs .GA_CELLMAP_SH).flatMap fun e => leBytes 2 e.1 ++ leBytes 3 e.2

/-- BR_CONFSUM: the CRC-32 of the configuration objects in ascending index order (R317). -/
def State.confsum (s : State) : Nat :=
  let part (lo hi : Nat) : List Nat :=
    (confObjects.filter fun o => lo ≤ o.1.idx + o.2.1 && o.1.idx + o.2.1 < hi).flatMap fun o => s.objValue 0x40 o.1 o.2.1 o.2.2
  crc32 (part 0 0x2511 ++ s.weirBytes ++ part 0x2511 0x2611 ++ s.confBytes ++ part 0x2611 0x2704 ++ s.cellBytes ++ part 0x2704 0x10000)

/-- The checksum shown by BR_CONFSUM is formed from the configuration. -/
def State.formConfsum (s : State) : State := s.wr .BR_CONFSUM s.confsum

end Sys2Proof.Machine
end

