-- ==== Sys2Proof/Machine/StartOps.lean ====
section
/-!
DEFINITION. Resets and the start sequence (R433, R441, R476): what a reset keeps, the stores checked, the bank chosen and
measured, the image configuration, the dies; and the journal control block (R309).
-/
namespace Sys2Proof.Machine

/-- What a meaning makes of a state. -/
def State.via (s : State) (f : State → Out) : State :=
  match f s with
  | .next t => t
  | _ => s

/-! ## The journal control block -/

/-- The body of a control block: sequence, epoch, configuration generation, write offset, lowest open entry (log entry 10). -/
def State.controlBody (s : State) (seq : Nat) : List Nat :=
  leBytes 4 seq ++ leBytes 4 (s.rd .BR_EPOCH) ++ leBytes 4 (s.rd .BR_CONFGEN) ++ leBytes 4 s.braid.wrOff
    ++ leBytes 6 (s.rd .BR_JOPEN_LO + 2 ^ 32 * s.rd .BR_JOPEN_HI)

/-- Address of copy `c` of the control block. -/
abbrev controlAt (c : Nat) : Nat := mram + 0x1000 * c

/-- The next copy of the control block is written; the two alternate (R309). -/
def State.writeControl (s : State) : State :=
  let seq := (s.braid.ctlSeq + 1) % 2 ^ 32
  let body := s.controlBody seq
  { s.mramStore (controlAt (seq % 2)) (body ++ leBytes 4 (crc32 body)) with braid := { s.braid with ctlSeq := seq } }

/-- Copy `c` of the control block is valid. -/
def State.controlValid (s : State) (c : Nat) : Bool :=
  leVal (s.bytesAt (controlAt c + 22) 4) = crc32 (s.bytesAt (controlAt c) 22)

/-- The word at offset `off` of the valid copy with the higher sequence number; 0 where none is valid. -/
def State.controlWord (s : State) (off : Nat) : Nat :=
  let q (c : Nat) : Nat := leVal (s.bytesAt (controlAt c) 4)
  let g (c : Nat) : Nat := leVal (s.bytesAt (controlAt c + off) 4)
  match s.controlValid 0, s.controlValid 1 with
  | true, true => if q 0 < q 1 then g 1 else g 0
  | true, false => g 0
  | false, true => g 1
  | false, false => 0

/-- An entry of `size` units at an MRAM offset holds its MAGIC and its CRC (R309). -/
def State.entryWhole (s : State) (size off : Nat) : Bool :=
  let l := s.bytesAt (mram + off) (32 * size)
  leVal (l.take 2) = 0xB7A1 && l.getD 3 0 = size && leVal ((l.drop 28).take 4) = crc32 (l.take 28 ++ [0, 0, 0, 0] ++ l.drop 32)

/-- The EPOCH of the entry at an MRAM offset. -/
abbrev State.entryEpoch (s : State) (off : Nat) : Nat := leVal (s.bytesAt (mram + off + 16) 4)

/-- The journal as a start finds it (R309, R311): the control block gives the epoch and the configuration generation, an entry that
fails MAGIC or CRC ends the ring, and a chain whose last entry is missing ends it at its opening. The entries up to there are open
as the state holds them (log entry 23). -/
def State.journalRead (s : State) : State :=
  let b := s.braid
  let good := b.ring.takeWhile fun e => s.entryWhole e.2.1 e.2.2 && leVal (s.bytesAt (mram + e.2.2 + 4) 6) = e.1
  let tail := (b.ring[good.length]?).map fun e => (e.1, e.2.2)
  let torn := (b.jopen.find? fun e => tail.any fun t => e.jseq < t.1 && t.1 < e.jseq + 1 + ceilDiv e.work.rest.length 2144).bind fun e =>
    (b.ring.find? (·.1 == e.jseq)).map fun x => (x.1, x.2.2)
  let s := (s.wr .BR_CONFGEN (s.controlWord 8)).wr .BR_EPOCH
    (((good.map fun e => s.entryEpoch e.2.2) ++ (b.mark.filter (s.entryWhole 2)).toList.map s.entryEpoch).foldl max (s.controlWord 4))
  match torn.orElse fun _ => tail with
  | none => s
  | some (j, off) => { s with braid := { b with jseq := j, wrOff := off, ring := b.ring.filter (·.1 < j), jopen := b.jopen.filter (·.jseq < j) } }

/-- A torn entry stands where the next journal entry goes: its MAGIC holds and its CRC does not (R309, R441). -/
def State.tornEntry (s : State) : Bool :=
  let a := mram + s.braid.wrOff
  let n := 32 * s.byteAt (a + 3)
  let l := s.bytesAt a n
  leVal (s.bytesAt a 2) = 0xB7A1 && leVal (s.bytesAt (a + 4) 6) = s.braid.jseq
    && leVal ((l.drop 28).take 4) != crc32 (l.take 28 ++ [0, 0, 0, 0] ++ l.drop 32)

/-! ## What a reset keeps -/

/-- Journal MRAM and NOR keep their content without supply. -/
def keepsAlways (a : Nat) : Bool := (0x20000000 ≤ a && a < 0x21000000) || (0x30000000 ≤ a && a < 0x40000000)

/-- So do system SRAM and DRAM through Standby (R433, R436). -/
def keepsStandby (a : Nat) : Bool :=
  keepsAlways a || (0x10000000 ≤ a && a < 0x10800000) || (0x800000000 ≤ a && a < 0x900000000)

/-- Fields of rows, those on the Molgar side left out. -/
def dieFields (rows : List RegRow) : List Fld := (rows.filter (·.off < 0x8000)).flatMap (·.fields)

/-- What a die holds while Molgar is off. -/
def dieKeeps : List Fld := dieFields rows_die ++ dieFields rows_chan ++ dieFields rows_ioDie ++ dieFields rows_io

/-- Fields that the always-on domain or a die holds through Standby and Sleep: the tamper registers, the locks, the XCVR
block, the segments' states, the unit number, and the dies (R405, R433, R439); and two flags that last to the next power-on or
full reset (R333, R392). -/
def wakeKeeps : List Fld :=
  [.TP_CFG, .TP_STAT_LATCH, .TP_STAT_LIVE, .TP_STAT_ZEROISED, .TP_CNT, .LK_STAT_LOCKS, .WE_SLP_STAT_STATE, .WE_SLP_STAT_WAKESRC,
   .BR_STAT_UNIT, .BR_STAT_SEATED, .BR_STAT_PCLAIM, .BR_EPOCH, .UPD_STAT_CARD, .LS_STAT_DBGBRK, .HW_STAT_MEASFAIL]
    ++ dieKeeps ++ rows_xcvr.flatMap (·.fields)

/-- Fields that stand for what a full reset does not touch: the tamper registers and inputs from outside (R433). -/
def fullKeeps : List Fld :=
  [.TP_CFG, .TP_STAT_LATCH, .TP_STAT_LIVE, .TP_CNT, .BR_STAT_SEATED, .BR_STAT_PCLAIM, .BR_EPOCH, .UPD_STAT_CARD]

/-- At power-on the tamper registers go too. -/
def powerKeeps : List Fld := [.BR_STAT_SEATED, .BR_STAT_PCLAIM, .BR_EPOCH, .UPD_STAT_CARD]

/-- What the journal MRAM holds of the Braid state (R309, R423), and the partner's claim line as it reads. -/
def Braid.stored (b : Braid) : Braid :=
  { relAt := b.relAt, jseq := b.jseq, jopen := b.jopen ++ b.waiting ++ b.arrived, ring := b.ring, wrOff := b.wrOff, mark := b.mark, ctlSeq := b.ctlSeq,
    done := b.done }

/-- The state right after the reset of a start: the fields and the memory that survive it, what lies outside Molgar, and
the commands that wait. -/
def State.restarted (s : State) (fields : List Fld) (keep : Nat → Bool) : State :=
  { regs := s.regs.filter (fun e => fields.contains e.1.1), mem := s.mem.filter (fun c => keep c.1), now := s.now,
    release := s.now, free := s.free, emmc := s.emmc, factory := s.factory, ferry := { reports := s.ferry.reports }, die := s.die, io := s.io, braid := s.braid.stored,
    head := { fuses := s.head.fuses }, upd := { card := s.upd.card, copying := s.upd.copying, baseSet := s.upd.baseSet, factoryRec := s.upd.factoryRec },
    od := { last := s.od.last }, pending := s.pending,
    pw := { t0 := s.now, strap := s.pw.strap, key := s.pw.key, logicIn := s.pw.logicIn, logicAlt := s.pw.logicAlt } }

/-! ## The start sequence -/

/-- The registers of world assignment, regions, posting rights, debug enables and tamper sources from the configuration
of a Headwater image, and the locks it declares (R476 step 4). A word that a register does not take leaves it. -/
def State.imageConf (s : State) (w : List Nat) : State :=
  let s := { s with head := { s.head with debugOk := bit (w.getD 139 0) 0 } }
  let s := s.each (List.range 8) fun s r => s.when (waOk (w.getD r 3)) (·.wr (waFld r).1 (w.getD r 0) (waFld r).2)
  let s := s.each (List.range 32) fun s r =>
    let g (n : Nat) : Nat := w.getD (8 + 4 * r + n) 0
    (((((s.wr .HW_RGN_BASE_LO (g 0 - g 0 % 4096) r).wr .HW_RGN_BASE_HI (g 1) r).wr .HW_RGN_SIZE (g 2) r).wr .HW_RGN_PERM_N
      (bits (g 3) 0 3) r).wr .HW_RGN_PERM_S (bits (g 3) 3 3) r).wr .HW_RGN_PERM_VALID (bits (g 3) 31 1) r
  let p := w.getD 136 7
  let s := ((s.wr .FY_POSTEN_PAIR0 (bits p 0 1)).wr .FY_POSTEN_PAIR1 (bits p 1 1)).wr .FY_POSTEN_HW (bits p 2 1)
  let s := s.setDbg (w.getD 137 0 ||| s.head.token)
  let t := w.getD 138 0
  let s := s.when ((List.range 8).all fun i => bits t (4 * i + 1) 2 != 0) (·.wr .TP_CFG (t &&& 0x77777777))
  s.wr .LK_STAT_LOCKS (s.rd .LK_STAT_LOCKS ||| (w.getD 139 0 / 2) % 32)

/-- The six measurement registers over the bank in force, the measurement log and its digest (R390). -/
def State.measured (s : State) (b : Nat) : State :=
  let d (t : Nat) : List Nat := sha384 (s.partBytes b (mftFind (s.manifest b) t))
  let regs := [padTo 48 Config.loaderDigest, d 3, d 2, d 1, d 4, d 5]
  let log := regs.flatten ++ [b]
  let h := sha384 log
  let s := { s with head := { s.head with measure := regs } }.setBytes measBase log
  s.each (List.range 12) fun s i => s.wr .HW_MEASLOG (leVal ((h.drop (4 * i)).take 4)) i

/-- The images in memory (R449): the application image in DRAM, from its base (DESIGN CHOICE, log entry 100), and the Lalos
sequencer image. The safety and the Headwater image go into memories that no address map shows. -/
def State.imagesLoaded (s : State) (b : Nat) (m : List Nat) : State :=
  (s.setBytes 0x800000000 (s.partBytes b (mftFind m 1))).setBytes lalosBase (s.partBytes b (mftFind m 4))

/-- A copy that a reset has cut (R460): torn, or restarted where RESUME is 1 and the card holds the same manifest. -/
def State.copyAgain (s : State) : State :=
  match s.upd.copying with
  | none => s.when s.record.copy (·.wr .UPD_STAT_STATE 5)
  | some m =>
    let same := s.upd.card.any fun c => c.mft == some m
    let s := { s with upd := { s.upd with copying := none } }
    if s.flag .UPD_CTL_RESUME && same then s.copyStart m else s.wr .UPD_STAT_STATE 5

/-- The links to the dies with supply are up (R476 step 6). -/
def State.linksUp (s : State) : State :=
  s.each ((List.range 4).filter fun g => (s.di g).up) fun s g =>
    (((s.setDi g { s.di g with missed := 0, linkDown := false }).wr .FY_LINK_STATE 2 g).putBit .FY_STAT_UP g true).putBit .FY_STAT_REACH g true

/-- The dies whose EEPROM trim lies outside the trim reference of a Lalos image, its last 256 bytes (R449). The layout of the
reference and the trim words are not stated: a free value (log entry 96). -/
def trimRefused (image : List Nat) : List Nat :=
  (List.range 4).filter fun g => Config.trimOutside g (image.drop (image.length - 256))

/-- A die that is to start does not start the image: it stays unreachable (R449). -/
def State.trimBar (s : State) (g : Nat) : State :=
  if (s.di g).up && s.upd.trimOut.contains g then
    let t := (s.setDi g { s.di g with up := false }).resetDie g
    t.setDi g { t.di g with barred := true }
  else s

/-- Steps 2 to 6 of R476, and the verification of step 10: the stores of R441, the root, the bank in force or rescue,
measurements, image configuration, the Gauge parameter set in both parameter banks (R109), the dies that take the Lalos image,
links. `blocked`: a tamper source keeps the root out (R403). With another boot ROM than the one it knows, Headwater goes no
further (R336). -/
def State.startUp (s : State) (cause : Nat) (blocked : Bool) : State :=
  let s := s.wr .SYS_RSTCAUSE_CAUSE cause
  if !s.factory.romOk then s else
  let short := !s.braid.ring.isEmpty && s.journalRead.braid.ring.length < s.braid.ring.length
  let s := s.journalRead
  let mac := s.factory.base
  let s := (((s.wr .CF_OWNMAC_LO (cut 32 mac)).wr .CF_OWNMAC_HI (bits mac 32 16)).wr .BR_PAIRMAC_LO (cut 32 mac)).wr
    .BR_PAIRMAC_HI (bits mac 32 16)
  let s := s.putF .TP_STAT_ZEROISED (s.head.fuses % 2 = 1)
  let s := (((s.putF .SYS_START_JTORN (short || s.tornEntry)).putF .SYS_START_CTLBLK (!(s.controlValid 0 && s.controlValid 1))).putF
    .SYS_START_EETORN ((List.range 4).any fun g => (s.di g).up && !((s.di g).eeA.whole && (s.di g).eeB.whole))).putF
    .SYS_START_ACTREC (!(s.recValid 0 && s.recValid 1))
  let s := (s.regenerate (blocked || s.flag .HW_STAT_MEASFAIL)).jView
  let s := s.putF .SYS_START_KEYLESS (s.flag .HW_STAT_KEYLESS)
  let (s, bank, again) := s.bankSelect false 4
  let s := if again then s.wr .SYS_RSTCAUSE_CAUSE 2 else s
  match bank with
  | none => (s.updView.wr .UPD_STAT_STATE 6).rescueTry
  | some b =>
    let m := s.manifest b
    let s := (s.updView.measured b).wr .BR_MIRFMT (mftMir m)
    let s := s.imageConf (Config.imageConfig (s.partBytes b (mftFind m 3)))
    let s := s.imagesLoaded b m
    let s := (s.setBytes (gaugeSram + 0x84000) (padTo 0x4000 (s.partBytes b (mftFind m 5)))).wr .GE_PARAM_SEL_BANK 0
    let r := s.record
    let s := if r.trial then { s with upd := { s.upd with confirmAt := some (s.pw.t0 + 100000000 * r.confirm) } } else s
    let s := { s with upd := { s.upd with trimOut := trimRefused (s.partBytes b (mftFind m 4)) } }
    let s := if cause < 6 then s.each (List.range 4) State.trimBar else s
    (s.setF .HW_STAT_READY).copyAgain.linksUp

/-- Every die is reset with the module; one with supply starts unserved, with every output off (R48, R182). A fail-safe
commit under way is cut. -/
def State.diesAnew (s : State) : State :=
  s.each (List.range 4) fun s g =>
    let up := (s.di g).up || (s.di g).barred
    let s := s.via (execDieReset g)
    if up then s.via (execDieStart g) else s

/-- A cut copy leaves what it had programmed (R460); the manifest stays known to the start. -/
def State.copyCut (s : State) : State :=
  let c := s.upd.copying
  let s := s.copyTorn 0
  { s with upd := { s.upd with copying := c } }

/-- A start from power-on or full reset (R433, R476): BRAID_ID is sampled, all locks are clear, the log is empty. -/
def State.coldStart (s : State) (cause : Nat) : State :=
  let p := cause = 1
  let s := (s.copyCut).restarted (if p then powerKeeps else fullKeeps) keepsAlways
  let s := (s.wr .BR_STAT_UNIT s.pw.strap).diesAnew
  s.startUp cause false

end Sys2Proof.Machine
end

