-- ==== Sys2Proof/Machine/Power.lean ====
section
/-!
DEFINITION. Resets, entry into Standby and Sleep, wake and the stale-state check, and the pins that the always-on domain
watches (R26, R41, R42, R45, R433 to R440).
-/
namespace Sys2Proof.Machine

/-! ## Resets -/

/-- POWER_ON_RESET (R433, R476): a logic feed rises after every rail had fallen below its threshold. -/
def execPowerOnReset (s : State) : Out :=
  .next <|
    (({ s with pw := { s.pw with off := false, logicIn := s.pw.logicIn || !s.pw.logicAlt } } : State).answer .none).coldStart 1

/-- FULL_RESET (R433, R445): SYS_RST.FULL from the safety or secure world, or the reset that has been ordered (object
0x2D04.00, Headwater, a failed wake check), which no master sends. -/
def execFullReset (who : Initiator) (s : State) : Out := s.asMaster who <|
  let s := s.answer .none
  .next <| if who.master = 0xFF then (if s.pw.due = 0 then s else s.coldStart s.pw.due)
  else if s.worldOf who = .normal then s.setF .SYS_PWR_STAT_REFUSED
  else s.coldStart 2

/-- BOTH_PAIRS_FROZEN (R433): both safety pairs have been frozen for 10 ms. -/
def execBothPairsFrozen (s : State) : Out := s.running <|
  .next <| if s.flag .LS_STAT_FROZEN 0 && s.flag .LS_STAT_FROZEN 1 then s.coldStart 4 else s

/-- LOGIC_SUPPLY_LOSS (R37, R42, R48, R440): the logic feeds fall until the power-on reset asserts. Everything in Molgar is at its
reset values: the claim line is silent, terminations are open, transceivers, ports and cages are off. The dies run on
from their feeds, and MRAM and NOR keep their content. -/
def execLogicSupplyLoss (s : State) : Out :=
  let t := s.copyCut.dropLatch
  let t := { t.restarted (powerKeeps ++ dieKeeps) keepsAlways with chan := t.chan }
  .next { t with pw := { t.pw with off := true, logicIn := false, logicAlt := false } }

/-- LOGIC_INPUT_CHANGE (R26): LOGIC_IN and LOGIC_ALT as they are now present. Where the module reports them no rule says: the
state holds them, and no register, object or event shows them (DESIGN CHOICE, log entry 80). -/
def execLogicInputChange (main alt : Bool) (s : State) : Out :=
  .next { s with pw := { s.pw with logicIn := main, logicAlt := alt } }

/-! ## Entry into Standby and Sleep -/

/-- What the always-on domain holds of the configuration and the measurement (R438 step 4). -/
def State.heldNow (s : State) : Held :=
  ⟨s.rd .BR_CONFSUM, s.rd .BR_CONFGEN, s.rd .BR_EPOCH, (List.range 12).map (s.rd .HW_MEASLOG ·)⟩

/-- The CAN controllers with their message RAM, Confluence and Delta lose their supply (R234, R436). -/
def State.domainsOff (s : State) : State :=
  let gone := (rows_can ++ rows_confluence ++ rows_delta ++ rows_deltaFn ++ rows_deltaQ).flatMap (·.fields)
  { s with regs := s.regs.filter fun e => !gone.contains e.1.1
           can := [], conf := {}, port := [], dq := [], delta := {} }.each (List.range 16) fun s k =>
    (s.wipe (canBase k + 0x1000) 0x820).wipe (canRam k) 0x8000

/-- In a pair the claim latch clears, and Braid stops: it stands in INIT with no fencing channel until the wake (R436, R438). -/
def State.braidOff (s : State) : State :=
  if s.pairMode then { (s.dropLatch.wr .BR_STAT_STATE 0).wr .BR_FENCE_FENCECH 0 with braid := s.braid.stored } else s

/-- The saved-log area: the last 512 blocks of the 32 GiB eMMC (R370, R427). How the log stands in it no rule lays down: byte 0 of the
first block is 1 where the copy is whole, with the number of records behind it, and the records follow from the second block on,
the newest first (DESIGN CHOICE, log entry 97). -/
abbrev savedLogAt : Nat := emmcAt (2 ^ 26 - 512)

/-- The event log copied there. The mark is written last; the copy ends within the entry, which is one step. -/
def State.saveLog (s : State) : State :=
  let m := Memory.wrBytes s.emmc savedLogAt [0]
  let m := s.elog.zipIdx.foldl (fun m x => Memory.wrBytes m (savedLogAt + 512 + 32 * x.2) (x.1.bytes.map (· % 256))) m
  { s with emmc := Memory.wrBytes m savedLogAt (1 :: leBytes 4 s.elog.length) }

/-- The log as a wake from Sleep copies it back: an area that is marked incomplete gives an empty one (R427). -/
def State.savedLog (s : State) : List LogRec :=
  let n := leVal (Memory.rdBytes s.emmc (savedLogAt + 1) 4)
  if Memory.rdBytes s.emmc savedLogAt 1 = [1] then
    (List.range (min n 4096)).map fun i => LogRec.ofBytes (Memory.rdBytes s.emmc (savedLogAt + 512 + 32 * i) 32)
  else []

/-- Steps 4 and 5 of R438. -/
def State.enter (s : State) (t : Nat) : State :=
  let s := s.writeControl.formConfsum
  let s := { s with pw := { s.pw with held := some s.heldNow, target := 0, woken := false } }
  let s := if t = 4 then s.saveLog else s
  let s := s.braidOff
  let s := { s.mrStop with evt := [] }
  let s := s.domainsOff
  let s := if t = 3 then s.each ((List.range 16).filter fun k => s.rd .XCVR_STAT_MODE k != 3) fun s k => s.setXcvr k 2
    else (s.each (List.range 16) fun s k => s.setXcvr k 3).clrF .XCVR_HOLD_RUN
  (s.clrF .SYS_PWR_STAT_PENDING).wr .SYS_PWR_STAT_STATE t

/-- Every served die has entered fail-safe mode. -/
def State.allFailsafe (s : State) : Bool :=
  (List.range 4).all fun g => !(s.di g).up || !s.flag .SL_WD_STAT_SERVED g || s.flag .SL_WD_STAT_FAILSAFE g

/-- A request that waits for HW_USE (R437): it acts once no block is in use, and is refused after 10 ms. -/
def State.useWaited (s : State) (req world deadline : Nat) : State :=
  let w := World.ofCode world
  let s' : State := { s with pw := { s.pw with waitUse := none } }
  match s.powerWhy w req s.standby with
  | 0 => s'.powerAccept w req s.standby
  | 2 => if s.now < deadline then s else (s'.powerRefuse 2).logSecure Initiator.hw
  | y => s'.powerRefuse y

/-- POWER_ENTRY_CONTINUE (R437, R438): once the segments are ASLEEP and the served dies report FAILSAFE, the conditions are
tested again, and the entry goes on or ends. It is also the moment at which a request that waits for HW_USE is tested. -/
def execPowerEntryContinue (s : State) : Out := s.running <|
  .next <| match s.pw.waitUse with
  | some (req, w, t) => s.useWaited req w t
  | none =>
    let t := s.pw.target
    if t = 0 || (t = 4 && s.segsUsed.any fun n => s.rd .WE_SLP_STAT_STATE n != 3) || !s.allFailsafe then s
    else match (s.clrF .SYS_PWR_STAT_PENDING).powerWhy (World.ofCode s.pw.world) t (s.brState != 5) with
    | 0 => s.enter t
    | y => s.entryEnd y

/-! ## Wake -/

/-- The events held while Molgar was off become records, and the count of further ones becomes one more, whose event number no rule
gives: a free value (R427, log entry 97). -/
def State.heldEvents (s : State) (l : List (Nat × Nat × Nat)) (more : Nat) : State :=
  let s := s.each l fun s e => s.logStamped e.1 0x01 e.2.1 Initiator.hw [e.2.2]
  if more = 0 then s else (s.freshened).logStamped s.ticks 0x01 (s.fresh % 256) Initiator.hw (leBytes 4 more)

/-- Headwater acts on the sources latched in Standby or Sleep (R403, R439). -/
def State.latchedAct (s : State) (l : List (Nat × Nat × Nat)) : State := s.each l fun s e => s.tamperAct e.1 e.2.1 e.2.2

/-- A wake (R433, R436, R439): the start sequence from step 2 on, with the locks and the dies as they are and the restore
window open. `elog` is the event log that came through. A verification that fails past step 3 leads to a full reset (R457). -/
def State.wake (s : State) (cause : Nat) (keep : Nat → Bool) (elog : List LogRec) : State :=
  let p := s.pw
  let latched := s.head.latched
  let n : State := { s.restarted wakeKeeps keep with
    eseq := s.eseq, elog := elog, chan := s.chan,
    mr := { aonValid := s.mr.aonValid, aonTurn := s.mr.aonTurn, aonFreq := s.mr.aonFreq, aonTime := s.mr.aonTime } }
  let n := { n with pw := { n.pw with held := p.held, wokenSegs := p.wokenSegs }, head := { n.head with token := s.head.token &&& s.dbg } }
  let n := ((n.setF .SYS_WAKE_RESTORE).setF .XCVR_HOLD_RUN).heldEvents p.events p.eventsLost
  let n := (n.latchedAct latched).startUp cause (latched.any fun e => 2 ≤ e.2.1)
  if n.rd .SYS_RSTCAUSE_CAUSE = 2 then n.coldStart 2 else n

/-- WAKE_FROM_STANDBY (R433, R439): a wake source has come in Standby. -/
def execWakeFromStandby (s : State) : Out :=
  .next <| if s.rd .SYS_PWR_STAT_STATE = 3 && s.pw.woken then s.wake 6 keepsStandby s.elog else s

/-- WAKE_FROM_SLEEP (R427, R433, R439): the same in Sleep; the event log comes from its saved copy. -/
def execWakeFromSleep (s : State) : Out :=
  .next <| if s.rd .SYS_PWR_STAT_STATE = 4 && s.pw.woken then s.wake 7 keepsAlways s.savedLog else s

/-- The outcome of the check: 1 match, 2 configuration differs, 3 measurement differs; the configuration is compared first
(log entry 39). -/
def State.checkResult (s : State) (h : Held) : Nat :=
  if s.rd .BR_CONFSUM ≠ h.confsum then 2
  else if (List.range 12).map (s.rd .HW_MEASLOG ·) ≠ h.measlog then 3
  else 1

/-- SYS_WAKE.CHECK acts (R439): a match closes the restore window, a difference orders a full reset. -/
def State.wakeCheck (s : State) : State :=
  match s.flag .SYS_WAKE_RESTORE, s.pw.held with
  | true, some h =>
    let s := s.formConfsum
    let r := s.checkResult h
    let s := s.wr .SYS_WAKE_RESULT r
    if r = 1 then s.clrF .SYS_WAKE_RESTORE else { s with pw := { s.pw with due := 5 } }
  | _, _ => s

/-- WAKE_CHECK (R439, R445): SYS_WAKE.CHECK from the safety or secure world. -/
def execWakeCheck (who : Initiator) (s : State) : Out := s.asMaster who <|
  let s := s.answer .none
  .next <| if s.worldOf who = .normal then s.setF .SYS_PWR_STAT_REFUSED else s.wakeCheck

/-- WAKE_CHECK_TIMEOUT (R439): no CHECK within 10 s of the reset. -/
def execWakeCheckTimeout (s : State) : Out := s.running <|
  .next <| if s.flag .SYS_WAKE_RESTORE then s.coldStart 5 else s

/-! ## Pins -/

/-- A pin change that the always-on domain records; in Standby and Sleep it is held, up to 16 of them (R427). -/
def State.pinEvent (s : State) (evt level : Nat) : State :=
  if s.unpowered then s
  else if 3 ≤ s.rd .SYS_PWR_STAT_STATE then
    if s.pw.events.length < 16 then { s with pw := { s.pw with events := s.pw.events ++ [(s.ticks, evt, level)] } }
    else { s with pw := { s.pw with eventsLost := s.pw.eventsLost + 1 } }
  else s.log 0x01 evt Initiator.hw [level]

/-- SERVICE_KEY_CHANGE (R45): the level after its filter time. -/
def execServiceKeyChange (level : Bool) (s : State) : Out :=
  .next <| if s.pw.key = level then s else { s with pw := { s.pw with key := level } }.pinEvent 0x03 (b2n level)

/-- BRAID_ID_CHANGE (R41): the strap reads unit A (0) or B (1); it is sampled at the next power-on or full reset. -/
def execBraidIdChange (level : Bool) (s : State) : Out :=
  .next <| if s.pw.strap = b2n level then s else { s with pw := { s.pw with strap := b2n level } }.pinEvent 0x04 (b2n level)

/-- CLAIM_LINE_FAULT (R42): the readback of ACT_CLAIM_OUT does not follow the claim latch. -/
def execClaimLineFault (s : State) : Out := s.running <| .next (s.setF .BR_STAT_CLAIMFAULT)

end Sys2Proof.Machine
end

