-- ==== Sys2Proof/Machine/WriteOps.lean ====
section
/-!
DEFINITION. What an accepted register write does, field by field, and what the command registers start. Register writes
(R477) and object writes (R408, R411) share it. LOCK_SET stands here too, because both reach it.
-/
namespace Sys2Proof.Machine

/-! ## Locks -/

/-- The worlds that may set lock `n` (R443). -/
def lockSetter (n : Nat) : World → Bool
  | .normal => false
  | .safety => n = 3 || n = 4
  | .secure => n < 4

/-- Lock `n` set; the reachable dies latch the Floodgate arming lock (R444). -/
def State.setLock (s : State) (n : Nat) : State :=
  let s := s.putBit .LK_STAT_LOCKS n true
  if n = 4 then s.each ((List.range 4).filter s.dieReach) fun s g => s.setDi g { s.di g with lockLatched := true } else s

/-- LOCK_SET (R443): a write of LK_SET; each bit acts on its own. -/
def execLockSet (who : Initiator) (mask : Nat) (s : State) : Out := s.asMaster who <|
  let w := s.worldOf who
  .next <| (s.answer .none).each ((List.range 5).filter (bit mask ·)) fun s n =>
    if lockSetter n w then s.setLock n else s.setF .LK_STAT_REFUSED

/-! ## Fields -/

/-- Fields that are no configuration: indices, staging words, drain generations, clock registers, requests. -/
def Fld.transient : Fld → Bool
  | .MR_EVT_STAGE | .WE_STAGE | .WE_ENT_RDIDX_INDEX | .WE_ENT_RDIDX_TBL | .WE_DRAIN_GEN | .CF_STAGE | .CF_DRAIN_GEN | .HQ_TAIL
  | .CF_PTP_SEC_LO | .CF_PTP_SEC_HI | .CF_PTP_NS | .CF_PTP_ADJ | .CF_PTP_CTL_SYNC | .CAN_TXDONE_RD | .CAN_RING_RD
  | .GE_ALM_RD_S | .GE_ALM_RD_N | .IO_EDGE_RD_S | .IO_EDGE_RD_N | .LK_REG | .DQ_TAIL | .DQ_CRD | .DQ_CTL_EN
  | .WE_SLP_CTL_REQ => true
  | _ => false

/-- An accepted write of a configuration field advances BR_CONFGEN (R317); not that of a locked field in the restore window
(R439). Fields whose own meaning counts it are left out. -/
def State.confCount (s : State) (f : Fld) : State :=
  match f with
  | .MR_CTL_EN | .CAN_CTL_EN => s
  | _ => if f.transient || f.info.acc ≠ .rw || f.info.lock.any s.locked then s else s.confWrite

/-- A field takes a value: at once, or through the shadow of class T while boundaries occur; a later write replaces one that
waits (R5). -/
def State.putPlain (s : State) (f : Fld) (i v : Nat) : State :=
  if f.info.chg = .turn then
    let s := { s with shadow := s.shadow.filter (·.1 ≠ (f, i)) }
    if s.phaseRuns then { s with shadow := s.shadow ++ [((f, i), v)] } else s.takeT f i v
  else s.wr f v i

/-- TP_CFG: each EN and each CLASS is a field; class 0 is refused (R405, R477). -/
def State.putTamper (s : State) (v : Nat) : State :=
  s.each (List.range 8) fun s n =>
    let old := s.rd .TP_CFG
    let c := bits v (4 * n + 1) 2
    let new := bits v (4 * n) 1 + 2 * (if c = 0 then bits old (4 * n + 1) 2 else c)
    let s := s.wr .TP_CFG (old - bits old (4 * n) 4 * 2 ^ (4 * n) + new * 2 ^ (4 * n))
    if c = 0 then s.setF .HW_STAT_REFUSED else s

/-- An accepted value of a read-write field `f` and what it brings with it. SL_ILIM and SL_ILIM_IN keep their values where a change of
PAIR puts them outside the new range of R135 (DESIGN CHOICE, log entry 103). -/
def State.putRw (s : State) (who : Initiator) (r : RegAt) (f : Fld) (v : Nat) : State :=
  let i := r.i
  let t := s.putPlain f i v
  match f with
  | .MR_CTL_SRC => if s.rd .MR_STAT_STATE = 1 then t.acquire else t
  | .MR_CTL_EN => s.via (if v = 1 then execMillraceEnable else execMillraceDisable)
  | .SL_DIE_CFG_PAIR => t.wr .SL_STAT_STATE (if v = 1 then 7 else 0) (chanOf r.bi 1)
  | .SL_DUTY =>
    let c := s.ch r.bi
    if c.cmdOn && c.onAct = 1 && s.rd .SL_CFG_MODE r.bi = 2 then t.setCh r.bi { c with nextDuty := some v } else t
  | .SP_WIN | .SP_BUDGET => t.spillView r.bi
  | .IO_CFG_MODE =>
    ((if v = 1 then t.setIo r.bi { t.fio r.bi with pend := false } else t.ioSettle r.bi).ioRefresh r.bi).ioCompare r.bi
  | .SL_CFG_OLON => if v = 0 then t.setCh r.bi { t.ch r.bi with olCount := 0 } else t
  | .IO_THR | .IO_HYS | .IO_DEB | .IO_CFG_INV | .IO_CFG_PROF => t.ioRerun r.bi
  | .IO_CFG_JOINED => (t.ioRefresh r.bi).ioCompare r.bi
  | .CAN_CTL_EN => s.via (if v = 1 then execCanEnable who r.bi else execCanDisable who r.bi)
  | .CAN_TXDONE_RD => (t.drainDone r.bi).canView r.bi
  | .WE_DRAIN_GEN => t.weView
  | .WE_SEGMAP => t.xcvrFollow
  | .WE_SLP_CTL_REQ => if v = 1 then s.via (execSleepRequest who i) else t
  | .CF_DRAIN_GEN => t.confView
  | .CFP_POL_CIR => (s.polFill (i / r.row.n2)).putPlain f i v
  | .CFP_POL_CBS => (s.polSize (i / r.row.n2) v).putPlain f i v
  | .CF_PTP_ADJ => ((s.setPtp s.ptpNow).wr .CF_PTP_ADJ v).ptpKeep
  | .CF_PTP_CTL_SYNC => t.ptpKeep
  | .HQ_TAIL => s.via (execHostQueueDoorbell who i v)
  | .BR_CTL_MODE => s.setMode v
  | .TP_CFG => s.putTamper v
  | .LK_REG => s.via (execLockRelease who i)
  | .DM_QCFG_SHARE => s.putShare i v
  | .DQ_CTL_EN => if v = 1 then s.via (execQueueEnable who r.bi) else t.dqView r.bi
  | .DQ_TAIL => s.via (execDeltaDoorbell who r.bi v)
  | .DQ_CRD => t.dqView r.bi
  | _ => t

/-- A field whose value starts something that looks at the other fields of its register: it acts after them (R477). -/
def Fld.starts : Fld → Bool
  | .MR_CTL_SRC | .MR_CTL_EN | .CAN_CTL_EN => true
  | _ => false

/-- Fields in the order in which one write acts on them. -/
def actOrder (l : List Fld) : List Fld := l.filter (!·.starts) ++ l.filter (·.starts)

/-- The sources of the events that a W1C bit stands for: they fall when software clears it (R228, R235; DEDUCED, log entry 71). -/
def Fld.eventSources (f : Fld) (i : Nat) : List Nat :=
  match f with
  | .CAN_STAT_RXEVT => [48 + i, 64 + i, 1048 + i]
  | .GE_STAT_DONE => [19, 20]
  | .FG_STAT_FIRED => [40]
  | .FY_STAT_ERR => [41, 42, 1041]
  | .MEM_UE_INFO_EVT => [43, 44, pairMemSource 0, pairMemSource 1]
  | _ => []

/-- An accepted write of a field: a value, or bits cleared or left to the command register (R3). The interrupt of an event falls with
the bit that stands for it. -/
def State.putField (s : State) (who : Initiator) (r : RegAt) (f : Fld) (v : Nat) : State :=
  match f.info.acc with
  | .rw => (s.putRw who r f v).confCount f
  | .w1c => let old := s.rd f r.i
    let t := s.wr f (old - (old &&& v)) r.i
    if v % 2 = 1 then t.each (f.eventSources r.i) State.lower else t
  | _ => s

/-! ## Command registers -/

/-- The commands of CAN_TXQ_CMD (R225). -/
def State.canCmd (s : State) (who : Initiator) (k v : Nat) : State :=
  s.queueCmd who k (bits v 0 3) (bits v 3 3) (bits v 6 4) (bits v 10 3)

/-- The commands of UPD_CMD (R463). -/
def State.updateCmd (s : State) (who : Initiator) (v : Nat) : State :=
  let u := bits v 4 2
  match bits v 0 3 with
  | 1 => s.via (execUpdateCopy who u)
  | 2 => s.via (execUpdateActivate who u)
  | 3 => s.via (execUpdateActivateReset who u)
  | 4 => s.via (execUpdateConfirm who u)
  | 5 => s.via (execUpdateAbort who u)
  | _ => s.updCmd who u fun s => s.updResult 13 true

/-- What a word written to a register starts, beside its fields: the actions of its write-only fields. `h` is the
register's first field. -/
def State.rowCmd (s : State) (who : Initiator) (r : RegAt) (h : Fld) (v : Nat) : State :=
  let i := r.i
  let k := r.bi
  let on (n : Nat) (g : State → Out) (s : State) : State := if bit v n then s.via g else s
  match h with
  | .MR_ASSOC_CTL_EN => on 1 execAssociationAccept s
  | .MR_EVT_CMD_INDEX =>
    match bits v 10 2 with
    | 0 => s.via (execEventCommit who (bits v 0 10))
    | 1 => s.via (execEventCancel who (bits v 0 10))
    | _ => s.refuse r
  | .GA_MAP_CMD_COMMIT => on 0 execMapCommit s
  | .GE_GEOM_CMD_COMMIT => on 0 execGeometryCommit s
  | .GE_REINIT_CELL => if bit v 31 then s.via execReinitAll else s.via (execReinitCell (bits v 0 13))
  | .SL_CMD_ACTION => s.chanCmd who k (bits v 0 4) (bits v 4 12) 0
  | .SL_PROT_CMD_CLEAR => on 2 (execThermalLatchClear who k) (on 1 (execSpillwayUnlock who k) (on 0 (execProtectionClear who k) s))
  | .SL_WD_SERVE => s.via (execWatchdogServe who k (cut 24 v))
  | .SL_WD_CMD_RESUME => on 0 (execFailsafeResume who k) s
  | .SL_FS_CMD_COMMIT => on 0 (execFailsafeCommit who k) s
  | .IO_CMD_ACTION => s.ioCmd who k (bits v 0 4) 0
  | .CAN_CTL_EN => on 7 (execCanRecover who k) s
  | .CAN_TXQ_PUSH_LEVEL => s.via (execCanTxPush who k (bits v 0 3))
  | .CAN_TXQ_CMD_OP => s.canCmd who k v
  | .WE_ENT_CMD_INDEX =>
    match bits v 12 2 with
    | 0 => s.via (execRouteEntryCommit who (bits v 14 1) (bits v 0 12))
    | 1 => s.via (execRouteEntryClear who (bits v 14 1) (bits v 0 12))
    | _ => s.refuse r
  | .WE_ENT_RDIDX_INDEX => s.loadEntry
  | .WE_SLP_CTL_REQ => if bit v 1 then s.weSafety who (·.via (execSegmentWakeRequest i)) else s
  | .CF_TBL_CMD_INDEX =>
    match bits v 13 2 with
    | 0 => s.via (execCfTableCommit who (bits v 16 2) (bits v 0 13))
    | 1 => s.via (execCfTableRemove who (bits v 16 2) (bits v 0 13))
    | _ => s.refuse r
  | .CF_PTP_CTL_SYNC => on 1 (execPtpClockSet who) s
  | .CF_PTP_STEP => if v = 0 then s else s.via (execPtpClockStep who v)
  | .BR_CMD_SYNC => on 3 (execAdopt who) (on 2 (execClaimRelease who) (on 1 (execPlannedSwap who) (on 0 (execResyncStart who) s)))
  | .BR_KEEP => s.via (execKeepalive who)
  | .BR_STATE_CTL_READY => on 0 (execStateRegionReady who i) s
  | .SYS_PWR_CMD_REQ => s.powerAsk who (bits v 0 3) (s.fromPartner who)
  | .SYS_RST_FULL => on 0 (execFullReset who) s
  | .SYS_WAKE_CHECK => on 0 (execWakeCheck who) s
  | .LS_CMD_RESTART =>
    let s := on 0 (execPairRestart who i) s
    if bit v 1 then s.freshened.via (execPairSelftest who i (s.fresh % 2 = 1)) else s
  | .HW_CMD_RESTART => on 0 (execHeadwaterRestart who) s
  | .LK_SET => s.via (execLockSet who v)
  | .FG_SWTRIG => if v = 0 then s else s.via (execFloodgateSoftwareTrigger who v)
  | .ED_TX_LO => if i / 8 = i % 8 then s else s.wr .ED_TX_LO v i
  | .ED_TX_HI => s.via (execEddyPush who (i / 8) (i % 8) v)
  | .ED_TX_DOORBELL => on 0 (execEddyDoorbell who (i / 8) (i % 8)) s
  | .ED_RX_POP => on 0 (execEddyPop who (i / 8) (i % 8)) s
  | .DM_FRESET_FUNC => s.via (execFunctionReset (bits v 0 5))
  | .UPD_CMD_OP => s.updateCmd who v
  | _ => s

/-- The first field of a register. -/
def RegAt.head (r : RegAt) : Option Fld := r.row.fields.head?

/-- A write that changes CFP_VLAN, CFP_QMAP or CFP_CTL.LEARN advances CF_GEN (R273). -/
def State.genCount (s old : State) (r : RegAt) : State :=
  let l := r.row.fields.filter fun f => f = .CFP_CTL_LEARN || f = .CFP_VLAN_PVID || f = .CFP_VLAN_DPCP || f = .CFP_VLAN_ACCEPT
    || f = .CFP_VLAN_IFILT || f = .CFP_QMAP
  if l.any fun f => s.rd f r.i != old.rd f r.i then (s.wr .CF_GEN (s.rd .CF_GEN + 1)).confView else s

/-- Reserved bits that lie inside a field of the register table read 0 and ignore writes (R2): the bits that a word of instance
`i` holds. -/
def Fld.mask (f : Fld) (i : Nat) : Option Nat :=
  match f with
  | .FG_SRC => some 0x3FFF
  | .FG_ACT => some 0x80000FFF
  | .WE_SEGMAP | .TP_CFG => some 0x77777777
  | .GA_STRMAP_SH => some 0x8FFFFFFF
  | .GA_SRCMAP_SH => some 0x8000001F
  | .GA_CELLMAP_SH => some 0x80FFFF
  | .XCVR_VOTERS => if i % 4 = 0 then some 0xFFFFFFFE else none
  | _ => none

/-- The part of a word written to instance `i` that a field holds, reserved bits left out. -/
def Fld.part (f : Fld) (i v : Nat) : Nat :=
  let x := bits v f.info.lo f.info.width
  match f.mask i with
  | none => x
  | some m => x &&& m

end Sys2Proof.Machine
end

