-- ==== Sys2Proof/Machine/Bus.lean ====
section
/-!
DEFINITION. The interconnect (R335, R383): writes and reads of a physical address by a master, and what debug reaches
through the test access port (R46, R333, R388, R442).
-/
namespace Sys2Proof.Machine

/-! ## Areas -/

/-- The address lies in an area of R335 that holds registers. -/
def inBlocks (a : Nat) : Bool :=
  (0x40000000 ≤ a && a < 0x40050000) || (0x40080000 ≤ a && a < 0x400C0000) || (0x40100000 ≤ a && a < 0x40220000)
    || (0x40300000 ≤ a && a < 0x40410000)
    || (0x40500000 ≤ a && a < 0x40508000) || (0x40510000 ≤ a && a < 0x40511000) || (0x40600000 ≤ a && a < 0x40610000)
    || (0x40710000 ≤ a && a < 0x40910000) || (0x40A00000 ≤ a && a < 0x40A10000) || (0x40B00000 ≤ a && a < 0x41000000)

/-- Memory inside a register block: the message RAM of a CAN channel, its staging window, the rings and records of a die
window on the Molgar side (R147, R148, R197, R220, R222, R303). -/
def blockRam (a : Nat) : Bool :=
  let w := a % 0x10000
  (0x40100000 ≤ a && a < 0x40200000 && (0x8000 ≤ w || (0x1000 ≤ w && w < 0x1820)))
    || (0x40080000 ≤ a && a < 0x400C0000 && 0x8000 ≤ w && (w < 0xBC00 || 0xC000 ≤ w))

/-- The word of the event table at an address of its window, where it is one (R79). -/
def State.evtWord (s : State) (a : Nat) : Option Nat :=
  if 0x40024000 ≤ a && a < 0x40028000 then
    let e := s.entry ((a - 0x40024000) / 16)
    some (match a / 4 % 4 with | 0 => e.w0 | 1 => e.w1 | 2 => e.w2 | _ => e.w3)
  else none

/-- The channel whose staging window or message RAM holds an address (R222, R235): the only memory of a block that software
writes. -/
def canMemOf (a : Nat) : Option Nat :=
  let w := a % 0x10000
  if 0x40100000 ≤ a && a < 0x40200000 && ((0x1000 ≤ w && w < 0x1820) || 0x8000 ≤ w) then some ((a - 0x40100000) / 0x10000) else none

/-- A store to that memory (R235): the owner's acts, but a transmit element is written through the staging window alone (R221;
DEDUCED, log entry 89); another world's sets REFUSED. -/
def State.canStore (s : State) (k : Nat) (w : World) (a v : Nat) : State :=
  if !owns w (s.canWorld k) then s.setF .CAN_STAT_REFUSED k
  else if canRam k ≤ a && a < canRam k + s.ringBase k 0 then s
  else s.setWord a v

/-- The Delta function whose page holds an address (R358), and the queue whose block there does (R377). -/
def fnPageAt (a : Nat) : Option Nat :=
  if 0x40608000 ≤ a && a < 0x40610000 then some 0
  else if 0x40710000 ≤ a && a < 0x40900000 then some ((a - 0x40700000) / 0x10000)
  else none
def queueAt (a : Nat) : Option Nat :=
  let w := if a < 0x40610000 then a - 0x40608000 else a % 0x10000
  if 0x1000 ≤ w && w < 0x2000 then some ((w - 0x1000) / 0x40) else none

/-- A master may not touch the page at all (R347, R358, R377, R383, R463): an Eddy page of another endpoint, the page of a Delta
function of another world or the block of a queue in it that the function does not own, the SD host. -/
def State.pageShut (s : State) (who : Initiator) (a : Nat) : Bool :=
  (0x40500000 ≤ a && a < 0x40508000 && who.master != eddyMaster ((a - 0x40500000) / 0x1000))
    || (match fnPageAt a with
      | some n => !owns (s.worldOf who) (World.ofCode (s.rd .DM_FCFG_WORLD n))
          || (queueAt a).any fun q => s.rd .DM_QCFG_FUNC q != n
      | none => false)
    || (0x40A00100 ≤ a && a < 0x40A10000 && s.worldOf who != .secure)

/-- The world of the resource behind a register address, where it has one (R379, R380). -/
def State.resourceWorld (s : State) (a : Nat) : Option World :=
  match canMemOf a with
  | some k => some (s.canWorld k)
  | none => (regAt a).bind fun r =>
    match r.b with
    | .die | .ioDie | .floodgate | .weir | .xcvr | .braid => some .safety
    | .chan => some (s.chanWorld r.bi)
    | .io => some (s.ioWorld r.bi)
    | .can => some (s.canWorld r.bi)
    | .deltaFn => some (World.ofCode (s.rd .DM_FCFG_WORLD r.bi))
    | .deltaQ => some (World.ofCode (s.rd .DM_FCFG_WORLD (s.rd .DM_QCFG_FUNC r.bi)))
    | .sysctl => if 0x400 ≤ r.row.off then some .secure else none
    | .confluence => (r.row.fields.head?).bind fun f =>
        match f.info.who with
        | .port => some (s.portWorld (r.i / r.row.n2))
        | .hq => some (World.ofCode (s.rd .HQ_CFG_WORLD r.i))
        | .ptp => some (World.ofCode (s.rd .CF_PTP_CTL_WORLD))
        | _ => none
    | _ => none

/-! ## Writes -/

/-- A word written to a register (R477): each field on its own, then what the word starts. Each locked field that the write would
change makes a record of its own with the address and value of the write; a world assignment register makes one for the
whole write (DESIGN CHOICE, log entry 77). -/
def State.writeReg (s : State) (who : Initiator) (a : Nat) (r : RegAt) (v : Nat) : State :=
  if r.row.fields.head? = some .WA_SL then s.via (execWorldAssign who r.i v)
  else if r.row.fields.head? = some .WA_IO then s.via (execWorldAssign who (2 + r.i) v)
  else if r.row.fields.head? = some .WA_CAN then s.via (execWorldAssign who 5 v)
  else if r.row.fields.head? = some .WA_PORT then s.via (execWorldAssign who 6 v)
  else if r.row.fields.head? = some .WA_MRIRQ then s.via (execWorldAssign who 7 v)
  else
    let old := s
    let ask (s : State) (f : Fld) : Verdict := s.verdict who r f (f.part r.i v) fun g =>
      if r.row.fields.contains g && old.verdict who r g (g.part r.i v) (fun h => s.rd h r.i) = .ok then g.part r.i v else s.rd g r.i
    let s := s.each (actOrder r.row.fields) fun s f =>
      match ask old f with
      | .ok => s.putField who r f (f.part r.i v)
      | .noWrite => s
      | .locked => (s.refuse r).logLocked who a v
      | _ => s.refuse r
    let s := s.genCount old r
    match r.head with
    | some h => s.rowCmd who r h v
    | none => s

/-- Debug may act at all: from READY in START, Run or Trim (R442). -/
def State.debugOpen (s : State) : Bool := s.flag .HW_STAT_READY && s.rd .SYS_PWR_STAT_STATE ≤ 2

/-- The invasive and the non-invasive enable of a world (R388). -/
def State.invasive (s : State) : World → Bool
  | .normal => s.flag .HW_DBG_NID
  | .safety => s.flag .HW_DBG_SID
  | .secure => s.flag .HW_DBG_XID

def State.tracing (s : State) : World → Bool
  | .normal => s.flag .HW_DBG_NNID
  | .safety => s.flag .HW_DBG_SNID
  | .secure => s.flag .HW_DBG_XNID

/-- An access that the debug module may not make: its own world's enable is clear, or that of the resource (R388). It behaves as
a disabled instruction does (R46): nothing happens. -/
def State.debugShut (s : State) (who : Initiator) (a : Nat) : Bool :=
  who.master = 0x15 && !(s.debugOpen && s.invasive (s.worldOf who) && (s.resourceWorld a).all s.invasive)

/-- A register write is one posted write: what the commands that it starts have posted for its master again counts once. `s` holds the
write, `t` is the state after it. -/
def State.oneWrite (s t : State) : State :=
  let new := (t.ferry.writes.drop (s.ferry.writes.length - 1)).filter fun p => s.ferry.writes.getLast?.any (·.who ≠ p.who)
  { t with ferry := { t.ferry with writes := s.ferry.writes ++ new } }

/-- REGISTER_WRITE (R99, R109, R335, R342, R383, R477): a 32-bit store of a master to an address: memory, memory inside a
block, or a register. A store to the parameter bank in force is dropped, and one of zero clears a word of the board
table. A store to a die that takes none is lost or faults. -/
def execRegisterWrite (who : Initiator) (addr value : Nat) (s : State) : Out := s.asMaster who <|
  let s := s.answer .none
  let w := s.worldOf who
  let v := cut 32 value
  .next <| if s.debugShut who addr then s
  else if addr % 4 ≠ 0 then s.refuseAccess who addr 4
  else if s.memOk who.master w addr 4 .write then s.store addr (leBytes 4 v)
  else if s.bankInForce addr 4 then s.setF .GE_STAT_REFUSED
  else if within (gaugeSram + 0x80000) 0x4000 addr 4 && v = 0 then s.setWord addr 0
  else if !inBlocks addr || s.pageShut who addr then s.refuseAccess who addr 4
  else match dieSide addr with
  | some g =>
    match regAt addr with
    | some r => s.toDie g (addr % 0x10000) who fun t => t.oneWrite (s.writeReg who addr r v)
    | none => if s.dieReach g then s.sent g (addr % 0x10000) who true else s.dieLost g (addr % 0x10000) who
  | none =>
    match regAt addr with
    | some r => s.writeReg who addr r v
    | none =>
      match canMemOf addr with
      | some k => s.canStore k w addr v
      | none => s

/-! ## Reads -/

/-- The fields of a register that a read clears, with the counts that arrived in the same cycle kept (R4). -/
def State.readCleared (s : State) (r : RegAt) (arrived : List Nat) : State :=
  s.each ((r.row.fields.filter fun f => f.info.acc == .rc).zipIdx) fun s f => (s.wr f.1 0 r.i).inc f.1 r.i (arrived.getD f.2 0)

/-- READ_CLEAR (R3, R4, R335): a 32-bit load of a master. `arrived` are counts that come in the cycle of the read, one for
each RC field of the register. A load of MR_NOW_LO or CF_PTP_SEC_LO latches its companions, and one of a lock register
acquires it. -/
def execReadClear (who : Initiator) (addr : Nat) (arrived : List Nat) (s : State) : Out := s.asMaster who <|
  let s := s.answer .none
  let w := s.worldOf who
  .next <| if s.debugShut who addr then s
  else if addr % 4 ≠ 0 then s.refuseAccess who addr 4
  else if s.memOk who.master w addr 4 .read || blockRam addr then s.answer (.value (s.load addr))
  else if !inBlocks addr || s.pageShut who addr then s.refuseAccess who addr 4
  else if (dieSide addr).any fun g => !s.dieReach g then s.answer .accessFault
  else match regAt addr with
  | none => s.answer (.value ((s.evtWord addr).getD 0))
  | some r =>
    match r.head with
    | some .MR_NOW_LO => s.via execPhaseTimeRead
    | some .CF_PTP_SEC_LO => s.via execPtpClockRead
    | some .LK_REG => s.via (execLockAcquire who r.i)
    | _ =>
      let s := ((s.when (r.head = some .BR_CONFSUM) State.formConfsum).when (r.head = some .MEM_CE) State.corrected).live
      let v := s.regValue r
      (s.readCleared r arrived).answer (.value v)

/-! ## Debug -/

/-- A core of safety pair `p` is halted, stepped or accessed (R333). -/
def State.breakPair (s : State) (p : Nat) : State :=
  if s.flag .LS_STAT_DBGBRK p then s
  else (((((s.setF .LS_STAT_DBGBRK p).setF .LS_STAT_ERR p).wr .LS_STAT_CAUSE 0 p).raise 45).raise (pairErrSource p)).pairError

/-- DEBUG_HALT (R333, R442): a debugger halts, steps or accesses a core of pair `p`, where SID permits it. -/
def execDebugHalt (p : Nat) (s : State) : Out :=
  .next <| if s.debugOpen && s.flag .HW_DBG_SID then s.breakPair (p % 2) else s

/-- The debug module as a master (R326). -/
abbrev debugMaster (w : World) : Initiator := ⟨0x15, w⟩

/-- An application core and a place in its register file. -/
abbrev State.hartAt (s : State) (h : Nat) : Hart := NMap.at {} s.hart (h % 4)
abbrev State.setHart (s : State) (h : Nat) (c : Hart) : State := { s with hart := NMap.put {} s.hart (h % 4) c }

/-- A register of a core by number: integer 0 to 31, pc 32, floating point 64 to 95. -/
def Hart.read (c : Hart) (i : Nat) : Nat :=
  if i < 32 then (if i = 0 then 0 else c.x.getD i 0) else if i = 32 then c.pc else if 64 ≤ i then c.f.getD (i - 64) 0 else 0

def Hart.write (c : Hart) (i v : Nat) : Hart :=
  if i = 0 then c
  else if i < 32 then { c with x := c.x.set i (cut 64 v) }
  else if i = 32 then { c with pc := cut 64 v }
  else if 64 ≤ i then { c with f := c.f.set (i - 64) (cut 64 v) }
  else c

/-- One instruction of a stepped core: what it does to the core is a free value (the manual names the RISC-V architecture
and no more); it leaves a pc. -/
def State.stepHart (s : State) (h : Nat) : State :=
  let c := s.hartAt h
  (s.freshened).setHart h { c with pc := cut 64 s.fresh }

/-- TAP_DEBUG_ACCESS (R46, R388, R442): a request on the test access port. BYPASS and IDCODE are always answered (IDCODE with
a free value: no code is stated); every other acts as far as the enables of R388 allow and is BYPASS otherwise. Another
instruction of IEEE 1149.1 (boundary scan) reaches the pins of every world: no rule names its enable, and it acts where all
six are set (DESIGN CHOICE, log entry 81); what the chain captures is a free value. -/
def execTapDebugAccess (op : TapOp) (s : State) : Out :=
  let s := s.answer .none
  let core := s.debugOpen && s.flag .HW_DBG_NID && s.rd .SYS_PWR_STAT_STATE ≠ 2
  let halted (h : Nat) : Bool := core && (s.hartAt h).halted
  .next <| if s.unpowered then s else match op with
  | .bypass => s
  | .other => s.when (s.debugOpen && [World.normal, .safety, .secure].all fun w => s.invasive w && s.tracing w) fun s =>
      (s.freshened).answer (.value s.fresh)
  | .idcode => (s.freshened).answer (.value (cut 32 s.fresh))
  | .haltCore h => s.when core (·.setHart h { s.hartAt h with halted := true })
  | .resumeCore h => s.when core (·.setHart h { s.hartAt h with halted := false })
  | .stepCore h => s.when (halted h) (·.stepHart h)
  | .readCore h i => s.when (halted h) (·.answer (.value ((s.hartAt h).read i)))
  | .writeCore h i v => s.when (halted h) (·.setHart h ((s.hartAt h).write i v))
  | .haltSafety p => s.via (execDebugHalt p)
  | .haltHead => s.when (s.debugOpen && s.flag .HW_DBG_XID) fun s => { s with head := { s.head with halted := true } }
  | .resumeHead => s.when (s.debugOpen && s.flag .HW_DBG_XID) fun s => { s with head := { s.head with halted := false } }
  | .busRead w a => s.when (s.debugOpen && s.invasive w) (·.via (execReadClear (debugMaster w) a []))
  | .busWrite w a v => s.when (s.debugOpen && s.invasive w) (·.via (execRegisterWrite (debugMaster w) a v))
  | .trace w => s.when (s.debugOpen && s.tracing w) fun s => (s.freshened).answer (.value s.fresh)

end Sys2Proof.Machine
end

