-- ==== Sys2Proof/Machine/ObjCmd.lean ====
section
/-!
DEFINITION. What an object write does (R408 tests 6 to 9, R411, R419): the registers, tables and commands behind each
object, written whole or not at all.
-/
namespace Sys2Proof.Machine

/-! ## Who writes -/

/-- Fields of the Delta managing block that concern a queue or a function, which has a world (R376, R378). -/
def Fld.managed : Fld → Bool
  | .DM_QCFG_FUNC | .DM_QCFG_CLASS | .DM_QCFG_SHARE | .DM_QCFG_RSTMODE | .DM_FCFG_MAXINFL | .DM_FCFG_EN | .DM_EMMC_BASE
  | .DM_EMMC_COUNT => true
  | _ => false

/-- The worlds with which a request may write a field, the first that has the right counts (R419): class I that of its
endpoint; class B the one that owns the target; classes P, E and S the normal world where the target has an owner, and
otherwise the one the rights of the class stand for (DEDUCED, log entry 40). -/
def OdReq.worlds (r : OdReq) (f : Fld) : List World :=
  if r.cls = 4 then [World.ofCode r.world]
  else if r.cls = 3 then [.normal, .safety, .secure]
  else match f.info.who with
    | .owner | .ring | .port | .hq | .fnOwner => [.normal]
    | _ => if f.managed then [.normal] else [.normal, .safety, .secure]

/-- The object engine acting in a world (R326, R411). -/
abbrev engineAs (w : World) : Initiator := ⟨0x12, w⟩

/-- The world of the function that a field of the Delta managing block concerns. -/
def State.managedWorld (s : State) (ra : RegAt) (f : Fld) : World :=
  World.ofCode (s.rd .DM_FCFG_WORLD (match f with
    | .DM_QCFG_FUNC | .DM_QCFG_CLASS | .DM_QCFG_SHARE | .DM_QCFG_RSTMODE => s.rd .DM_QCFG_FUNC ra.i
    | _ => ra.i))

/-- The initiator with which a request writes a field, if it may (test 6). A class I request on a Delta queue or function of
another world has no rights (R378). A queue goes to the function with number `v` from a world that may give it there (R360). -/
def State.objActor (s : State) (r : OdReq) (ra : RegAt) (f : Fld) (v : Nat) : Option Initiator :=
  if r.cls = 4 && f.managed && s.managedWorld ra f ≠ World.ofCode r.world then none
  else ((r.worlds f).map engineAs).find? fun w => s.mayWrite w ra f && (f ≠ .DM_QCFG_FUNC || s.fnWrite w v)

/-- The world in which a request acts where no register field decides it. -/
abbrev OdReq.own (r : OdReq) : World := if r.cls = 4 then World.ofCode r.world else .normal

/-- A class I request comes from a world of the list; other classes are not asked (R325, R406, R431, R448). -/
def OdReq.from (r : OdReq) (l : List World) : Bool := r.cls ≠ 4 || l.contains (World.ofCode r.world)

/-! ## Register fields -/

/-- One register that an object writes: the fields it covers and the word; `wide` where the object is a value and not one
flag. -/
structure RegWr where
  ra : RegAt
  fs : List Fld
  word : Nat
  wide : Bool

/-- `w` bits from `sh` of the register at `addr`, with value `v`. -/
def regWr (addr sh w v : Nat) : Option RegWr :=
  (regAt addr).map fun ra => ⟨ra, ra.row.fields.filter fun f => sh ≤ f.info.lo && f.info.lo + f.info.width ≤ sh + w,
    cut w v * 2 ^ sh, w ≠ 1⟩

/-- The verdict on one field of an object write. A world without the right fails whatever the value (test 6), but a protection
command counts only where its bit is 1; `fit` is false where the value is too wide for its bits, which changes a field in any case.
The commit of a fail-safe table stands under its lock (R189), and MODE of BR_CTL refused by R289 has the code of a refused value
(R325). The configuration of a port is class Q as a whole (R288). A field that keeps its value passes tests 7 and 8, and test 9 only
where the block accepts it beside the other new values. -/
def State.objVerdict (s : State) (r : OdReq) (ws : List RegWr) (fit : Bool) (x : RegWr) (f : Fld) : Verdict :=
  let v := f.part x.ra.i x.word
  let new (g : Fld) : Nat := match ws.find? fun y => y.fs.contains g && y.ra.i = x.ra.i with
    | some y => g.part y.ra.i y.word
    | none => s.rd g x.ra.i
  let cmd : Bool := x.ra.head = some .SL_PROT_CMD_CLEAR
  if f.info.acc = .ro || f.info.acc = .rc || (cmd && v = 0 && x.word ≠ 0) then .noWrite
  else match s.objActor r x.ra f v with
    | none => .rights
    | some who =>
      if cmd then .ok
      else match s.verdict who x.ra f (if fit || f.info.acc ≠ .rw then v else s.rd f x.ra.i + 1) new with
      | .noWrite => if f.info.acc = .rw && !s.takes x.ra f v new then .value else .noWrite
      | .ok => if f = .SL_FS_CMD_COMMIT && s.frozen who 4 then .locked
        else if 0x2600 ≤ r.index && r.index < 0x260A && r.sub = 2 && s.flag .CFP_CTL_EN (r.index - 0x2600) then .active else .ok
      | .active => if f = .BR_CTL_MODE then .value else .active
      | d => d

/-- The abort code of a verdict, in the order of tests 6 to 9. -/
def Verdict.code : Verdict → Nat
  | .rights => abortRights
  | .locked => abortLocked
  | .active => abortActive
  | .value => abortValue
  | _ => 0

/-- The first of the tests 6 to 9 that fails for any field. -/
def State.objTest (s : State) (r : OdReq) (ws : List RegWr) (fit : Bool) : Nat :=
  let vs := ws.flatMap fun x => x.fs.map (s.objVerdict r ws fit x)
  (([.rights, .locked, .active, .value].find? fun v => vs.contains v).getD .ok).code

/-- The refused flag of the block that holds a register (R477), as `State.refuse` sets it; for a channel's command its own
(R186, R190). -/
def RegAt.refusedFlag (r : RegAt) : Option (Fld × Nat) :=
  match r.b with
  | .millrace => some (.MR_STAT_REFUSED, 0)
  | .gauge => some (.GA_STAT_REFUSED, 0)
  | .gaugeEst => some (.GE_STAT_REFUSED, 0)
  | .die => some (.SL_DIE_STAT_REFUSED, r.bi)
  | .chan => some (if r.head = some .SL_PROT_CMD_CLEAR then .SL_PROT_STAT_REFUSED else .SL_STAT_REFUSED, r.bi)
  | .ioDie => some (.IO_DSTAT_REFUSED, r.bi)
  | .io => some (.IO_STAT_REFUSED, r.bi)
  | .can => some (.CAN_STAT_REFUSED, r.bi)
  | .weir => some (.WE_STAT_REFUSED, 0)
  | .confluence => some (.CF_STAT_REFUSED, 0)
  | .braid => some (.BR_STAT_REFUSED, 0)
  | .sysctl =>
    if r.row.off < 0x100 then some (.SYS_PWR_STAT_REFUSED, 0)
    else if r.row.off < 0x200 then some (.LS_STAT_REFUSED, r.i % 2)
    else if 0x400 ≤ r.row.off then some (.HW_STAT_REFUSED, 0)
    else none
  | .lock => some (.LK_STAT_REFUSED, 0)
  | .floodgate => some (.FG_STAT_REFUSED, 0)
  | .delta => some (.DM_STAT_REFUSED, 0)
  | .upd => some (.UPD_RESULT_REFUSED, 0)
  | _ => none

/-- The block refuses what `g` asks of it: its refused flag is set by it, whether or not it was set before. -/
def State.refusedBy (s : State) (ra : RegAt) (g : State → State) : Bool :=
  match ra.refusedFlag with
  | some (f, i) => (g (s.clrF f i)).flag f i
  | none => false

/-- The result register of a command holds a refusal. -/
def State.resultBad (s : State) (ra : RegAt) : Bool :=
  match ra.head with
  | some .GA_MAP_CMD_COMMIT => s.rd .GA_MAP_RESULT_CODE ≠ 0
  | some .CAN_TXQ_CMD_OP => !s.flag .CAN_TXQ_CMDRES_BUSY ra.bi && s.rd .CAN_TXQ_CMDRES_CODE ra.bi ≠ 0
  | _ => false

/-- What the answer to a command waits for, as `OdWait.kind` codes it; 0 nothing. -/
def State.cmdWait (s : State) (x : RegWr) : Nat :=
  match x.ra.head with
  | some .SL_FS_CMD_COMMIT => b2n (s.flag .SL_FS_CMD_BUSY x.ra.bi)
  | some .CAN_TXQ_CMD_OP => 2 * b2n (s.flag .CAN_TXQ_CMDRES_BUSY x.ra.bi)
  | some .DM_FRESET_FUNC => 3 * b2n (bit (s.rd .DM_RSTBUSY) (x.word % 32))
  | some .SYS_PWR_CMD_REQ => 5 * b2n s.pw.waitUse.isSome
  | _ => 0

/-- Every field of an object written in ascending address order, and the commands the words start (R411). -/
def State.objPut (s : State) (r : OdReq) (ws : List RegWr) : State :=
  let old := s
  s.each ws fun s x =>
    let who (f : Fld) : Initiator := (old.objActor r x.ra f (f.part x.ra.i x.word)).getD (engineAs r.own)
    let t := s.each (actOrder x.fs) fun s f => if old.objVerdict r ws true x f = .ok then s.putField (who f) x.ra f (f.part x.ra.i x.word) else s
    let t := t.genCount s x.ra
    match x.fs with
    | h :: _ => if x.word = 0 && !x.wide then t else
        match x.ra.head with
        | some hd => t.rowCmd (who h) x.ra hd x.word
        | none => t
    | [] => t

/-- What an object write came to: the abort code, what its answer waits for, and the state. -/
abbrev ObjOut := Nat × Nat × State

/-- The world of a table entry written with class B: that of the entry (R419); otherwise that of the request. -/
def OdReq.entryWorld (r : OdReq) (word lo : Nat) : World :=
  if r.cls = 3 then World.ofCode (bits (leVal ((r.value.drop (4 * word)).take 4)) lo 2) else r.own

/-- A refused configuration write to the second half of a heavy pair shows WHY = PAIRED (R135). -/
def State.pairedBy (s : State) (ws : List RegWr) : State :=
  s.each (ws.filter fun x => x.ra.b == .chan && s.isFollow x.ra.bi) fun s x =>
    (s.setF .SL_STAT_REFUSED x.ra.bi).wr .SL_STAT_WHY 2 x.ra.bi

/-- What a write that its block refused leaves, `t` being the state after it: of the three protection commands of one word none acts
where one is refused (R408), and what shows the refusal stands. -/
def State.refusedState (s t : State) (ws : List RegWr) : State :=
  match ws with
  | [x] =>
    if x.ra.head = some .SL_PROT_CMD_CLEAR && t.flag .SL_PROT_STAT_REFUSED x.ra.bi then
      (s.setF .SL_PROT_STAT_REFUSED x.ra.bi).wr .SL_PROT_STAT_PWHY (t.rd .SL_PROT_STAT_PWHY x.ra.bi) x.ra.bi
    else t
  | _ => t

/-- An object write that stands in register fields; `fit` says that the value fits their bits (test 9). The record of a locked
one holds the index in address bytes 0 and 1, the subindex in byte 2, and the low four bytes of the value (DESIGN CHOICE,
log entry 77). -/
def State.objRegs (s : State) (r : OdReq) (ws : List RegWr) (fit : Bool) : ObjOut :=
  match s.objTest r ws fit with
  | 0 =>
    if !fit then (abortValue, 0, s) else
    let t := s.objPut r ws
    if ws.any fun x => s.refusedBy x.ra (·.objPut r ws) || ((x.wide || x.word ≠ 0) && t.resultBad x.ra) then
      (if ws.any (fun x => x.ra.head = some .SYS_PWR_CMD_REQ) && t.rd .SYS_PWR_STAT_WHY = 2 then abortSecure else abortValue, 0, s.refusedState t ws)
    else (0, (ws.map t.cmdWait).headD 0, t)
  | c => (c, 0, if c = abortLocked then s.logLocked (engineAs r.own) (r.index + 65536 * r.sub) (leVal r.value)
      else if c = abortValue then s.pairedBy ws else s)

/-- A command of another block, run for an object: its refusal by the flag `f`. -/
def State.objRun (s : State) (f : Fld) (g : State → Out) : ObjOut :=
  let t := s.via g
  (if ((s.clrF f).via g).flag f then abortValue else 0, 0, t)

/-- A command of Headwater that answers with an abort code. -/
def State.objAsk (s : State) (g : State → Out) : ObjOut :=
  let t := s.via g
  match t.resp with
  | .abort c => (c, 0, t.answer .none)
  | _ => (0, 0, t.answer .none)

/-! ## Objects without a register of their own -/

/-- The board table: a zero written to an entry clears it (R99); other values leave it. -/
def State.boardClear (s : State) (v : List Nat) : State :=
  s.each ((List.range 2048).filter fun n => ((v.drop (8 * n)).take 8).all (· == 0)) fun s n =>
    s.setBytes (0x18080000 + 8 * n) (List.replicate 8 0)

/-- An entry of the event table (R80): the four words commit at the index of 0x2110.01, with the world of the endpoint. -/
def State.objEvent (s : State) (w : World) (v : List Nat) : ObjOut :=
  let g (n : Nat) : Nat := leVal ((v.drop (4 * n)).take 4)
  let e : EvtEntry := { w0 := g 0, w1 := g 1, w2 := g 2 - bits (g 2) 28 2 * 2 ^ 28 + w.code * 2 ^ 28, w3 := g 3 }
  let i := s.od.idxEvt
  (if (s.evtFirst i).evtCode w i e false ≠ 0 then abortValue else 0, 0, s.evtCommand w i e false)

/-- A Weir entry (R260): the words go to the staging words and commit at 0x2511.01. -/
def State.objWeir (s : State) (w : World) (v : List Nat) : ObjOut :=
  let s := s.each (List.range 8) fun s n => s.wr .WE_STAGE (leVal ((v.drop (4 * n)).take 4)) n
  let t := s.via (execRouteEntryCommit (engineAs w) (bits s.od.selWe 12 1) (bits s.od.selWe 0 12))
  (if t.rd .WE_ENT_RESULT_CODE ≠ 0 then abortValue else 0, 0, t)

/-- A Confluence entry (R288): the words go to the staging words, and the operation of 0x2611.01 follows. -/
def State.objConf (s : State) (w : World) (v : List Nat) : ObjOut :=
  let s := s.each (List.range 12) fun s n => s.wr .CF_STAGE (leVal ((v.drop (4 * n)).take 4)) n
  let sel := s.od.selCf
  let t := s.via (if bits sel 13 2 = 0 then execCfTableCommit (engineAs w) (bits sel 16 2) (bits sel 0 13)
    else execCfTableRemove (engineAs w) (bits sel 16 2) (bits sel 0 13))
  (if t.rd .CF_TBL_RESULT_CODE ≠ 0 then abortValue else 0, 0, t)

/-- Locks set (R443, R447): a bit that the world may not set makes the write set none. -/
def State.objLocks (s : State) (w : World) (v : Nat) : ObjOut :=
  if 32 ≤ v || (List.range 5).any fun n => bit v n && !lockSetter n w then (abortValue, 0, s)
  else (0, 0, s.each ((List.range 5).filter (bit v ·)) State.setLock)

/-- One source of TP_CFG (R401, R406): class 0 is refused. -/
def State.objTamper (s : State) (r : OdReq) (n v : Nat) : ObjOut :=
  let old := s.rd .TP_CFG
  let new := old - bits old (4 * n) 4 * 2 ^ (4 * n) + v * 2 ^ (4 * n)
  if !r.from [.secure] then (abortRights, 0, s)
  else if s.frozen (engineAs r.own) 0 && new ≠ old then
    (abortLocked, 0, s.logLocked (engineAs r.own) (r.index + 65536 * r.sub) v)
  else if 8 ≤ v || v / 2 = 0 then (abortValue, 0, s)
  else (0, 0, (s.wr .TP_CFG new).confCount .TP_CFG)

/-- A world assignment register (R380): refused where a code is 0b11, and else where the resource is active. -/
def State.objAssign (s : State) (r : OdReq) (n v : Nat) (fit : Bool) : ObjOut :=
  let who := engineAs r.own
  let f := waFld n
  if r.own ≠ .secure then (abortRights, 0, s)
  else if v = s.rd f.1 f.2 then (0, 0, s)
  else if s.frozen who 0 then (abortLocked, 0, s.logLocked who (r.index + 65536 * r.sub) v)
  else if (waCount n).any fun i => bits v (2 * i) 2 ≠ bits (s.rd f.1 f.2) (2 * i) 2 && s.waActive n i then (abortActive, 0, s)
  else if !fit || (waCount n).any fun i => bits v (2 * i) 2 = 3 then (abortValue, 0, s)
  else (0, 0, s.via (execWorldAssign who n v))

/-- A write of an object that no register field shows as it is; `a` and `j` are its places in the ranges of its row. -/
def State.objSpecial (s : State) (r : OdReq) (row : ObjRow) (a j : Nat) (x : Sp) : ObjOut :=
  let v := leVal r.value
  let done (s : State) : ObjOut := (0, 0, s)
  let no : ObjOut := (abortValue, 0, s)
  let set (d : Od) : State := { s with od := d }
  match x with
  | .ipAddr =>
    let n := if row.idx = 0x1D28 then 24 + j else 3 * a + row.sub - 1
    done (set { s.od with addr := NMap.put 0 s.od.addr n (v + 1) }).confWrite
  | .nextWsn => done (s.setPath r.path { s.path r.path with wsn := some (v, s.now) })
  | .ovr =>
    if !r.from [.safety, .secure] then (abortRights, 0, s)
    else s.objRegs r ((regWr (0x40900100 + 8 * j) 0 32 (cut 32 v)).toList
      ++ (regWr (0x40900104 + 8 * j) 0 32 (bits v 32 15 + 2 ^ 31 * bits v 47 1)).toList) true
  | .evtIdx => if 1024 ≤ v then no else done (set { s.od with idxEvt := v })
  | .evtEntry => s.objEvent r.own r.value
  | .cellIdx => if 6144 ≤ v then no else done (set { s.od with idxCell := v })
  | .cellShadow => s.objRegs r (regWr (0x40034000 + 4 * s.od.idxCell) 0 24 v).toList true
  | .reinit => s.objRun .GE_STAT_REFUSED (if v = 0xFFFF then execReinitAll else execReinitCell v)
  | .fsTable => s.objRegs r ((List.range 4).flatMap fun n =>
      (regWr (dieWindow a + 0x80 + 4 * n) 0 24 (leVal ((r.value.drop (3 * n)).take 3))).toList) true
  | .ioSafe => s.objRegs r (regWr (dieWindow a + 0x510) 0 24 v).toList true
  | .weIdx => if 8192 ≤ v then no else done (set { s.od with selWe := v })
  | .weEntry => s.objWeir (if bit s.od.selWe 12 then r.entryWorld 4 2 else r.entryWorld 3 28) r.value
  | .cfSel => if bit v 15 || bits v 18 6 ≠ 0 || bits v 16 2 = 3 || 2 ≤ bits v 13 2 then no else done (set { s.od with selCf := v })
  | .cfEntry => s.objConf (r.entryWorld (match bits s.od.selCf 16 2 with | 0 => 2 | 1 => 0 | _ => 11) 28) r.value
  | .pairMac => done ((s.wr .BR_PAIRMAC_LO (cut 32 v)).wr .BR_PAIRMAC_HI (v / 2 ^ 32)).confWrite
  | .fcfg => s.objRegs r (regWr (0x40600200 + 16 * j) 2 30 (v / 4)).toList true
  | .token => if !r.from [.secure] then (abortRights, 0, s) else s.objAsk (execDebugToken r.cls r.value)
  | .tpCfg => s.objTamper r j v
  | .tpClear => if !r.from [.secure] then (abortRights, 0, s) else if v = 1 then done (s.wr .TP_STAT_LATCH 0)
    else if v = 0 then done s else no
  | .nonce => if !r.from [.secure] then (abortRights, 0, s) else s.objAsk (execAttestationNonce r.value)
  | .zeroClear => if v = 1 then s.objAsk (execZeroiseClear r.cls) else if v = 0 then done s else no
  | .lockSet => s.objLocks r.own v
  | .readPos => done (s.setPath r.path { s.path r.path with readPos := v })
  | _ => no

/-! ## The write of an object -/

/-- The value fits the bits behind the object: a flag takes 0 and 1, an object of one field what the field holds. Where an
object spans a register of several fields, bits of no field are ignored as they are in a register write (R2). -/
def ObjRow.fits (row : ObjRow) (a j v : Nat) : Bool :=
  match row.src with
  | .reg l sh w =>
    match regWr (l.addr a j) sh w v with
    | some ⟨_, [f], _, _⟩ => v < 2 ^ (f.info.lo + f.info.width - sh)
    | _ => w = 8 * row.size || v < 2 ^ w
  | _ => true

/-- Tests 6 to 9 of R408 and the write (R411). -/
def State.objApply (s : State) (r : OdReq) (row : ObjRow) (a j : Nat) : ObjOut :=
  let v := leVal r.value
  if row.idx = 0x2A01 then s.objAssign r j v (row.fits a j v)
  else if row.idx = 0x2A40 then
    if !r.from [.safety, .secure] then (abortRights, 0, s)
    else if !row.fits a j v then (abortValue, 0, s)
    else (0, 0, if v = 1 then s.headRestart 3 else s)
  else if row.idx = 0x2D04 then
    if !r.from [.safety, .secure] then (abortRights, 0, s)
    else if !row.fits a j v then (abortValue, 0, s)
    else (0, 0, if v = 1 then { s with pw := { s.pw with due := 3 } } else s)
  else if row.idx = 0x2903 && 32 ≤ v then (abortValue, 0, s)
  else if row.idx = 0x2903 && r.cls ≠ 3 && World.ofCode (s.rd .DM_FCFG_WORLD v) ≠ r.own then (abortRights, 0, s)
  else match row.src with
    | .reg l sh w => s.objRegs r (regWr (l.addr a j) sh w v).toList (row.fits a j v)
    | .words l n => s.objRegs r ((List.range n).flatMap fun i =>
        (regWr (l.addr a j + 4 * i) 0 32 (leVal ((r.value.drop (4 * i)).take 4))).toList) true
    | .mem base step =>
      if row.idx = 0x270B then (0, 0, s.boardClear r.value)
      else if row.idx = 0x271D && s.rd .GE_PARAM_SEL_BANK = j then (abortValue, 0, s.setF .GE_STAT_REFUSED)
      else (0, 0, (s.setBytes (base + j * step) (r.value.map (· % 256))).confWrite)
    | .const _ => (abortReadOnly, 0, s)
    | .sp x => s.objSpecial r row a j x

end Sys2Proof.Machine
end

