-- ==== Sys2Proof/Machine/Sounding.lean ====
section
/-!
DEFINITION. Sounding (R425, R426): the summary of the device, section by section.
-/
namespace Sys2Proof.Machine

/-- The low `n` bytes of a field, and of the whole register at an address. -/
abbrev State.fb (s : State) (n : Nat) (f : Fld) (i : Nat := 0) : List Nat := leBytes n (s.rd f i)
abbrev State.rb (s : State) (n addr : Nat) : List Nat := leBytes n (s.regAtValue addr)

/-- Truth values as bits from bit 0 up, in `n` bytes. -/
def packBits (n : Nat) (l : List Bool) : List Nat := leBytes n ((l.zipIdx.map fun b => if b.1 then 2 ^ b.2 else 0).sum)

/-- Header; `cls` is the class of the path. Gathering takes one step, so both stamps are the same. -/
def State.sumHeader (s : State) (cls : Nat) : List Nat :=
  leBytes 2 0x5D06 ++ [0x01] ++ packBits 1 [s.flag .BR_STAT_UNIT, s.pairMode] ++ leBytes 4 s.factory.serial
    ++ leBytes 4 s.factory.revision ++ leBytes 8 s.stamp ++ leBytes 8 s.stamp ++ leBytes 3 s.mr.turn ++ leBytes 2 s.od.soundings
    ++ [cls] ++ leBytes 4 (s.sinceStart / 1000) ++ s.fb 1 .SYS_PWR_STAT_STATE

def State.sumIdentity (s : State) : List Nat :=
  s.fb 1 .UPD_STAT_BANK ++ s.fb 1 .BR_MIRFMT ++ (List.range 5).flatMap (fun i => s.fb 4 .UPD_VER i) ++ s.fb 4 .UPD_MSEQ_FORCE
    ++ [if s.flag .UPD_STAT_TRIAL then 3 - s.rd .UPD_STAT_TRIALS else 0] ++ leBytes 6 s.factory.base ++ s.fb 4 .BR_PAIRMAC_LO ++ s.fb 2 .BR_PAIRMAC_HI

def State.sumMillrace (s : State) : List Nat :=
  s.fb 1 .MR_STAT_STATE ++ s.fb 1 .MR_CTL_SRC ++ s.rb 2 0x40020004 ++ s.fb 3 .MR_FREQ ++ s.fb 3 .MR_HOLD_TURNS
    ++ s.fb 3 .MR_ASSOC_TURN ++ s.fb 4 .MR_ASSOC_SEC_LO ++ s.fb 2 .MR_ASSOC_SEC_HI ++ s.fb 4 .MR_ASSOC_NS
    ++ [s.regAtValue 0x40020060 % 16] ++ s.fb 2 .MR_EVT_LATE

def State.sumGauge (s : State) : List Nat :=
  s.rb 1 0x40030004 ++ s.rb 1 0x40030804 ++ s.fb 3 .GA_LAST_TURN ++ s.rb 4 0x40030840 ++ s.fb 3 .GE_PASS_TIME
    ++ s.bytesAt (s.passAddr + 0x18) 2 ++ s.bytesAt (s.passAddr + 0x1C) 2 ++ s.fb 2 .GE_ALM_WR ++ s.fb 4 .GE_ALM_OVF
    ++ packBits 3 ((List.range 24).map fun n => s.word (s.strAddr n + 0x3C) != 0)
    ++ s.bytesAt (halfBase (s.rd .GA_LAST_TURN % 2) + 0x3C010) 2

def State.sumSluice (s : State) : List Nat :=
  (List.range 32).flatMap fun k =>
    let a := dieWindow (dieOf k) + chanOffset k
    s.rb 2 (a + 0x2C) ++ leBytes 3 (s.regAtValue (a + 0x50) % 2 ^ 18)
      ++ match s.lastTurnRec (dieOf k) with
        | some t => s.bytesAt (t + 8 + 4 * localOf k) 3
        | none => [0, 0, 0]

def State.sumFeeds (s : State) : List Nat :=
  (List.range 4).flatMap fun g =>
    s.fb 3 .SL_FEED_SUM g ++ s.fb 3 .SL_FEED_V g ++ s.rb 1 (dieWindow g + 0x48) ++ [s.regAtValue (dieWindow g + 4) % 32]
      ++ s.rb 1 (dieWindow g + 0x68) ++ [s.rd .FY_LINK_STATE g + 4 * b2n (bit (s.rd .FY_STAT_REACH) g)] ++ s.fb 2 .SL_UV_CNT g ++ s.fb 2 .SL_FS_SEQ g
      ++ [0, 0]

def State.sumIo (s : State) : List Nat :=
  (List.range 48).flatMap fun k => leBytes 2 (s.regAtValue (dieWindow (ioDieOf k) + ioOffset k + 0x18) % 2 ^ 13)

def State.sumFloodgate (s : State) : List Nat :=
  s.fb 1 .FG_CTL_EN ++ s.rb 1 0x40048404 ++ s.fb 4 .FG_FIRED_LO ++ s.fb 4 .FG_FIRED_HI
    ++ [((List.range 64).filter fun e => bit (s.rd .FG_ACT e) 31).length]

def State.sumCan (s : State) : List Nat :=
  (List.range 16).flatMap fun k =>
    s.fb 1 .CAN_STAT_STATE k ++ s.fb 2 .CAN_ECNT_TEC k ++ s.fb 1 .CAN_ECNT_REC k ++ s.rb 2 (0x40100004 + 0x10000 * k)
      ++ packBits 1 ((List.range 8).map fun l => s.flag .CAN_TXQ_LVL_STRANDED (8 * k + l))
      ++ [s.segOf k + 8 * s.rd .XCVR_STAT_MODE k + 32 * s.rd .CAN_CTL_TERM k]

def State.sumWeir (s : State) : List Nat :=
  (List.range 8).map (fun n => s.rd .WE_SLP_STAT_STATE n + 8 * s.rd .WE_SLP_STAT_RESULT n) ++ s.fb 3 .WE_GEN ++ s.fb 1 .WE_DRAIN_DONE
    ++ s.rb 1 0x40200004

def State.sumConfluence (s : State) : List Nat :=
  (List.range 10).flatMap (fun p => s.rb 1 (0x40301004 + 0x100 * p) ++ s.rb 1 (0x40301000 + 0x100 * p) ++ [0, 0] ++ s.fb 4 .CFP_CNT_RXOK p)
    ++ s.fb 3 .CF_GEN ++ s.fb 3 .CF_BUF_FREE ++ s.fb 1 .CF_PTP_CTL_SYNC ++ s.rb 1 0x40300004 ++ s.fb 4 .CF_CNT_STOMP

def State.sumBraid (s : State) : List Nat :=
  s.fb 1 .BR_STAT_STATE ++ s.rb 3 0x40400004 ++ s.fb 4 .BR_EPOCH ++ s.fb 4 .BR_CONFGEN ++ s.fb 4 .BR_CONFSUM ++ s.fb 1 .BR_MIRFMT
    ++ s.fb 1 .BR_PEER ++ s.fb 4 .BR_PEER_EPOCH ++ leBytes 4 s.healthWord ++ s.fb 4 .BR_PEER_HEALTH ++ s.fb 2 .BR_LAG ++ s.fb 3 .BR_JUSED
    ++ s.fb 4 .BR_JOPEN_LO ++ s.fb 2 .BR_JOPEN_HI ++ s.fb 1 .BR_TKO_CAUSE ++ s.fb 4 .BR_TKO_LO ++ s.fb 4 .BR_TKO_HI
    ++ s.fb 4 .BR_SEQ_LO ++ s.fb 2 .BR_SEQ_HI

def State.sumDelta (s : State) : List Nat :=
  s.fb 1 .DM_CTL_EN ++ s.fb 1 .DM_STAT_INFL ++ s.fb 4 .DM_RSTBUSY ++ s.fb 4 .DM_RSTDONE
    ++ packBits 8 ((List.range 64).map fun q => s.flag .DQ_STAT_OVERSHARE q)

def State.sumHeadwater (s : State) : List Nat :=
  s.rb 2 0x40000400 ++ s.rb 3 0x40000504 ++ leBytes 2 s.usedSlots.length ++ s.rb 1 0x4000040C ++ s.rb 2 0x40010004

def State.sumIsland (s : State) : List Nat :=
  s.rb 2 0x40000104 ++ s.rb 2 0x40000124 ++ s.rb 4 0x40000228 ++ s.fb 4 .MEM_UE_ADDR_LO ++ s.fb 1 .MEM_UE_ADDR_HI ++ s.rb 2 0x40040000
    ++ packBits 2 ((List.range 16).map fun e => s.flag .FY_ELOG_A_VALID e) ++ s.fb 2 .FY_ELOG_OVF

def State.sumDictionary (s : State) : List Nat :=
  s.rb 1 0x40900004 ++ s.rb 1 0x40900000 ++ s.fb 4 .OD_CNT_REQ ++ s.fb 4 .OD_CNT_ABORT ++ s.fb 4 .OD_CNT_BUSY ++ leBytes 4 s.eseq
    ++ leBytes 4 s.od.latest

def State.sumEvents (s : State) : List Nat := (s.elog.take 12).flatMap LogRec.bytes

/-- The summary of R426 for a path of class `cls`. -/
def State.summary (s : State) (cls : Nat) : List Nat :=
  let body := padTo 64 (s.sumHeader cls) ++ padTo 64 s.sumIdentity ++ padTo 32 s.sumMillrace ++ padTo 32 s.sumGauge
    ++ padTo 256 s.sumSluice ++ padTo 64 s.sumFeeds ++ padTo 96 s.sumIo ++ padTo 16 s.sumFloodgate ++ padTo 128 s.sumCan
    ++ padTo 16 s.sumWeir ++ padTo 96 s.sumConfluence ++ padTo 64 s.sumBraid ++ padTo 32 s.sumDelta ++ padTo 32 s.sumHeadwater
    ++ padTo 32 s.sumIsland ++ padTo 64 s.sumDictionary ++ padTo 384 s.sumEvents ++ List.replicate 60 0
  body ++ leBytes 4 (crc32 body)

/-- A summary gathered into the snapshot buffer of a path (R425). -/
def State.sound (s : State) (path cls : Nat) : State :=
  let s := { s with od := { s.od with soundings := min 65535 (s.od.soundings + 1) } }
  s.setPath path { s.path path with snap := s.formConfsum.live.summary cls }

end Sys2Proof.Machine
end

