-- ==== Sys2Proof/Machine/ObjEngine.lean ====
section
/-!
DEFINITION. The object engine (R407 to R424): answers on each path, reads, writes with and without a work sequence
number, what waits, and how accepted work of every kind is carried out and restored (R310 to R313).
-/
namespace Sys2Proof.Machine

/-! ## Answers -/

/-- A frame of the engine leaves on port `p`; on the service port (8) it is listed. The queue is the model's choice (log
entry 41). -/
def State.portSend (s : State) (p : Nat) (b : List Nat) : State :=
  if p ≤ 7 then s.sendTo p 7 b none
  else if p = 8 then { s with od := { s.od with service := (b :: s.od.service).take 64 } }
  else s

/-- The engine's MAC address on a port (R16, R17). -/
def State.portMac (s : State) (p : Nat) : Nat := if p ≤ 7 then s.ownMac + 1 + p else s.factory.base + 10

/-- The ones' complement sum of 16-bit words, and the Internet checksum. -/
def sum16 : List Nat → Nat
  | a :: b :: rest => 256 * a + b + sum16 rest
  | [a] => 256 * a
  | [] => 0

def checksum (l : List Nat) : Nat :=
  let n := sum16 l
  let n := n % 65536 + n / 65536
  let n := n % 65536 + n / 65536
  65535 - n % 65536

/-- The source address of `head` lies within the port's mask (R413). -/
def State.inMask (s : State) (p : Nat) (head : List Nat) : Bool :=
  (be head 26 4 &&& s.ipOf p 1) == (be head 30 4 &&& s.ipOf p 1)

/-- The response to the request `head` reaches its source address: within the mask, or through a gateway (R413). -/
def State.reaches (s : State) (p : Nat) (head : List Nat) : Bool := s.inMask p head || s.ipOf p 2 != 0

/-- An IPv4 packet of protocol `proto` that answers the request `head`, in an Ethernet frame (RFC 791; identification 0, TTL 64: log
entry 41): it leaves from the address that the request named (R413, R430), to the requester directly or to the gateway,
whose MAC address is left open (`Config.gatewayMac`). -/
def State.ipFrame (s : State) (p : Nat) (head : List Nat) (proto : Nat) (body : List Nat) : List Nat :=
  let h (c : Nat) : List Nat := [0x45, 0] ++ beBytes 2 (20 + body.length) ++ [0, 0, 0x40, 0, 64, proto] ++ beBytes 2 c
    ++ (head.drop 30).take 4 ++ (head.drop 26).take 4
  (if s.inMask p head then (head.drop 6).take 6 else beBytes 6 (Config.gatewayMac p (s.ipOf p 2)))
    ++ beBytes 6 (s.portMac p) ++ [0x08, 0x00] ++ h (checksum (h 0)) ++ body

/-- A DOP response (R413): the request's header with RESP, LEN and ABORT, to the source address and port. `head` is the
request's frame up to its data. -/
def State.dopSend (s : State) (p : Nat) (head : List Nat) (offset : Nat) (more : Bool) (code : Nat) (data : List Nat) : State :=
  let d := head.drop 42
  let msg := d.take 15 ++ [2 + 4 * b2n more] ++ leBytes 4 offset ++ leBytes 2 data.length ++ [0, 0] ++ leBytes 4 code ++ data
  let udp := beBytes 2 28160 ++ (head.drop 34).take 2 ++ beBytes 2 (8 + msg.length) ++ [0, 0] ++ msg
  if s.reaches p head then s.portSend p (s.ipFrame p head 17 udp) else s

/-- An SDO frame of a control channel (R233): it waits for a free pool element. -/
def State.sdoSend (s : State) (k : Nat) (b : List Nat) : State :=
  let f : CanFrame := { id := 0x580 + s.rd .CAN_CTRLCFG_NODE k, len := 8, dlc := 8, data := padTo 8 b }
  let q := NMap.at [] s.od.sdoOut k
  if q.isEmpty && s.canTake k f then (s.join k (s.rd .CAN_CTRLCFG_LEVEL k) { frame := f, origin := 2 }).segQueued k false
  else { s with od := { s.od with sdoOut := NMap.put [] s.od.sdoOut k (q ++ [f]) } }

/-- Waiting SDO frames that now find an element. -/
def State.sdoFlush (s : State) : State :=
  s.each s.od.sdoOut fun s e => s.each e.2 fun s f =>
    if s.canTake e.1 f then
      let q := NMap.at [] s.od.sdoOut e.1
      ({ s with od := { s.od with sdoOut := NMap.put [] s.od.sdoOut e.1 q.tail } }.join e.1 (s.rd .CAN_CTRLCFG_LEVEL e.1)
        { frame := f, origin := 2 }).segQueued e.1 false
    else s

/-- Index and subindex as CiA 301 places them. -/
abbrev muxOf (index sub : Nat) : List Nat := leBytes 2 index ++ [sub]

/-- An abort of CiA 301. -/
abbrev State.sdoAbort (s : State) (k index sub code : Nat) : State := s.sdoSend k ([0x80] ++ muxOf index sub ++ leBytes 4 code)

/-- The answer to an SDO request (R412): abort; download; upload expedited, or the start of a segmented one. -/
def State.sdoAnswer (s : State) (k : Nat) (toggle : Option Bool) (r : OdReq) (code : Nat) (data : List Nat) : State :=
  if code ≠ 0 then s.sdoAbort k r.index r.sub code
  else match r.write, toggle with
    | true, some t => s.sdoSend k [0x20 + 16 * b2n t]
    | true, none => s.sdoSend k ([0x60] ++ muxOf r.index r.sub)
    | false, _ =>
      if data.length ≤ 4 then s.sdoSend k ([0x43 + 4 * (4 - data.length)] ++ muxOf r.index r.sub ++ data)
      else
        let s := s.setPath k { s.path k with xfer := some ⟨false, r.index, r.sub, data, none, false, s.now, 0⟩ }
        s.sdoSend k ([0x41] ++ muxOf r.index r.sub ++ leBytes 4 data.length)

/-- The answer to a message on Eddy (R418): a read goes to the endpoint's buffer, then the two words. -/
def State.eddyAnswer (s : State) (e addr len : Nat) (r : OdReq) (code : Nat) (data : List Nat) : State :=
  let fits := code = 0 && !r.write && data.length ≤ len
  let shut := fits && !s.rangeOk 0x12 (World.ofCode r.world) addr data.length .write
  let code := if code ≠ 0 || r.write then code else if !fits then abortLength else if shut then abortRights else 0
  let s := s.when shut (·.denied 0x12 (World.ofCode r.world) addr data.length)
  let s := if code = 0 && !r.write then s.setBytes addr data else s
  let n := if code ≠ 0 then 0 else if r.write then r.value.length else data.length
  (s.eddySend 7 e [code + 2 ^ 32 * r.wsn, n]).eddyRing 7 e

/-- Two units of a pair may answer differently for these objects (R461). -/
abbrev OdReq.perUnit (r : OdReq) : Bool := 0x2B00 ≤ r.index && r.index ≤ 0x2BFF

/-- A request is answered (R307 kind 4, R424). A response that this unit gives alone is compared with none (R302). -/
def State.odAnswer (s : State) (r : OdReq) (code : Nat) (data : List Nat) : State :=
  let s := if code ≠ 0 then s.inc .OD_CNT_ABORT else s
  let s := s.when (!r.perUnit && !r.alone) (·.decision 4 (leBytes 4 code ++ data))
  let s := s.answer (if code ≠ 0 then .abort code else if r.write then .abort 0 else .data data)
  match r.route with
  | .none => s
  | .dop p head =>
    if code = 0 && r.write && r.index = 0x2001 then
      let l := (s.path r.path).snap
      (s.dopSend p head 0 true 0 (l.take 768)).dopSend p head 768 false 0 (l.drop 768)
    else s.dopSend p head (leVal ((head.drop 58).take 4)) false code ((data.drop r.offset).take 1440)
  | .sdo k t => s.sdoAnswer k t r code data
  | .eddy e addr len => s.eddyAnswer e addr len r code data

/-- A request that is answered later. -/
abbrev State.odWait (s : State) (w : OdWait) : State := { s with od := { s.od with waits := s.od.waits ++ [w] } }

/-! ## Reads -/

/-- A read that has passed tests 1 to 3; BR_CONFSUM is formed when it is read (R317). -/
def State.odRead (s : State) (r : OdReq) (row : ObjRow) (a j : Nat) : State :=
  let s := (s.when (r.index = 0x2802) State.formConfsum).when (r.index = 0x2C01) State.corrected
  match row.src with
  | .sp .quote =>
    if s.flag .HW_STAT_KEYLESS then s.odAnswer r abortValue []
    else if s.head.quoteWait.isSome then s.odWait ⟨r, 4, 0⟩
    else if s.head.quote.isEmpty then s.odAnswer r abortValue []
    else s.odAnswer r 0 (s.objValue r.path row a j)
  | .sp .challenge =>
    let t := s.via (execDebugChallenge r.cls)
    match t.resp with
    | .data c => t.odAnswer r 0 c
    | .abort c => t.odAnswer r c []
    | _ => t
  | .sp .records =>
    let l := s.objValue r.path row a j
    (s.setPath r.path { s.path r.path with readPos := cut 32 ((s.path r.path).readPos + 32) }).odAnswer r 0 l
  | _ => s.odAnswer r 0 (s.objValue r.path row a j)

/-! ## Writes -/

/-- CLIENT of a WSN, and whether SEQ `a` is later than `b` (R420, R422). -/
abbrev clientOf (wsn : Nat) : Nat := wsn / 2 ^ 24
def seqLater (a b : Nat) : Bool :=
  let d := (a + 2 ^ 24 - b % 2 ^ 24) % 2 ^ 24
  1 ≤ d && d < 2 ^ 23

/-- A stored outcome that a repeat still meets (R422): that of the client's latest write, or of one whose entry the journal has not
freed. -/
def Braid.outcomeHeld (b : Braid) (d : Nat × Nat × Nat) : Bool :=
  !(b.done.any fun e => clientOf e.1 == clientOf d.1 && seqLater e.1 d.1) || b.lowOpen ≤ d.2.2

/-- The outcome of a write is stored; of the entries of a client that have one, the latest alone stays open (R423). -/
def Braid.outcome (b : Braid) (wsn code jseq : Nat) : Braid :=
  let done := (wsn, code, jseq) :: b.done.filter (·.1 ≠ wsn)
  let settled (e : JEntry) : Bool := e.kind = 1 && done.any (·.1 == e.ref)
    && done.any fun d => clientOf d.1 == clientOf e.ref && seqLater d.1 e.ref
  let b := { b with done := done, jopen := b.jopen.filter fun e => !settled e }
  { b with done := done.filter b.outcomeHeld }

/-- The outcome of an object write: a journaled one has its completion mark with the abort code (R312, R422, R423). -/
def State.objComplete (s : State) (r : OdReq) (jseq code : Nat) : State :=
  if jseq = 0 then (if r.alone && r.wsn ≠ 0 then { s with braid := s.braid.outcome r.wsn code 0 } else s)
  else
    let s := s.jAppend 0x6 (cut 32 jseq) (leBytes 4 code)
    ({ s with braid := s.braid.outcome r.wsn code jseq }).jView

/-- The end of an object write: the outcome is stored, and every request that carries its WSN is answered. -/
def State.odFinish (s : State) (r : OdReq) (jseq code : Nat) : State :=
  let s := (s.objComplete r jseq code).odAnswer r code []
  let same (w : OdWait) : Bool := w.kind = 0 && r.wsn ≠ 0 && w.req.wsn = r.wsn
  let l := s.od.waits.filter same
  ({ s with od := { s.od with waits := s.od.waits.filter fun w => !same w } }).each l fun s w => s.odAnswer w.req code []

/-- A write that has passed tests 1 to 5 is carried out. -/
def State.odRun (s : State) (r : OdReq) (jseq : Nat) : State :=
  match objFind r.index r.sub with
  | none => s
  | some (row, a, j) =>
    match s.objApply r row a j with
    | (c, 0, t) => t.odFinish r jseq c
    | (_, k, t) => t.odWait ⟨r, k, jseq⟩

/-- A journaled object write is accepted: the last SEQ of its client advances, and it is carried out (R420, R422). -/
def State.odAccepted (s : State) (r : OdReq) (jseq : Nat) : State :=
  let s := { s with od := { s.od with last := NMap.put 0 s.od.last (clientOf r.wsn) (r.wsn % 2 ^ 24 + 1), latest := r.wsn } }
  s.odRun r jseq

/-- Accepted work is carried out (R310). -/
def State.finishWork (s : State) (w : Work) (jseq : Nat) : State :=
  match w with
  | .canPush k l e => s.pushDone k l e jseq
  | .canMove k op _ dest dl es => s.moveDone k op dest dl es jseq
  | .evt idx e c => s.evtDone idx e c jseq
  | .delta q idx d => s.deltaAccepted q idx d jseq
  | .obj r => s.odAccepted r jseq

/-- Work that waits for room or for the unit's own acceptance is presented again (R310); `n` bounds how much. -/
def State.retryHeld (s : State) : Nat → State
  | 0 => s
  | n + 1 =>
    match s.braid.held with
    | [] => s.clrF .BR_STAT_JFULL
    | (_, _, w) :: rest =>
      if s.accepts = .wait || !s.jRoom w then s
      else
        let s := { s with braid := { s.braid with held := rest } }
        State.retryHeld (s.submit w id fun j s => s.finishWork w j) n

abbrev State.retryAll (s : State) : State := s.retryHeld (s.braid.held.length + 1)

/-- The WSN of a write stands in the journal, or waits for its acceptance. -/
def State.wsnKnown (s : State) (wsn : Nat) : Bool :=
  let b := s.braid
  (b.jopen ++ b.waiting).any (fun e => e.kind = 1 && e.ref = wsn) || b.held.any fun h => h.1 = 1 && h.2.1 = wsn

/-- A write that carries a WSN (R420, R422): new, a repeat, or stale. Where the unit serves its own service port it carries the write
out itself, also while it accepts no work (R416). -/
def State.odNumbered (s : State) (r : OdReq) : State :=
  if clientOf r.wsn = 0 then s.odAnswer r abortValue []
  else match s.braid.done.find? fun d => d.1 == r.wsn && s.braid.outcomeHeld d with
  | some d => s.odAnswer r d.2.1 []
  | none =>
    if s.wsnKnown r.wsn then s.odWait ⟨r, 0, 0⟩
    else
      let last := NMap.at 0 s.od.last (clientOf r.wsn)
      if last = 0 || seqLater (r.wsn % 2 ^ 24) (last - 1) then
        if r.alone && s.accepts = .wait then s.odAccepted r 0 else s.submit (.obj r) id fun j s => s.odAccepted r j
      else s.odAnswer r abortStale []

/-- A write that has passed tests 1 to 3 (R407, R408). -/
def State.odWrite (s : State) (r : OdReq) (row : ObjRow) : State :=
  if r.value.length ≠ row.size then s.odAnswer r abortLength []
  else if row.idx = 0x2001 then
    if r.value = [1] then (s.sound r.path r.cls).odAnswer r 0 [] else s.odAnswer r abortValue []
  else if r.wsn = 0 then s.odRun r 0
  else s.odNumbered r

/-! ## Requests -/

/-- An uncorrectable memory error met by the engine ends the request that waits in it with "general error" (R424). -/
def State.memStrike (s : State) : State :=
  match s.od.waits.find? (·.kind ≠ 0) with
  | some w =>
    if s.od.memError then
      ({ s with od := { s.od with memError := false, waits := s.od.waits.erase w } }).odFinish w.req w.jseq abortGeneral
    else s
  | none => s

/-- A request is served (R408, R410). One that meets an uncorrectable memory error is not carried out (R424; DESIGN CHOICE, log entry
104). -/
def State.odServe (s : State) (r : OdReq) : State :=
  let s := s.memStrike.inc .OD_CNT_REQ
  if s.od.memError then { s with od := { s.od with memError := false } }.odAnswer r abortGeneral []
  else match objLookup r.index r.sub with
  | .inr c => s.odAnswer r c []
  | .inl (row, a, j) =>
    match s.rightsCode r.cls r.index row r.write with
    | 0 => if r.write then s.odWrite r row else s.odRead r row a j
    | c => s.odAnswer r c []

/-- Writes of per-unit objects at the service port that the unit carries out itself (R416). -/
def OdReq.localWrite (r : OdReq) : Bool :=
  r.write && ((r.sub = 0 && (r.index = 0x2A04 || r.index = 0x2A05 || r.index = 0x2A32 || r.index = 0x2A40))
    || (r.index = 0x2804 && (r.sub = 1 || r.sub = 3 || r.sub = 4)))

/-- A request that Braid orders (R302, R305): in ACTIVE it goes to the standby as a record and is served once that is
acknowledged; elsewhere it is served at once. At its own service port a unit in INIT, STALE or SYNC serves every request itself,
a standby its reads, and a unit in any state the per-unit writes (R302, R416). -/
def State.odOrder (s : State) (r : OdReq) : State :=
  let service := match r.route with
    | .dop 8 _ => true
    | _ => false
  if s.brState = 5 && !r.localWrite then s.releaseInput (.request r) (.request r)
  else s.odServe { r with alone := service && (r.localWrite || !r.write || s.brState ≠ 4) }

/-! ## What waits -/

/-- The code with which a waiting request can now be answered. -/
def State.waitOver (s : State) (w : OdWait) : Option Nat :=
  let r := w.req
  match w.kind with
  | 0 => (s.braid.done.find? (·.1 == r.wsn)).map (·.2.1)
  | 1 =>
    let g := (r.index - 0x2240) % 4
    if s.flag .SL_FS_CMD_BUSY g then none else some (if s.rd .SL_FS_CMD_RESULT g = 0 then 0 else abortValue)
  | 2 =>
    let k := r.index % 16
    if s.flag .CAN_TXQ_CMDRES_BUSY k then none else some (if s.rd .CAN_TXQ_CMDRES_CODE k = 0 then 0 else abortValue)
  | 3 => if bit (s.rd .DM_RSTBUSY) (leVal r.value % 32) then none else some 0
  | 4 => if s.head.quoteWait.isSome then none else some (if s.head.quote.isEmpty then abortValue else 0)
  | _ =>
    if s.pw.waitUse.isSome then none
    else some (if s.flag .SYS_PWR_STAT_PENDING || s.pw.atTurn.isSome || s.rd .SYS_PWR_STAT_STATE = leVal r.value then 0
      else if s.rd .SYS_PWR_STAT_WHY = 2 then abortSecure else abortValue)

/-- A waiting request is answered. -/
def State.waitAnswer (s : State) (w : OdWait) (code : Nat) : State :=
  if w.kind = 4 then s.odAnswer w.req code (if code = 0 then padTo 428 s.head.quote else [])
  else if w.kind = 0 then s.odAnswer w.req code []
  else s.odFinish w.req w.jseq code

/-- Every waiting request that can be answered is answered, frames that waited for an element are placed, and work that
waited for room is presented again. -/
def State.odPoll (s : State) : State :=
  let s := s.memStrike
  let l := s.od.waits
  let s := s.each l fun s w =>
    match s.waitOver w with
    | some c => ({ s with od := { s.od with waits := s.od.waits.erase w } }).waitAnswer w c
    | none => s
  s.sdoFlush.retryAll

/-! ## Restore -/

/-- The last SEQ of each client as the open entries and stored outcomes give it (R423). -/
def State.seqsRebuilt (s : State) : State :=
  let put (s : State) (w : Nat) : State :=
    let last := NMap.at 0 s.od.last (clientOf w)
    if last = 0 || seqLater (w % 2 ^ 24) (last - 1) then
      { s with od := { s.od with last := NMap.put 0 s.od.last (clientOf w) (w % 2 ^ 24 + 1) } }
    else s
  let s := s.each (s.braid.jopen.filter (·.kind = 1)) fun s e => put s e.ref
  s.each s.braid.done fun s d => put s d.1

/-- An entry put in its place by JSEQ. -/
def putByJseq (e : JEntry) : List JEntry → List JEntry
  | [] => [e]
  | f :: r => if f.jseq < e.jseq then f :: putByJseq e r else e :: f :: r

/-- The open entries of the journal are restored in JSEQ order (R313); event table entries wait for the first lock where phase
time does not run yet (R77). An object write that had no completion mark is applied; its client, which has no answer,
repeats it. -/
def State.restore (s : State) : State :=
  let l := (s.braid.jopen.filter s.entryOpen).foldr putByJseq []
  let s := s.each l fun s e =>
    match e.work with
    | .obj r => s.odRun { r with route := .none } e.jseq
    | .canMove k 4 _ _ dl es => s.each es fun s x => s.append k dl { x with attempts := 0, jseq := e.jseq }
    | .delta q idx d => (s.setDq q { s.dqu q with ring := (s.dqu q).ring ++ [(idx, d, e.jseq)] }).dqView q
    | .evt _ _ false => s
    | w => s.finishWork w e.jseq
  let s := s.seqsRebuilt
  let s := { s with braid := { s.braid with restored := true } }
  if s.phaseRuns then s.recommit else s

end Sys2Proof.Machine
end

