-- ==== Sys2Proof/Machine/ObjPaths.lean ====
section
/-!
DEFINITION. The commands of the object engine, path by path: the Dolop Object Protocol, ARP and ICMP (R413 to R416), SDO
(R412), Eddy (R418), work sequence numbers (R421) and Sounding (R425).
-/
namespace Sys2Proof.Machine

/-! ## The Dolop Object Protocol -/

/-- One second, in ticks. -/
abbrev second : Nat := 100000000

/-- The path of a DOP source address. -/
abbrev dopPath (ip : Nat) : Nat := 0x100 + ip

/-- The frame that a DOP command takes: the oldest one Confluence handed over on P0 to P7; at the service port (8), and from
the partner's (9), the operand. -/
def State.dopFrame (s : State) (p : Nat) (svc : List Nat) : Option (List Nat) :=
  if p ≤ 7 then (s.handed.find? (·.1 == p)).map (·.2) else some svc

/-- The engine serves DOP there (R413, R430, R432, R459). -/
def State.dopOn (s : State) (p : Nat) : Bool :=
  !s.rescue && if p ≤ 7 then s.flag .OD_CTL_DOP && s.ipOf p 0 != 0 else s.flag .OD_CTL_SVC && s.ipOf 8 0 != 0

/-- An IPv4 packet with options, or a fragment. -/
def ipOdd (b : List Nat) : Bool := b.getD 14 0 ≠ 0x45 || bit (b.getD 20 0) 5 || be b 20 2 % 8192 ≠ 0

/-- A DOP message that is not dropped: MAGIC, VERSION, no response, and its header whole. -/
def dopWhole (d : List Nat) : Bool :=
  28 ≤ d.length && leVal (d.take 2) = 0xD0A1 && d.getD 2 0 = 1 && !bit (d.getD 15 0) 1

/-- The class of a request on a port (R7, R8, R45). What the partner forwards (port 9) came with its SERVICE_KEY. -/
def State.dopClass (s : State) (p : Nat) : Nat :=
  if p ≤ 1 then 0 else if p ≤ 7 then 1 else if p = 9 || s.pw.key then 2 else 5

/-- The request of a DOP message in a frame. -/
def State.dopReq (s : State) (p : Nat) (b : List Nat) : OdReq :=
  let d := b.drop 42
  let f (i n : Nat) : Nat := leVal ((d.drop i).take n)
  { route := .dop p (b.take 70), cls := s.dopClass p, path := dopPath (be b 26 4), index := f 12 2, sub := f 14 1,
    write := f 3 1 ≠ 1, value := (d.drop 28).take (f 20 2), offset := f 16 4, wsn := f 8 4 }

/-- The requests that waited when the queue of their class held sixteen, and the others, in order: no SDO or Eddy request finds it full
(R410). `n` counts what waits of class P and E before. -/
def overFull : Nat × Nat → List (Nat × List Nat) → List (Nat × List Nat) × List (Nat × List Nat)
  | _, [] => ([], [])
  | n, h :: r =>
    let p := h.1 ≤ 1
    let e := (1 < h.1 && h.1 ≤ 7) || (0x200 ≤ h.1 && h.1 < 0x300)
    if (p && 16 ≤ n.1) || (e && h.1 ≤ 7 && 16 ≤ n.2) then
      let x := overFull n r
      (h :: x.1, x.2)
    else
      let x := overFull (n.1 + b2n p, n.2 + b2n e) r
      (x.1, h :: x.2)

/-- DOP requests of class P or E beyond the sixteenth that waits are answered "engine busy" (R410). -/
def State.odBusy (s : State) : State :=
  let x := overFull (0, 0) s.handed
  ({ s with handed := x.2 }).each x.1 fun s h =>
    ((s.inc .OD_CNT_BUSY).setF .OD_STAT_BUSYEVT).dopSend h.1 (h.2.take 70) 0 false abortBusy []

/-- It is the turn of a path: its request is the oldest that waits for the engine, or for a path whose request comes with the command
none waits (R410; log entry 104). -/
def State.odTurn (s : State) (path : Nat) : Bool :=
  match s.handed.find? fun h => h.1 ≤ 7 || 0x200 ≤ h.1 with
  | some h => h.1 == path
  | none => true

/-- A DOP message taken by the command of its OP; one with an unknown OP aborts, and one that is dropped goes (R413). -/
def State.dop (s : State) (p : Nat) (svc : List Nat) (op : Nat) (g : State → OdReq → List Nat → State) : State :=
  let s := (s.answer .none).odBusy
  if !s.odTurn p then s
  else match s.dopFrame p svc with
  | none => s
  | some b =>
    let t := if p ≤ 7 then s.taken p else s
    let d := b.drop 42
    if !isIp b || !t.dopOn p || (p ≠ 9 && be b 30 4 ≠ t.ipOf p 0) then t
    else if ipOdd b then t.inc .OD_CNT_ABORT
    else if !isDop b || !dopWhole d then t
    else
      let r := t.dopReq p b
      let o := d.getD 3 0
      if o = 0 || 3 < o then (t.inc .OD_CNT_REQ).odAnswer r abortCommand []
      else if o ≠ op then s
      else if 8 ≤ p && 16 ≤ t.odDepth 2 then
        ((t.inc .OD_CNT_BUSY).setF .OD_STAT_BUSYEVT).odAnswer r abortBusy []
      else if r.value.length ≠ leVal ((d.drop 20).take 2) || 1440 < r.value.length then (t.inc .OD_CNT_REQ).odAnswer r abortLength []
      else g t r b

/-- A standby forwards writes of its service port to the active unit, the per-unit ones and Soundings apart (R416), while its
SERVICE_KEY is asserted: without it the request has no rights, and the standby refuses it itself (R8, R45). -/
def State.forwards (s : State) (p : Nat) (r : OdReq) : Bool :=
  p = 8 && s.pw.key && s.pairMode && s.brState = 4 && r.write && !r.localWrite && r.index ≠ 0x2001

/-- A DOP request goes to the engine: those of P0 to P7 are ordered before they are handed over (R302, R305, R416). -/
def State.dopGo (s : State) (p : Nat) (r : OdReq) (b : List Nat) : State :=
  if p ≤ 7 then s.odServe r else if s.forwards p r then s.sendFree 0x02 b else s.odOrder r

/-- DOP_READ (R413, R414): on P0 to P7 (`p` 0 to 7) the oldest frame that Confluence handed over; on the service port (8) the
Ethernet frame `svc`. -/
def execDopRead (p : Nat) (svc : List Nat) (s : State) : Out := s.running <|
  .next <| s.dop (p % 10) svc 1 fun s r b => s.dopGo (p % 10) r b

/-- DOP_WRITE (R413 to R416): as DOP_READ; port 9 is a write that the partner forwarded from its service port. -/
def execDopWrite (p : Nat) (svc : List Nat) (s : State) : Out := s.running <|
  .next <| s.dop (p % 10) svc 2 fun s r b => s.dopGo (p % 10) r b

/-- Byte `o` of staged parts, the newest first. -/
def Staging.byte (g : Staging) (o : Nat) : Option Nat :=
  (g.parts.find? fun p => p.1 ≤ o && o < p.1 + p.2.length).map fun p => p.2.getD (o - p.1) 0

/-- The value of staged parts, where they cover the length declared: that of the type, or what was sent beyond it. -/
def Staging.whole (g : Staging) : Option (List Nat) :=
  let stop := (g.parts.map fun p => p.1 + p.2.length).foldl max 0
  let size := match objFind g.index g.sub with
    | some (row, _, _) => row.size
    | none => stop
  (List.range (max stop size)).mapM g.byte

/-- The largest staging buffer (R414). -/
abbrev stagingSize : Nat := 131072

/-- A part is staged, and with LAST the whole is applied (R414). -/
def State.dopPart (s : State) (p : Nat) (r : OdReq) (b : List Nat) : State :=
  let old := (s.path r.path).stage
  let keep := match old with
    | some g => if g.index = r.index && g.sub = r.sub && s.now ≤ g.at' + second then g.parts else []
    | none => []
  let g : Staging := ⟨r.index, r.sub, (r.offset, r.value) :: keep, s.now⟩
  let last := bit (b.getD 57 0) 0
  let put (s : State) (x : Option Staging) : State := s.setPath r.path { s.path r.path with stage := x }
  if stagingSize < r.offset + r.value.length then s.odAnswer r abortLength []
  else
    let s := s.when (s.forwards p r) (·.sendFree 0x02 b)
    if !last then (put s (some g)).odAnswer { r with index := 0, value := [] } 0 []
    else
      let t := put s none
      if s.forwards p r then t
      else match g.whole with
      | none => t.odAnswer r abortParts []
      | some v => t.dopGo p { r with value := v, offset := 0 } b

/-- DOP_WRITE_PART (R414). -/
def execDopWritePart (p : Nat) (svc : List Nat) (s : State) : Out := s.running <|
  .next <| s.dop (p % 10) svc 3 fun s r b => s.dopPart (p % 10) r b

/-- PART_STAGING_TIMEOUT (R414): more than 1 s without a part from a source address. -/
def execPartStagingTimeout (ip : Nat) (s : State) : Out := s.running <|
  .next <| s.setPath (dopPath ip) { s.path (dopPath ip) with stage := none }

/-! ## ARP and ICMP -/

/-- ARP_REQUEST (R413, RFC 826): an ARP frame on port `p` (8: the service port). A request for the port's address is
answered. -/
def execArpRequest (p : Nat) (frame : List Nat) (s : State) : Out := s.running <|
  let p := p % 9
  let s := s.answer .none
  .next <| if ethType frame = 0x0806 && (frame.drop 14).take 8 = [0, 1, 8, 0, 6, 4, 0, 1] && s.dopOn p
      && be frame 38 4 = s.ipOf p 0 then
    let mac := beBytes 6 (s.portMac p)
    let sha := (frame.drop 22).take 6
    let reply := sha ++ mac ++ [0x08, 0x06, 0, 1, 8, 0, 6, 4, 0, 2] ++ mac ++ beBytes 4 (s.ipOf p 0) ++ sha ++ (frame.drop 28).take 4
    (s.portSend p reply).answer (.data reply)
  else s

/-- ICMP_ECHO (R413): an ICMP frame on port `p`. An echo request to the port's address is answered; options and fragments
are dropped and counted. -/
def execIcmpEcho (p : Nat) (frame : List Nat) (s : State) : Out := s.running <|
  let p := p % 9
  let s := s.answer .none
  .next <| if !isIp frame || !s.dopOn p || be frame 30 4 ≠ s.ipOf p 0 then s
  else if ipOdd frame then s.inc .OD_CNT_ABORT
  else if frame.getD 23 0 = 1 && (frame.drop 34).take 2 = [8, 0] then
    let body := ((frame.drop 34).take (be frame 16 2 - 20)).drop 4
    let icmp (c : Nat) : List Nat := [0, 0] ++ beBytes 2 c ++ body
    let reply := s.ipFrame p frame 1 (icmp (checksum (icmp 0)))
    if s.reaches p frame then (s.portSend p reply).answer (.data reply) else s
  else s

/-! ## SDO -/

/-- The WSN given on a path, where it still holds, and the path without it (R421). -/
def State.takeWsn (s : State) (path : Nat) : Nat × State :=
  let w := match (s.path path).wsn with
    | some (w, t) => if s.now ≤ t + second then w else 0
    | none => 0
  (w, s.setPath path { s.path path with wsn := none })

/-- A transfer on a control channel ends with an abort. -/
def State.sdoFail (s : State) (k index sub code : Nat) : State :=
  let s := s.setPath k { s.path k with xfer := none }
  (s.inc .OD_CNT_ABORT).sdoAbort k index sub code |>.answer (.abort code)

/-- The oldest SDO request of channel `k`, taken by the command of its specifier. Another specifier of CiA 301 aborts the
request, and the client's own abort ends its transfer. -/
def State.sdoTake (s : State) (k ccs : Nat) (g : State → List Nat → State) : State :=
  let s := (s.answer .none).odBusy
  if !s.odTurn (0x200 + k) then s
  else match s.handed.find? (·.1 == 0x200 + k) with
  | none => s
  | some (_, b) =>
    let t := s.taken (0x200 + k)
    let c := b.getD 0 0 / 32
    if !s.flag .OD_CTL_SDO || s.rescue then t
    else if c = ccs then g t b
    else if c ≤ 3 then s
    else if c = 4 then (t.takeWsn k).2.setPath k { t.path k with xfer := none, wsn := none }
    else ((t.takeWsn k).2.inc .OD_CNT_REQ).sdoFail k (leVal ((b.drop 1).take 2)) (b.getD 3 0) abortCommand

/-- An initiate aborts a transfer that runs on the node (R412). -/
def State.sdoFresh (s : State) (k : Nat) : State :=
  match (s.path k).xfer with
  | some x => s.sdoFail k x.index x.sub abortGeneral
  | none => s

/-- A request of a control channel (R233). -/
def sdoReq (k : Nat) (b : List Nat) (write : Bool) (value : List Nat) (wsn : Nat) : OdReq :=
  { route := .sdo k none, cls := 1, path := k, index := leVal ((b.drop 1).take 2), sub := b.getD 3 0, write := write,
    value := value, wsn := wsn }

/-- Tests 1 to 3 of R408, and 4 where a length is known. -/
def State.odPre (s : State) (r : OdReq) (len : Option Nat) : Nat :=
  match objLookup r.index r.sub with
  | .inr c => c
  | .inl (row, _, _) =>
    match s.rightsCode r.cls r.index row r.write with
    | 0 => if len.any (· != row.size) then abortLength else 0
    | c => c

/-- SDO_DOWNLOAD_INITIATE (R412, R421): expedited, or the start of a segmented download. -/
def execSdoDownloadInitiate (k : Nat) (s : State) : Out := s.running <|
  let k := k % 16
  .next <| s.sdoTake k 1 fun s b =>
    let s := s.sdoFresh k
    let (w, s) := s.takeWsn k
    let h := b.getD 0 0
    let r := sdoReq k b true [] w
    if bit h 1 then
      let n := if bit h 0 then 4 - bits h 2 2
        else match objFind r.index r.sub with
          | some (row, _, _) => min 4 row.size
          | none => 4
      s.odServe { r with value := (b.drop 4).take n }
    else
      let size := if bit h 0 then some (leVal ((b.drop 4).take 4)) else none
      match s.odPre r size with
      | 0 => (s.setPath k { s.path k with xfer := some ⟨true, r.index, r.sub, [], size, false, s.now, w⟩ }).sdoSend k
          ([0x60] ++ muxOf r.index r.sub)
      | c => (s.inc .OD_CNT_REQ).odAnswer r c []

/-- SDO_DOWNLOAD_SEGMENT (R412): the last segment makes the write. -/
def execSdoDownloadSegment (k : Nat) (s : State) : Out := s.running <|
  let k := k % 16
  .next <| s.sdoTake k 0 fun s b =>
    let h := b.getD 0 0
    let t := bit h 4
    match (s.path k).xfer with
    | none => (s.takeWsn k).2.sdoFail k 0 0 abortCommand
    | some x =>
      if !x.download then s.sdoFail k x.index x.sub abortCommand
      else if t ≠ x.toggle then s.sdoFail k x.index x.sub abortToggle
      else
        let data := x.data ++ (b.drop 1).take (7 - bits h 1 3)
        if !bit h 0 then
          (s.setPath k { s.path k with xfer := some { x with data := data, toggle := !t, at' := s.now } }).sdoSend k [0x20 + 16 * b2n t]
        else
          let s := s.setPath k { s.path k with xfer := none }
          let r : OdReq := { route := .sdo k (some t), cls := 1, path := k, index := x.index, sub := x.sub, write := true,
                             value := data, wsn := x.wsn }
          if x.size.any (· != data.length) then (s.inc .OD_CNT_REQ).odAnswer r abortLength [] else s.odServe r

/-- SDO_UPLOAD_INITIATE (R412). -/
def execSdoUploadInitiate (k : Nat) (s : State) : Out := s.running <|
  let k := k % 16
  .next <| s.sdoTake k 2 fun s b => ((s.sdoFresh k).takeWsn k).2.odServe (sdoReq k b false [] 0)

/-- SDO_UPLOAD_SEGMENT (R412). -/
def execSdoUploadSegment (k : Nat) (s : State) : Out := s.running <|
  let k := k % 16
  .next <| s.sdoTake k 3 fun s b =>
    let t := bit (b.getD 0 0) 4
    match (s.path k).xfer with
    | none => (s.takeWsn k).2.sdoFail k 0 0 abortCommand
    | some x =>
      if x.download then s.sdoFail k x.index x.sub abortCommand
      else if t ≠ x.toggle then s.sdoFail k x.index x.sub abortToggle
      else
        let part := x.data.take 7
        let rest := x.data.drop 7
        let s := s.setPath k { s.path k with
          xfer := if rest.isEmpty then none else some { x with data := rest, toggle := !t, at' := s.now } }
        s.sdoSend k ([16 * b2n t + 2 * (7 - part.length) + b2n rest.isEmpty] ++ part)

/-- SDO_TIMEOUT (R412): 1 s without the next segment. -/
def execSdoTimeout (k : Nat) (s : State) : Out := s.running <|
  let k := k % 16
  .next <| match (s.path k).xfer with
  | some x => s.sdoFail k x.index x.sub abortTimeout
  | none => s

/-- WSN_EXPIRE (R421): 1 s after a write of 0x2002.00 on a path. -/
def execWsnExpire (path : Nat) (s : State) : Out := s.running <| .next (s.setPath path { s.path path with wsn := none })

/-! ## Eddy -/

/-- The world code of an endpoint (R419). -/
def endpointWorld (e : Nat) : Nat := if e < 4 then 0 else if e < 6 then 1 else 2

/-- The oldest message of endpoint `e`, taken by the command of its OP (R418); another OP aborts. In STANDBY the message is
kept for comparison, and the active unit's record is served in its place (R302). -/
def State.eddyRequest (s : State) (e op : Nat) (g : State → OdReq → Nat → Nat → State) : State :=
  let s := s.answer .none
  if s.rescue || !s.odTurn (0x300 + e) then s else match (s.ed (8 * e + 7)).words with
  | w0 :: w1 :: w2 :: _ =>
    let o := bits w0 24 2
    let addr := w1 % 2 ^ 40
    let len := w2 % 2 ^ 24
    let r : OdReq := { route := .eddy e addr len, cls := 4, path := 0x20 + e, world := endpointWorld e, index := bits w0 0 16,
                       sub := bits w0 16 8, write := o = 2, wsn := w0 / 2 ^ 32 }
    let t := (s.eddyTake e 7 3).taken (0x300 + e)
    if o = 0 || o = 3 then (t.inc .OD_CNT_REQ).odAnswer r abortCommand []
    else if o ≠ op then s
    else g t r addr len
  | _ => s

/-- An own copy of a request, kept to compare with the active unit's (R302). -/
def State.ownCopy (s : State) (r : OdReq) : State :=
  { s with braid := { s.braid with own := s.braid.own ++ [(4, [r.path, r.index, r.sub, b2n r.write, r.wsn] ++ r.value, s.ticks)] } }

/-- OD_EDDY_READ (R418). -/
def execOdEddyRead (e : Nat) (s : State) : Out := s.running <|
  .next <| s.eddyRequest (e % 7) 1 fun s r _ _ => if s.standby then s.ownCopy r else s.odOrder r

/-- OD_EDDY_WRITE (R418): the value comes from the endpoint's buffer, once LEN has passed test 4 of R408. -/
def execOdEddyWrite (e : Nat) (s : State) : Out := s.running <|
  .next <| s.eddyRequest (e % 7) 2 fun s r addr len =>
    match s.odPre r (some len) with
    | 0 =>
      if !s.rangeOk 0x12 (World.ofCode r.world) addr len .read then
        ((s.denied 0x12 (World.ofCode r.world) addr len).inc .OD_CNT_REQ).odAnswer r abortRights []
      else
        let r := { r with value := s.dataAt addr len }
        if s.standby then s.ownCopy r else s.odOrder r
    | c => (s.inc .OD_CNT_REQ).odAnswer r c []

/-! ## Sounding -/

/-- SOUNDING (R425): a write of `value` to 0x2001.00 on a path of class `cls` (0 P to 4 I). Without SERVICE_KEY a request of class S has no
rights (R8). -/
def execSounding (cls path value : Nat) (s : State) : Out := s.running <|
  let s := s.answer .none
  .next <|
    if s.rescue then s
    else s.odServe { cls := if cls % 5 = 2 && !s.pw.key then 5 else cls % 5, path := path, index := 0x2001, write := true,
                     value := [value % 256] }

end Sys2Proof.Machine
end

