-- ==== Sys2Proof/Machine/Braid.lean ====
section
/-!
DEFINITION. Braid events (R289 to R321): heartbeats and misses, the claim line, the confirm window, presence frames, records,
acknowledgements and replays of the mirror, the control block, the cable, and the self-tests of a standby.
-/
namespace Sys2Proof.Machine

/-- The Braid block as a master (R326). -/
abbrev brWho : Initiator := ⟨0x14, .safety⟩

/-! ## Alone, and accepted -/

/-- What the standby has acknowledged up to a SEQ is released and accepted, in order (R305, R310). -/
def State.allow (s : State) (upTo : Nat) : State :=
  let b := s.braid
  let rel := b.releases.filter (·.1 ≤ upTo)
  let acc := b.waiting.filter (·.bseq ≤ upTo)
  let s := ({ s with braid := { b with releases := b.releases.filter (upTo < ·.1), waiting := b.waiting.filter (upTo < ·.bseq),
                                       jopen := b.jopen ++ acc } }).jView
  let s := s.each rel fun s x =>
    match x.2 with
    | .request r => s.odServe r
    | y => s.doRelease y
  s.each acc fun s e => s.finishWork e.work e.jseq

/-- Entries moved to a partner that no longer stands by return to level DLEVEL of the unit's own channel, in journal order
(R300). -/
def State.movesBack (s : State) : State :=
  (s.each s.braid.jopen fun s e =>
    match e.work with
    | .canMove k 4 _ _ dl es => s.each es fun s x => s.append k dl { x with attempts := 0, jseq := e.jseq }
    | _ => s).keptHere fun _ => true

/-- The active unit has lost its standby: ALONE, and what waited is accepted on its own MRAM (R290, R310). -/
def State.aloneNow (s : State) : State := (((s.brGo 6).movesBack).allow (2 ^ 48)).retryAll

/-! ## Takeover -/

/-- The record of a claim taken (R298): stamp and cause. -/
def State.tkoRecord (s : State) : State :=
  let t := s.stamp
  ((s.wr .BR_TKO_LO (cut 32 t)).wr .BR_TKO_HI (t / 2 ^ 32)).wr .BR_TKO_CAUSE s.braid.cause

/-- Fencing starts where a heartbeat has been missed on both paths, neither path is present, or the cable reads unseated
(R296). -/
def State.fenceIfLost (s : State) : State :=
  let lost (f : Fld) (n : Nat) : Bool := !s.flag f || n ≠ 0
  s.when ((lost .BR_STAT_P9OK s.braid.p9Miss && lost .BR_STAT_HBOK s.braid.hbMiss) || !s.flag .BR_STAT_SEATED) State.startFence

/-- A takeover (R298): epoch, flag, record, announce frames, and the work that the unit holds carries on; proxy entries become
ordinary ones (R300). -/
def State.takeOver (s : State) : State :=
  let s := s.newEpoch (s.rd .BR_EPOCH + 1)
  let s := (s.setF .BR_STAT_TAKEOVER).inc .BR_CNT_TAKEOVER
  let s := s.log 0x09 0x03 brWho (s.braid.cause :: leBytes 4 (s.rd .BR_EPOCH))
  (((((s.brGo 6).announce).noProxies.keptHere fun _ => true).fenceIfLost).allow (2 ^ 48)).retryAll

/-- What follows once the claim counts as held (R289, R298, R318, R319, R320): SOLO, a takeover, a start, an adoption. -/
def State.claimHeld (s : State) : State :=
  let s := { s with braid := { s.braid with entering := false } }.setClaim true
  if !s.pairMode then
    let s := s.brGo 1
    if s.braid.restored then s else s.restore
  else
    let s := s.tkoRecord
    match s.braid.cause with
    | 4 => (s.brGo 6).restore.startFence
    | 5 =>
      let s := (s.newEpoch (max (s.rd .BR_EPOCH) (s.rd .BR_PEER_EPOCH) + 1)).brGo 6
      (if s.braid.restored then s else s.restore).fenceIfLost
    | _ => s.takeOver

/-- The partner's claim reads asserted (R291): unit B clears a latch that it has set, and is STALE. -/
def State.partnerClaims (s : State) : State :=
  let s := { s with braid := { s.braid with relAt := none } }.setF .BR_STAT_PCLAIM
  if (s.braid.latch || s.braid.window) && s.flag .BR_STAT_UNIT then s.dropLatch.brGo 2 else s

/-- CLAIM_CONFIRM (R291, R289): the confirm window ends; `partner` tells whether the partner's claim has appeared in it. Unit B
then releases, and unit A keeps its latch and waits. In single mode the first such event is the one at start, where no interlock
applies (log entry 34), or it ends the interlock of a change from pair mode (R289). -/
def execClaimConfirm (partner : Bool) (s : State) : Out := s.running <|
  .next <| if !s.pairMode && !s.braid.entering then
    (if s.claim then s else { s with braid := { s.braid with latch := true, window := false } }.claimHeld)
  else if !s.braid.window then s
  else if partner then s.partnerClaims
  else { s with braid := { s.braid with window := false } }.claimHeld

/-- PARTNER_CLAIM_RELEASED (R42): 20 us without an edge on ACT_CLAIM_IN. A standby that has seen a yield takes over (R298); a
unit that is to become SOLO takes the claim (R289); SOLO ignores the line. -/
def execPartnerClaimReleased (s : State) : Out :=
  .next <| if !s.pairMode && !s.braid.entering then s
  else
    let s := { s with braid := { s.braid with relAt := some s.now } }.clrF .BR_STAT_PCLAIM
    if !s.pairMode then s.waitFree.setLatch 0
    else if s.standby && s.braid.yieldSeen ≠ 0 then s.waitFree.setLatch s.braid.yieldSeen else s

/-- CLAIM_CONFLICT (R291, R42): edges have come on ACT_CLAIM_IN for more than 40 us; a unit whose latch is set obeys R291. SOLO
ignores the line (R289). -/
def execClaimConflict (s : State) : Out := s.running <|
  .next <| if !s.pairMode && !s.braid.entering then s else s.partnerClaims

/-! ## Presence frames -/

/-- PRESENCE_FRAME_SEND (R296): while fencing, every 0.5 ms a presence frame is offered on each fence channel; one that has not
started gives way to the next. -/
def execPresenceFrameSend (s : State) : Out := s.running <|
  .next <| if !s.flag .BR_STAT_FENCING then s
  else s.each ((List.range 16).filter fun k => bit (s.rd .BR_FENCE_FENCECH) k) fun s k => s.setCn k { s.cn k with presence := true }

/-! ## Misses -/

/-- A standby has lost both paths (R297): it takes over, or is STALE and isolated where the partner's claim reads asserted or
presence frames arrive. -/
def State.bothLost (s : State) : State :=
  if s.flag .BR_STAT_PCLAIM then (s.setF .BR_STAT_ISOLATED).brGo 2
  else
    let s := s.waitFree
    if s.presenceWithin 200000 then (s.setF .BR_STAT_ISOLATED).brGo 2
    else if s.flag .BR_STAT_SEATED then s.setLatch 1
    else s.brGo 2

/-- P9 is lost while HBEAT is present (R297). -/
def State.p9Lost (s : State) : State :=
  match s.brState with
  | 5 => s.aloneNow
  | 4 => s.brGo 2
  | 3 => s.brGo 2
  | _ => s

/-- A path is lost (R297): a standby that has missed a heartbeat on the other path too waits for that path. -/
def State.pathLost (s : State) (hb : Bool) : State :=
  let both := !s.flag .BR_STAT_P9OK && !s.flag .BR_STAT_HBOK
  if s.standby then
    if both then s.bothLost
    else if !hb && s.braid.hbMiss = 0 then s.p9Lost
    else s
  else if hb && !both then s
  else s.p9Lost

/-- HEARTBEAT_MISS (R294, R296, R297): a miss on P9 (`path` even) or HBEAT. The holder of the claim fences once it has missed one
on both paths; three in a row are the loss of the path. -/
def execHeartbeatMiss (path : Nat) (s : State) : Out := s.running <|
  let hb := path % 2 = 1
  .next <| if !s.pairMode then s
  else
    let b := s.braid
    let s := if hb then { s with braid := { b with hbMiss := b.hbMiss + 1, bothAt := none } }.inc .BR_CNT_HBMISS
      else { s with braid := { b with p9Miss := b.p9Miss + 1, bothAt := none } }.inc .BR_CNT_P9MISS
    let s := if s.claim && s.braid.p9Miss ≠ 0 && s.braid.hbMiss ≠ 0 then s.startFence else s
    let n := if hb then s.braid.hbMiss else s.braid.p9Miss
    let f : Fld := if hb then .BR_STAT_HBOK else .BR_STAT_P9OK
    if n = 3 then (s.clrF f).pathLost hb else s

/-! ## Heartbeats -/

/-- A path is heard (R294, R296): fencing stops once both have been present for 10 ms. -/
def State.pathHeard (s : State) (hb : Bool) : State :=
  let s := if hb then { s with braid := { s.braid with hbMiss := 0 } }.setF .BR_STAT_HBOK
    else { s with braid := { s.braid with p9Miss := 0 } }.setF .BR_STAT_P9OK
  if !s.flag .BR_STAT_HBOK || !s.flag .BR_STAT_P9OK || s.braid.hbMiss ≠ 0 || s.braid.p9Miss ≠ 0 then
    { s with braid := { s.braid with bothAt := none } }
  else match s.braid.bothAt with
  | none => { s with braid := { s.braid with bothAt := some s.now } }
  | some t => if t + 1000000 ≤ s.now then s.stopFence else s

/-- HEARTBEAT_SEND (R294): every 1 ms in pair mode; the holder of the claim sends only while BR_KEEP is written. -/
def execHeartbeatSend (s : State) : Out := s.running <|
  .next <| if !s.pairMode || (s.claim && !s.braid.kept) then s
  else s.formConfsum.sendBeat

/-- Epoch and then configuration generation compared, own and the partner's (R318). -/
def rankOf (a b c d : Nat) : Ordering := if a = c then compare b d else compare a c

/-- A unit in INIT hears its partner (R318). A unit that restores its configuration after a wake stays in INIT (R439); so does
one without a fence channel (R296). -/
def State.initMeets (s : State) (h : Heartbeat) : State :=
  let claims (s : State) : State := if s.flag .BR_STAT_PCLAIM then s else s.waitFree.setLatch 4
  if s.rd .BR_FENCE_FENCECH = 0 || s.flag .SYS_WAKE_RESTORE || s.braid.latch then s
  else if s.flag .BR_STAT_FMTDIFF || h.state = 5 || h.state = 6 then s.brGo 2
  else if h.state ≠ 0 then s
  else match rankOf (s.rd .BR_EPOCH) (s.rd .BR_CONFGEN) h.epoch h.confgen with
  | .lt => s.brGo 2
  | .gt => claims s
  | .eq => if s.flag .BR_STAT_UNIT then s.brGo 2 else claims s

/-- The hardware state of the unit (R321 step 3). -/
def State.hwState (s : State) : HwState :=
  { turn := s.mr.turn, evt := s.evt, levels := (List.range 16).map fun k => (k, (s.cn k).levels),
    segs := (List.range 8).map fun n => (n, s.rd .WE_SLP_STAT_STATE n), maps := s.mapsNow, gauge := s.gauge,
    gaugeMem := [(gaugeSram + 0x84000, s.bytesAt (gaugeSram + 0x84000) 0x4000), (gaugeSram + 0x88000, s.bytesAt (gaugeSram + 0x88000) 0x18000)],
    jopen := s.braid.jopen, done := s.braid.done, jseq := s.braid.jseq }

/-- The entries of a table as object writes: index, then entry. -/
def tableWrites (n : Nat) (put : Nat → Nat × Nat × List Nat) (entry : Nat → Nat × Nat × List Nat) :
    List (Nat × Nat × List Nat) :=
  (List.range n).flatMap fun i => [put i, entry i]

/-- The Weir tables, the Confluence tables and the cell map as object writes in index order; of the MAC table the static
entries. -/
def State.weirWrites (s : State) : List (Nat × Nat × List Nat) :=
  tableWrites 4096 (fun i => (0x2511, 1, leBytes 2 i)) (fun i =>
      let e := NMap.at {} s.route i
      (0x2511, 2, padTo 32 ([e.w0, e.w1, e.w2, e.w3].flatMap (leBytes 4))))
    ++ tableWrites 64 (fun i => (0x2511, 1, leBytes 2 (4096 + i))) (fun i => (0x2511, 2, padTo 32 ((s.strm i).words.flatMap (leBytes 4))))

def State.confWrites (s : State) : List (Nat × Nat × List Nat) :=
  let sel (t i : Nat) : Nat × Nat × List Nat := (0x2611, 1, leBytes 3 (i + 65536 * t))
  ((s.conf.mac.filter (·.static)).flatMap fun e => [sel 0 0, (0x2611, 2, padTo 48 ([cut 32 e.mac, e.mac / 2 ^ 32 + 65536 * e.vid,
      e.mask + 2 ^ 10 + 2 ^ 28 * e.world + 2 ^ 31].flatMap (leBytes 4)))])
    ++ tableWrites 4095 (sel 1) (fun i => (0x2611, 2, padTo 48 (leBytes 4 (NMap.at 0 s.conf.vlan i))))
    ++ tableWrites 512 (sel 2) (fun i => (0x2611, 2, padTo 48 ((NMap.at [] s.conf.acl i).flatMap (leBytes 4))))

def State.cellWrites (s : State) : List (Nat × Nat × List Nat) :=
  tableWrites 6144 (fun i => (0x2704, 1, leBytes 2 i)) (fun i => (0x2704, 2, leBytes 3 (s.rd .GA_CELLMAP_SH i)))

/-- The configuration as object writes in ascending index order (R321 step 2); a fail-safe table is followed by the write that
commits it. -/
def State.configWrites (s : State) : List (Nat × Nat × List Nat) :=
  let part (lo hi : Nat) : List (Nat × Nat × List Nat) :=
    (confObjects.filter fun o => lo ≤ o.1.idx + o.2.1 && o.1.idx + o.2.1 < hi).flatMap fun o =>
      let i := o.1.idx + o.2.1
      let j := o.1.sub + o.2.2
      (i, j, s.objValue 0x40 o.1 o.2.1 o.2.2) :: (if 0x2240 ≤ i && i < 0x2244 && j = 0x17 then [(i, 0x18, [1])] else [])
  part 0 0x2511 ++ s.weirWrites ++ part 0x2511 0x2611 ++ s.confWrites ++ part 0x2611 0x2704 ++ s.cellWrites ++ part 0x2704 0x10000

/-- The snapshot for a partner that has entered SYNC (R321): the configuration and the hardware state go to it, under a new epoch (R317). -/
def State.syncStart (s : State) : State :=
  let s := { s with braid := { s.braid with syncDue := false } }.newEpoch (s.rd .BR_EPOCH + 1)
  let s := s.each (List.range 3) fun s w => s.clrF .BR_STATE_CTL_DONE w
  let s := s.each s.configWrites fun s c => s.sendRec (.config c.1 c.2.1 c.2.2)
  s.sendRec (.hardware s.hwState)

/-- TURN_BOUNDARY (R53, R73): the angle passes 0xFF_FFFF. A standby takes its boundaries from the active unit's records
(R304). A snapshot for a partner in SYNC is taken there (R321). -/
def execTurnBoundary (s : State) : Out := s.running <|
  .next <| if !s.phaseRuns || s.standby then s
  else
    let s := s.nextTurn (s.tickAt (2 ^ 24))
    if s.brState = 6 && s.braid.syncDue && s.rd .BR_PEER % 16 = 3 then s.syncStart else s

/-- Edges may have come on ACT_CLAIM_IN (R42). The table has no command for the first edges of a claim that rises without a
conflict: while the partner shows that it holds its claim, whether they have come by now is a free value (log entry 42). -/
def State.claimEdges (s : State) : State :=
  if s.flag .BR_STAT_PCLAIM then s
  else if bit s.fresh 0 then { s.freshened with braid := { s.braid with relAt := none } }.setF .BR_STAT_PCLAIM
  else s.freshened

/-- The partner of an active unit has left STANDBY: for STALE or SYNC, its cause is a divergence or another fault, which no
heartbeat tells: a free value (R308; log entry 42). -/
def State.peerLeft (s : State) (old new : Nat) : State :=
  if old = 4 && (new = 2 || new = 3) then s.freshened.when (bit s.fresh 0) (·.setF .BR_STAT_DIVERGE) else s

/-- A heartbeat frame of the partner (R295). A standby takes the epoch of a swap from
the new active unit (R317; log entry 91). -/
def State.beat (s : State) (h : Heartbeat) : State :=
  let old := s.rd .BR_PEER % 16
  let s := s.pathHeard false
  let s := s.wr .BR_PEER (h.state % 16 + 16 * b2n h.seated + 32 * b2n h.yield + 64 * b2n h.swap + 128 * b2n h.fencing)
  let s := ((s.wr .BR_PEER_EPOCH h.epoch).wr .BR_PEER_CONFGEN h.confgen).wr .BR_PEER_HEALTH h.health
  let s := s.putF .BR_STAT_FMTDIFF (h.mirfmt % 256 != s.rd .BR_MIRFMT)
  let s := if (h.state = 5 || h.state = 6) && !h.yield then { s with braid := { s.braid with yieldSeen := 0 } }.claimEdges else s
  match s.brState with
  | 0 => s.initMeets h
  | 4 =>
    if !h.yield then
      s.when ((h.state = 5 || h.state = 6) && s.rd .BR_EPOCH < h.epoch) (·.newEpoch h.epoch)
    else
      let s := { s with braid := { s.braid with yieldSeen := if h.swap then 3 else 2 } }
      if s.flag .BR_STAT_PCLAIM then s else s.waitFree.setLatch s.braid.yieldSeen
  | 5 =>
    let s := s.when (h.aseq != 0) (·.allow h.aseq)
    if h.state = 4 then s
    else
      let s := (s.peerLeft old h.state).aloneNow
      if h.state = 3 then { s with braid := { s.braid with syncDue := true } } else s
  | 6 => if h.state = 4 then s.brGo 5 else if h.state = 3 && old ≠ 3 then { s with braid := { s.braid with syncDue := true } } else s
  | _ => s

/-- HEARTBEAT_RECEIVE (R294, R295, R318): a frame on P9, or (none) a pulse on HBEAT_IN. A standby that has lost P9 and hears a
pulse has lost P9 alone (R297). -/
def execHeartbeatReceive (h : Option Heartbeat) (s : State) : Out := s.running <|
  .next <| if !s.pairMode then s
  else match h with
  | some h => s.beat h
  | none =>
    let s := s.pathHeard true
    if s.standby && !s.flag .BR_STAT_P9OK then s.p9Lost else s

/-! ## Records -/

/-- An own copy of an input met by the active unit's record: `like` picks it, `same` compares it (R302). -/
def State.meet (s : State) (like same : Nat × List Nat × Nat → Bool) : State :=
  match s.braid.own.find? like with
  | none => s
  | some o =>
    let s := { s with braid := { s.braid with own := s.braid.own.erase o } }
    if same o then s else (s.setF .BR_STAT_INDIFF).inc .BR_CNT_INDIFF

/-- Two stamps of one kind differ by no more than 2 us, compared modulo 2^48 (R54, R302). -/
def State.near (s : State) (a b : Nat) : Bool :=
  let tol := if a / 2 ^ 48 = 0 then 200 else s.mr.rate * 512 / 1000000
  let d := (a + 2 ^ 48 - b % 2 ^ 48) % 2 ^ 48
  a / 2 ^ 48 == b / 2 ^ 48 && (d ≤ tol || 2 ^ 48 ≤ d + tol)

/-- The active unit's journal entry (R310, R321): it goes to the unit's own MRAM under its JSEQ. The unit's own request that
waits for it is accepted; another request in its place is a divergence; without one the entry waits. An entry that came while the
software of a synchronising unit did not act yet (`alone`) is carried out at once. -/
def State.journalIn (s : State) (e : JEntry) (alone : Bool) : State :=
  let s := ({ s with braid := { s.braid with jseq := e.jseq } }).jWork e.work false
  let s := s.when s.braid.held.isEmpty (·.clrF .BR_STAT_JFULL)
  let asks (h : Nat × Nat × Work) : Bool := h.1 == e.kind && h.2.1 == e.ref
  if alone then s.finishWork e.work e.jseq
  else match s.braid.held.find? asks with
  | some h =>
    let s := { s with braid := { s.braid with held := s.braid.held.erase h } }
    if h.2.2.same e.work then s.finishWork h.2.2 e.jseq
    else s.diverge (workKind e.kind) (crc32 (h.2.2.frame.2.2 ++ h.2.2.rest)) (crc32 (e.work.frame.2.2 ++ e.work.rest))
  | none =>
    let b := s.braid
    { s with braid := { b with jopen := b.jopen.filter (·.jseq ≠ e.jseq), arrived := b.arrived ++ [{ e with size := e.work.units }] } }

/-- A configuration object of the active unit (R321 step 2), written with the rights that the overrides leave class B (R409): a field
under a lock of this unit is compared, and a difference ends the resynchronisation. -/
def State.configIn (s : State) (index sub : Nat) (v : List Nat) : State :=
  match objFind index sub with
  | none => s
  | some (row, a, j) =>
    if s.rightsCode 3 index row true ≠ 0 then s else match s.objApply { cls := 3, path := 0x40, index := index, sub := sub, write := true, value := v } row a j with
    | (c, _, t) => if c = abortLocked then (t.setF .BR_STAT_LOCKDIFF).brGo 2 else t

/-- The active unit's hardware state (R321 step 3). -/
def State.hwTaken (s : State) (h : HwState) : State :=
  let s := { s with evt := h.evt, gauge := { h.gauge with running := none }, mr := { s.mr with turn := h.turn } }
  let s := s.each h.levels fun s x =>
    let s := s.setCn x.1 { s.cn x.1 with levels := List.replicate 8 [] }
    (s.each x.2.zipIdx fun s q => s.each q.1 (·.append x.1 q.2 ·)).canView x.1
  let s := s.each h.segs fun s x => s.segTaken x.1 x.2
  let s := s.each (s.cellRegs .GA_CELLMAP) fun s e => s.wr .GA_CELLMAP 0 e.1
  let s := s.each h.maps.cells fun s e => s.wr .GA_CELLMAP e.2 e.1
  let s := s.each (List.range 24) fun s i => (s.wr .GA_STRMAP (h.maps.strs.getD i 0) i).wr .GA_SRCMAP (h.maps.srcs.getD i 0) i
  let s := s.each h.gaugeMem fun s x => s.setBytes x.1 x.2
  let s := { s with braid := { s.braid with jopen := [], waiting := [], held := [], arrived := [], ring := [], done := h.done } }
  let s := s.each h.jopen fun s e => ({ s with braid := { s.braid with jseq := e.jseq } }).jWork e.work false
  let s := ({ s with braid := { s.braid with jseq := h.jseq, synced := 3, restored := true } }).jView
  s.seqsRebuilt

/-- A proxy entry of a move has been sent by the standby (R300): the record goes to the completion ring, and the element of
the move is done. -/
def State.proxySent (s : State) (k jseq : Nat) (bytes : List Nat) : State :=
  match s.braid.jopen.find? (·.jseq == jseq) with
  | some ⟨_, _, _, _, .canMove _ _ _ _ _ es, _⟩ =>
    match es.find? fun x => x.tag == leVal (bytes.take 4) with
    | some x => (s.when (x.origin == 0) (·.writeDone k bytes)).completeElem { x with jseq := jseq }
    | none => s
  | _ => s

/-- The record of a request at the standby: the answer to a write that its own service port forwarded leaves there; requests
of the active unit's service port have no answer here (R302, R416). -/
def OdReq.atStandby (r : OdReq) : OdReq :=
  match r.route with
  | .dop 9 h => { r with route := .dop 8 h }
  | .dop 8 _ => { r with route := .none }
  | _ => r

/-- What the record of an input, a decision or state does at the unit that receives it (R302, R303, R307, R321); `alone` as
`State.journalIn` has it. -/
def State.recordIn (s : State) (alone : Bool) : BraidRec → State
  | .can k f =>
    let content := [k] ++ leBytes 4 f.id ++ f.data
    let s := s.meet (fun o => o.1 == 1 && o.2.1.head? == some k) (fun o => o.2.1 == content && s.near o.2.2 f.eof)
    if s.isSdo k f then s.hand (0x200 + k) f.data else s.stageFrame k f
  | .edge g chan bytes =>
    let s := s.meet (fun o => o.1 == 2 && o.2.1.head? == some chan) (fun o => o.2.1 == [chan, bits (bytes.getD 8 0) 6 1])
    if s.edgeRingFull g then s.edgeLost g chan
    else
      let rl := (s.fio chan).ringLost && !bit (bytes.getD 8 0) 7
      (s.setIo chan { s.fio chan with ringLost := false }).edgePut g chan (if rl then bytes.set 8 (bytes.getD 8 0 + 128) else bytes)
  | .eth hq p bytes stamp ptp => if hq = 16 then s.hand p bytes else s.toHost hq p bytes false 0 0 stamp ptp false
  | .request r =>
    if r.path = 0x46 then s.powerAccept (World.ofCode r.world) (leVal r.value) true
    else
      let content := [r.path, r.index, r.sub, b2n r.write, r.wsn] ++ r.value
      let s := s.meet (fun o => o.1 == 4 && o.2.1.head? == some r.path) (fun o => o.2.1 == content)
      s.odServe r.atStandby
  | .stream g bytes => s.streamPut g bytes
  | .turnAvg g n bytes => s.turnPut g 0xB000 n bytes
  | .dieEvent _ data =>
    let c := data.getD 0 0
    if c < 0x80 then s.slRaise (dieOf c) (s.chanWorld c) else s.slRaise (c % 4) .safety
  | .segment n st round result =>
    ((s.segTaken n st).wr .WE_SLP_STAT_ROUND round n).wr .WE_SLP_STAT_RESULT result n
  | .turn r => s.slaveTurn r
  | .close turn _ => { s with gauge := { s.gauge with wait := some turn } }
  | .journal e => s.journalIn e alone
  | .decision kind crc =>
    if s.standby && kind < 0x80 then { s with braid := { s.braid with theirs := s.braid.theirs ++ [(kind, crc, s.mr.turn)] } }.compareAll else s
  | .config i j v => if s.brState = 3 then s.configIn i j v else s
  | .hardware h => if s.brState = 3 then s.hwTaken h else s
  | .region w bytes =>
    let a := s.regionAddr w
    let b := bytes.take (s.rd .BR_STATE_LEN w)
    if !s.rangeOk 0x14 .safety a b.length .write then s.denied 0x14 .safety a b.length else
    let s := s.setBytes a b
    { s with braid := { s.braid with regions := if bit s.braid.regions w then s.braid.regions else s.braid.regions + 2 ^ w } }.setF
      .BR_STATE_CTL_DONE w
  | .proxyCancel k op l => if s.standby then s.cancelIn (k % 16) (if op = 1 then 1 else 2) (l % 8) else s
  | .update _ _ _ | .sent _ _ _ => s

/-- A record that carries a part of a resynchronisation (R321 steps 2 to 4). -/
def BraidRec.isPart : BraidRec → Bool
  | .config _ _ _ | .hardware _ | .region _ _ => true
  | _ => false

/-- The software of a synchronising unit acts: every world's state region that has a length has come (R321). -/
def State.regionsIn (s : State) : Bool := (List.range 3).all fun w => s.rd .BR_STATE_LEN w == 0 || bit s.braid.regions w

/-- Step 5 of R321: with every part done, the records that a unit in SYNC has buffered are processed in order. -/
def State.unseal (s : State) : State :=
  if s.brState = 3 && s.syncDone then
    { s with braid := { s.braid with sealed := [] } }.each s.braid.sealed fun s x => s.recordIn x.1 x.2
  else s

/-- A record in SEQ order (R302): a unit in SYNC takes the parts of its resynchronisation and buffers all else until they are done
(R321). -/
def State.recordTaken (s : State) (x : BraidRec) : State :=
  if s.brState = 3 && !s.syncDone && !x.isPart then { s with braid := { s.braid with sealed := s.braid.sealed ++ [(!s.regionsIn, x)] } }
  else (s.recordIn false x).unseal

/-- The journal has no room for the entry of a record: it is not taken, nor what follows it, and its acceptance waits (R310). -/
def State.recordStuck (s : State) : BraidRec → Bool
  | .journal e => !s.jRoom e.work
  | _ => false

/-- BRAID_RECORD_PROCESS (R302, R308, R315): a record reaches the unit with its SEQ, and the standby's processing is `lag` us
behind. Records are taken strictly in SEQ order: an older one is ignored, a gap asks for a replay, and where the gap goes back
further than the sender's buffer the unit is STALE. What the standby
sends without a SEQ, its completion marks and update state records, is taken as it comes (R300, R461). -/
def execBraidRecordProcess (seq lag : Nat) (rec' : BraidRec) (s : State) : Out := s.running <|
  let seq := seq % 2 ^ 48
  .next <| if !s.pairMode then s
  else match rec' with
  | .sent k j bytes => s.proxySent (k % 16) j bytes
  | .update st res mseq => { s with od := { s.od with partner := (st % 2 ^ 24, res % 256, mseq % 2 ^ 32) } }
  | _ =>
    if !(s.brState = 3 || s.brState = 4) then s
    else
      let first := s.brState = 3 && s.braid.rxSeq = 0
      if !first && seq ≠ (s.braid.rxSeq + 1) % 2 ^ 48 then
        (if s.braid.rxSeq + 65536 < seq then s.brGo 2 else if s.braid.rxSeq < seq then s.askReplay else s)
      else if s.recordStuck rec' then s.setF .BR_STAT_JFULL
      else
        let s := { s with braid := { s.braid with rxSeq := seq, gap := false } }
        let s := ((s.wr .BR_SEQ_LO (cut 32 seq)).wr .BR_SEQ_HI (seq / 2 ^ 32)).wr .BR_LAG (min lag 0xFFFF)
        let s := (s.sendFree 0x04 (leBytes 6 seq)).recordTaken rec'
        if 8000 < lag && (s.brState = 3 || s.brState = 4) then (s.setF .BR_STAT_LAG).brGo 2 else s

/-- BRAID_ACKNOWLEDGEMENT (R305, R310): the partner holds every record up to `seq`. After a planned swap the former active unit, now
the standby, completes so what it had sent before (R301, R322). -/
def execBraidAcknowledgement (seq : Nat) (s : State) : Out := s.running <|
  .next <| if !s.pairMode || !(s.brState = 5 || s.brState = 4) then s
  else
    let q := min (seq % 2 ^ 48) s.lastSeq
    { s with braid := { s.braid with acked := max s.braid.acked q } }.allow q

/-- REPLAY_REQUEST (R315): the standby names the first SEQ that it misses; the records from there on are sent again in order,
where the buffer still holds that SEQ. -/
def execReplayRequest (seq : Nat) (s : State) : Out := s.running <|
  .next <| if !s.sending then s
  else
    let l := (s.braid.sent.filter fun e => seq ≤ e.1).reverse
    let l := if (l.head?.map (·.1)) = some seq then l else []
    let s := { s with braid := { s.braid with resent := l } }.inc .BR_CNT_REPLAY
    s.each l fun s e => s.mirror e.2.type (s.p9Frame e.2.type e.1 (Config.recordBody e.1))

/-- JOURNAL_CONTROL_WRITE (R309). -/
def execJournalControlWrite (s : State) : Out := s.running <| .next s.writeControl

/-! ## Start, cable, tests -/

/-- START_ALONE (R319): a unit in INIT has heard no heartbeat, and no presence frame for 2 s (unit A) or 4 s (unit B) after its
start. The event is the end of that time. -/
def execStartAlone (s : State) : Out := s.running <|
  let wait := if s.flag .BR_STAT_UNIT then 400000000 else 200000000
  let from' := max s.pw.t0 (s.braid.presenceAt.getD 0)
  .next <| if !s.pairMode || s.brState ≠ 0 || s.flag .BR_STAT_P9OK || s.flag .BR_STAT_HBOK || !s.flag .BR_STAT_SEATED
      || s.flag .BR_STAT_PCLAIM || s.rd .BR_FENCE_FENCECH = 0 || s.flag .SYS_WAKE_RESTORE || s.braid.latch then s
  else { s with now := max s.now (from' + wait) }.waitFree.setLatch 4

/-- BLOOP_CHANGE (R43, R296): the unit's end of the cable reads seated, or no longer does. The holder of the claim then fences. -/
def execBloopChange (seated : Bool) (s : State) : Out :=
  let s := s.putF .BR_STAT_SEATED seated
  .next (if s.pairMode && s.claim && !seated then s.startFence else s)

/-- STANDBY_SELF_TEST (R316): a run of test `bit` ends, failed or not. The manual gives no number of the record of a failure
(log entry 43). -/
def execStandbySelfTest (test : Nat) (fail : Bool) (s : State) : Out := s.running <|
  .next <| if !s.pairMode || !s.standby || !s.flag .BR_CTL_TEST || 4000 ≤ s.rd .BR_LAG || 13 < test then s
  else
    let s := s.wr .BR_HEALTH (s.rd .BR_HEALTH % 2 ^ 31)
    let s := s.putBit .BR_HEALTH test fail
    let s := { s with braid := { s.braid with testTurns := s.braid.testTurns.set test s.mr.turn } }
    if fail then (s.log 0x09 (s.fresh % 256) brWho (leBytes 16 (Config.freeValue (s.free + 1)))).freshened.freshened else s

end Sys2Proof.Machine
end

