-- ==== Sys2Proof/Machine/Dispatch.lean ====
section
/-!
DEFINITION. One arm for each command: a call of its meaning.
-/
namespace Sys2Proof.Machine

def exec (i : Instr) (s : State) : Host.Outcome State Fault Refusal :=
  match i with
  | .registerWrite who addr value => Sys2Proof.Machine.execRegisterWrite who addr value s
  | .readClear who addr arrived => Sys2Proof.Machine.execReadClear who addr arrived s
  | .phaseTimeRead => Sys2Proof.Machine.execPhaseTimeRead s
  | .millraceEnable => Sys2Proof.Machine.execMillraceEnable s
  | .millraceDisable => Sys2Proof.Machine.execMillraceDisable s
  | .zeroCrossing dt freq oks rev settled => Sys2Proof.Machine.execZeroCrossing dt freq oks rev settled s
  | .senseLost oks range => Sys2Proof.Machine.execSenseLost oks range s
  | .turnBoundary => Sys2Proof.Machine.execTurnBoundary s
  | .associationAccept => Sys2Proof.Machine.execAssociationAccept s
  | .referenceFrameWithdraw => Sys2Proof.Machine.execReferenceFrameWithdraw s
  | .eventCommit who index => Sys2Proof.Machine.execEventCommit who index s
  | .eventCancel who index => Sys2Proof.Machine.execEventCancel who index s
  | .eventDispatch => Sys2Proof.Machine.execEventDispatch s
  | .gaugeTurnClose => Sys2Proof.Machine.execGaugeTurnClose s
  | .mapCommit => Sys2Proof.Machine.execMapCommit s
  | .gaugePassStart => Sys2Proof.Machine.execGaugePassStart s
  | .gaugePassDone => Sys2Proof.Machine.execGaugePassDone s
  | .geometryCommit => Sys2Proof.Machine.execGeometryCommit s
  | .reinitCell c => Sys2Proof.Machine.execReinitCell c s
  | .reinitAll => Sys2Proof.Machine.execReinitAll s
  | .channelOff who k => Sys2Proof.Machine.execChannelOff who k s
  | .channelOn who k => Sys2Proof.Machine.execChannelOn who k s
  | .channelOnHard who k => Sys2Proof.Machine.execChannelOnHard who k s
  | .channelPwm who k duty => Sys2Proof.Machine.execChannelPwm who k duty s
  | .rampComplete k => Sys2Proof.Machine.execRampComplete k s
  | .inrushWindowEnd k => Sys2Proof.Machine.execInrushWindowEnd k s
  | .pwmEdge k rise => Sys2Proof.Machine.execPwmEdge k rise s
  | .millisecondMean g coarse fine onPhase feed tj => Sys2Proof.Machine.execMillisecondMean g coarse fine onPhase feed tj s
  | .streamRecordDeposit g => Sys2Proof.Machine.execStreamRecordDeposit g s
  | .turnRecordDeposit g count sums => Sys2Proof.Machine.execTurnRecordDeposit g count sums s
  | .openLoadOff k mv => Sys2Proof.Machine.execOpenLoadOff k mv s
  | .extvChange k mv => Sys2Proof.Machine.execExtvChange k mv s
  | .openLoadOn k => Sys2Proof.Machine.execOpenLoadOn k s
  | .reverseBlock k => Sys2Proof.Machine.execReverseBlock k s
  | .reverseResume k => Sys2Proof.Machine.execReverseResume k s
  | .sheddingRoundStart g => Sys2Proof.Machine.execSheddingRoundStart g s
  | .shedStep g => Sys2Proof.Machine.execShedStep g s
  | .currentLimitEngage k on => Sys2Proof.Machine.execCurrentLimitEngage k on s
  | .shortTrip k => Sys2Proof.Machine.execShortTrip k s
  | .limitTrip k => Sys2Proof.Machine.execLimitTrip k s
  | .thermalShutdown k tj => Sys2Proof.Machine.execThermalShutdown k tj s
  | .thermalLatchRelease k tj => Sys2Proof.Machine.execThermalLatchRelease k tj s
  | .thermalLatchClear who k => Sys2Proof.Machine.execThermalLatchClear who k s
  | .retryAttempt k => Sys2Proof.Machine.execRetryAttempt k s
  | .retryCountReset k => Sys2Proof.Machine.execRetryCountReset k s
  | .protectionClear who k => Sys2Proof.Machine.execProtectionClear who k s
  | .spillwayUnlock who k => Sys2Proof.Machine.execSpillwayUnlock who k s
  | .clampPulseEnd k energy => Sys2Proof.Machine.execClampPulseEnd k energy s
  | .spillwayBucket g => Sys2Proof.Machine.execSpillwayBucket g s
  | .feedUndervoltage g => Sys2Proof.Machine.execFeedUndervoltage g s
  | .undervoltageRestart g => Sys2Proof.Machine.execUndervoltageRestart g s
  | .feedDip g below => Sys2Proof.Machine.execFeedDip g below s
  | .dieReset g => Sys2Proof.Machine.execDieReset g s
  | .dieStart g => Sys2Proof.Machine.execDieStart g s
  | .floodgateSoftwareTrigger who mask => Sys2Proof.Machine.execFloodgateSoftwareTrigger who mask s
  | .floodgateOffAndLatch k => Sys2Proof.Machine.execFloodgateOffAndLatch k s
  | .watchdogServe who g value => Sys2Proof.Machine.execWatchdogServe who g value s
  | .watchdogExpire g => Sys2Proof.Machine.execWatchdogExpire g s
  | .failsafeResume who g => Sys2Proof.Machine.execFailsafeResume who g s
  | .failsafeCommit who g => Sys2Proof.Machine.execFailsafeCommit who g s
  | .failsafeCommitDone g okA okB => Sys2Proof.Machine.execFailsafeCommitDone g okA okB s
  | .fieldInputChange k comp => Sys2Proof.Machine.execFieldInputChange k comp s
  | .debounceAccept k => Sys2Proof.Machine.execDebounceAccept k s
  | .edgeRecordWrite g => Sys2Proof.Machine.execEdgeRecordWrite g s
  | .fieldOutputOff who k => Sys2Proof.Machine.execFieldOutputOff who k s
  | .fieldOutputOn who k => Sys2Proof.Machine.execFieldOutputOn who k s
  | .readbackHoldEnd k => Sys2Proof.Machine.execReadbackHoldEnd k s
  | .fieldOutputOvertemp k => Sys2Proof.Machine.execFieldOutputOvertemp k s
  | .fieldOutputOtpRecover k => Sys2Proof.Machine.execFieldOutputOtpRecover k s
  | .canEnable who k => Sys2Proof.Machine.execCanEnable who k s
  | .canDisable who k => Sys2Proof.Machine.execCanDisable who k s
  | .canIntegrationDone k => Sys2Proof.Machine.execCanIntegrationDone k s
  | .canTxPush who k l => Sys2Proof.Machine.execCanTxPush who k l s
  | .canFrameOffer k => Sys2Proof.Machine.execCanFrameOffer k s
  | .canArbitrationLost k => Sys2Proof.Machine.execCanArbitrationLost k s
  | .canFrameSent k sof delay => Sys2Proof.Machine.execCanFrameSent k sof delay s
  | .canTxError k code dataPhase exempt => Sys2Proof.Machine.execCanTxError k code dataPhase exempt s
  | .canRxError k code dataPhase heavy xl => Sys2Proof.Machine.execCanRxError k code dataPhase heavy xl s
  | .canProtocolException k => Sys2Proof.Machine.execCanProtocolException k s
  | .canFrameReceived k f => Sys2Proof.Machine.execCanFrameReceived k f s
  | .canRecover who k => Sys2Proof.Machine.execCanRecover who k s
  | .canRecoveryDone k => Sys2Proof.Machine.execCanRecoveryDone k s
  | .canRelease who k l => Sys2Proof.Machine.execCanRelease who k l s
  | .canCancelHead who k l => Sys2Proof.Machine.execCanCancelHead who k l s
  | .canCancelLevel who k l => Sys2Proof.Machine.execCanCancelLevel who k l s
  | .canMoveChannel who k l dest dlevel => Sys2Proof.Machine.execCanMoveChannel who k l dest dlevel s
  | .canMovePartner who k l dlevel => Sys2Proof.Machine.execCanMovePartner who k l dlevel s
  | .canCompletionDeferred k => Sys2Proof.Machine.execCanCompletionDeferred k s
  | .frameRoute => Sys2Proof.Machine.execFrameRoute s
  | .routeEntryCommit who table index => Sys2Proof.Machine.execRouteEntryCommit who table index s
  | .routeEntryClear who table index => Sys2Proof.Machine.execRouteEntryClear who table index s
  | .ethCanIngress pdu => Sys2Proof.Machine.execEthCanIngress pdu s
  | .bundleTimeout n => Sys2Proof.Machine.execBundleTimeout n s
  | .sleepRequest who n => Sys2Proof.Machine.execSleepRequest who n s
  | .intentSendTimeout n => Sys2Proof.Machine.execIntentSendTimeout n s
  | .voteWindowEnd n => Sys2Proof.Machine.execVoteWindowEnd n s
  | .commitWindowEnd n => Sys2Proof.Machine.execCommitWindowEnd n s
  | .commitAbort n src => Sys2Proof.Machine.execCommitAbort n src s
  | .sleepRetry n => Sys2Proof.Machine.execSleepRetry n s
  | .segmentWakeRequest n => Sys2Proof.Machine.execSegmentWakeRequest n s
  | .segmentAwake n => Sys2Proof.Machine.execSegmentAwake n s
  | .wakeUpPattern k => Sys2Proof.Machine.execWakeUpPattern k s
  | .wakeLinePulse n => Sys2Proof.Machine.execWakeLinePulse n s
  | .ethFrameReceive p bytes good => Sys2Proof.Machine.execEthFrameReceive p bytes good s
  | .ethFrameTransmit p => Sys2Proof.Machine.execEthFrameTransmit p s
  | .mirrorFrameStart bad => Sys2Proof.Machine.execMirrorFrameStart bad s
  | .hostQueueDoorbell who q tail => Sys2Proof.Machine.execHostQueueDoorbell who q tail s
  | .cfTableCommit who table index => Sys2Proof.Machine.execCfTableCommit who table index s
  | .cfTableRemove who table index => Sys2Proof.Machine.execCfTableRemove who table index s
  | .macAgeing mac vid => Sys2Proof.Machine.execMacAgeing mac vid s
  | .stormWindow p => Sys2Proof.Machine.execStormWindow p s
  | .linkDown p => Sys2Proof.Machine.execLinkDown p s
  | .linkUp p => Sys2Proof.Machine.execLinkUp p s
  | .ptpClockSet who => Sys2Proof.Machine.execPtpClockSet who s
  | .ptpClockStep who step => Sys2Proof.Machine.execPtpClockStep who step s
  | .ptpSyncExpire => Sys2Proof.Machine.execPtpSyncExpire s
  | .ptpClockRead => Sys2Proof.Machine.execPtpClockRead s
  | .heartbeatSend => Sys2Proof.Machine.execHeartbeatSend s
  | .heartbeatReceive h => Sys2Proof.Machine.execHeartbeatReceive h s
  | .heartbeatMiss path => Sys2Proof.Machine.execHeartbeatMiss path s
  | .claimConfirm partner => Sys2Proof.Machine.execClaimConfirm partner s
  | .partnerClaimReleased => Sys2Proof.Machine.execPartnerClaimReleased s
  | .claimConflict => Sys2Proof.Machine.execClaimConflict s
  | .keepalive who => Sys2Proof.Machine.execKeepalive who s
  | .keepaliveExpire => Sys2Proof.Machine.execKeepaliveExpire s
  | .claimRelease who => Sys2Proof.Machine.execClaimRelease who s
  | .plannedSwap who => Sys2Proof.Machine.execPlannedSwap who s
  | .adopt who => Sys2Proof.Machine.execAdopt who s
  | .resyncStart who => Sys2Proof.Machine.execResyncStart who s
  | .stateRegionReady who w => Sys2Proof.Machine.execStateRegionReady who w s
  | .presenceFrameSend => Sys2Proof.Machine.execPresenceFrameSend s
  | .braidRecordProcess seq lag rec' => Sys2Proof.Machine.execBraidRecordProcess seq lag rec' s
  | .braidAcknowledgement seq => Sys2Proof.Machine.execBraidAcknowledgement seq s
  | .replayRequest seq => Sys2Proof.Machine.execReplayRequest seq s
  | .journalControlWrite => Sys2Proof.Machine.execJournalControlWrite s
  | .startAlone => Sys2Proof.Machine.execStartAlone s
  | .bloopChange seated => Sys2Proof.Machine.execBloopChange seated s
  | .standbySelfTest test fail => Sys2Proof.Machine.execStandbySelfTest test fail s
  | .lockstepError p cause pc => Sys2Proof.Machine.execLockstepError p cause pc s
  | .pairRestart who p => Sys2Proof.Machine.execPairRestart who p s
  | .pairSelftest who p fail => Sys2Proof.Machine.execPairSelftest who p fail s
  | .debugHalt p => Sys2Proof.Machine.execDebugHalt p s
  | .bothPairsFrozen => Sys2Proof.Machine.execBothPairsFrozen s
  | .uncorrectableError who addr mem => Sys2Proof.Machine.execUncorrectableError who addr mem s
  | .ferryPoll g => Sys2Proof.Machine.execFerryPoll g s
  | .ferryPollResponse g fails => Sys2Proof.Machine.execFerryPollResponse g fails s
  | .diePollTimeout g => Sys2Proof.Machine.execDiePollTimeout g s
  | .ferryCrcError g => Sys2Proof.Machine.execFerryCrcError g s
  | .ferryRetrain g ok => Sys2Proof.Machine.execFerryRetrain g ok s
  | .ferryReadTimeout => Sys2Proof.Machine.execFerryReadTimeout s
  | .eddyPush who e r hi => Sys2Proof.Machine.execEddyPush who e r hi s
  | .eddyDoorbell who e r => Sys2Proof.Machine.execEddyDoorbell who e r s
  | .eddyPop who r e => Sys2Proof.Machine.execEddyPop who r e s
  | .eddyTimeout e r => Sys2Proof.Machine.execEddyTimeout e r s
  | .lockAcquire who n => Sys2Proof.Machine.execLockAcquire who n s
  | .lockRelease who n => Sys2Proof.Machine.execLockRelease who n s
  | .deltaDoorbell who q tail => Sys2Proof.Machine.execDeltaDoorbell who q tail s
  | .deltaDispatch e => Sys2Proof.Machine.execDeltaDispatch e s
  | .deltaOperationComplete q ecc emmc => Sys2Proof.Machine.execDeltaOperationComplete q ecc emmc s
  | .deltaShareWrite who q share => Sys2Proof.Machine.execDeltaShareWrite who q share s
  | .functionReset n => Sys2Proof.Machine.execFunctionReset n s
  | .drainTimeout n => Sys2Proof.Machine.execDrainTimeout n s
  | .functionResetDone n => Sys2Proof.Machine.execFunctionResetDone n s
  | .queueEnable who q => Sys2Proof.Machine.execQueueEnable who q s
  | .monitorCall h part service a0 a1 a2 permitted => Sys2Proof.Machine.execMonitorCall h part service a0 a1 a2 permitted s
  | .monitorCallTimeout h => Sys2Proof.Machine.execMonitorCallTimeout h s
  | .scret h => Sys2Proof.Machine.execScret h s
  | .random => Sys2Proof.Machine.execRandom s
  | .keyDerive => Sys2Proof.Machine.execKeyDerive s
  | .keyDestroy => Sys2Proof.Machine.execKeyDestroy s
  | .keyInfo => Sys2Proof.Machine.execKeyInfo s
  | .keyExport => Sys2Proof.Machine.execKeyExport s
  | .keyImport => Sys2Proof.Machine.execKeyImport s
  | .keyPublic => Sys2Proof.Machine.execKeyPublic s
  | .measureRead => Sys2Proof.Machine.execMeasureRead s
  | .debugChallenge cls => Sys2Proof.Machine.execDebugChallenge cls s
  | .debugToken cls token => Sys2Proof.Machine.execDebugToken cls token s
  | .headwaterRestart who => Sys2Proof.Machine.execHeadwaterRestart who s
  | .headwaterWatchdogExpire => Sys2Proof.Machine.execHeadwaterWatchdogExpire s
  | .remaskRound => Sys2Proof.Machine.execRemaskRound s
  | .trngHealthFail => Sys2Proof.Machine.execTrngHealthFail s
  | .tamperRaise src still => Sys2Proof.Machine.execTamperRaise src still s
  | .zeroiseClear cls => Sys2Proof.Machine.execZeroiseClear cls s
  | .attestationNonce nonce => Sys2Proof.Machine.execAttestationNonce nonce s
  | .attestationQuoteReady => Sys2Proof.Machine.execAttestationQuoteReady s
  | .lostBlock b => Sys2Proof.Machine.execLostBlock b s
  | .worldAssign who r v => Sys2Proof.Machine.execWorldAssign who r v s
  | .dopRead p svc => Sys2Proof.Machine.execDopRead p svc s
  | .dopWrite p svc => Sys2Proof.Machine.execDopWrite p svc s
  | .dopWritePart p svc => Sys2Proof.Machine.execDopWritePart p svc s
  | .partStagingTimeout ip => Sys2Proof.Machine.execPartStagingTimeout ip s
  | .arpRequest p frame => Sys2Proof.Machine.execArpRequest p frame s
  | .icmpEcho p frame => Sys2Proof.Machine.execIcmpEcho p frame s
  | .sdoDownloadInitiate k => Sys2Proof.Machine.execSdoDownloadInitiate k s
  | .sdoDownloadSegment k => Sys2Proof.Machine.execSdoDownloadSegment k s
  | .sdoUploadInitiate k => Sys2Proof.Machine.execSdoUploadInitiate k s
  | .sdoUploadSegment k => Sys2Proof.Machine.execSdoUploadSegment k s
  | .sdoTimeout k => Sys2Proof.Machine.execSdoTimeout k s
  | .odEddyRead e => Sys2Proof.Machine.execOdEddyRead e s
  | .odEddyWrite e => Sys2Proof.Machine.execOdEddyWrite e s
  | .wsnExpire path => Sys2Proof.Machine.execWsnExpire path s
  | .sounding cls path value => Sys2Proof.Machine.execSounding cls path value s
  | .serviceKeyChange level => Sys2Proof.Machine.execServiceKeyChange level s
  | .braidIdChange level => Sys2Proof.Machine.execBraidIdChange level s
  | .cardRemoved => Sys2Proof.Machine.execCardRemoved s
  | .powerOnReset => Sys2Proof.Machine.execPowerOnReset s
  | .fullReset who => Sys2Proof.Machine.execFullReset who s
  | .startLate => Sys2Proof.Machine.execStartLate s
  | .powerRequestRun who => Sys2Proof.Machine.execPowerRequestRun who s
  | .powerRequestTrim who => Sys2Proof.Machine.execPowerRequestTrim who s
  | .powerRequestStandby who => Sys2Proof.Machine.execPowerRequestStandby who s
  | .powerRequestSleep who => Sys2Proof.Machine.execPowerRequestSleep who s
  | .powerEntryContinue => Sys2Proof.Machine.execPowerEntryContinue s
  | .sleepEntryTimeout => Sys2Proof.Machine.execSleepEntryTimeout s
  | .wakeFromStandby => Sys2Proof.Machine.execWakeFromStandby s
  | .wakeFromSleep => Sys2Proof.Machine.execWakeFromSleep s
  | .wakeCheck who => Sys2Proof.Machine.execWakeCheck who s
  | .wakeCheckTimeout => Sys2Proof.Machine.execWakeCheckTimeout s
  | .lockSet who mask => Sys2Proof.Machine.execLockSet who mask s
  | .logicSupplyLoss => Sys2Proof.Machine.execLogicSupplyLoss s
  | .updateCopy who unit => Sys2Proof.Machine.execUpdateCopy who unit s
  | .copyDone code => Sys2Proof.Machine.execCopyDone code s
  | .updateAbort who unit => Sys2Proof.Machine.execUpdateAbort who unit s
  | .updateActivate who unit => Sys2Proof.Machine.execUpdateActivate who unit s
  | .updateActivateReset who unit => Sys2Proof.Machine.execUpdateActivateReset who unit s
  | .updateConfirm who unit => Sys2Proof.Machine.execUpdateConfirm who unit s
  | .confirmTimeout => Sys2Proof.Machine.execConfirmTimeout s
  | .transceiverFault k => Sys2Proof.Machine.execTransceiverFault k s
  | .claimLineFault => Sys2Proof.Machine.execClaimLineFault s
  | .trngHealthRecover => Sys2Proof.Machine.execTrngHealthRecover s
  | .cardInserted card => Sys2Proof.Machine.execCardInserted card s
  | .logicInputChange main alt => Sys2Proof.Machine.execLogicInputChange main alt s
  | .tapDebugAccess op => Sys2Proof.Machine.execTapDebugAccess op s

end Sys2Proof.Machine
end

