-- ==== Sys2Proof/Machine/Step.lean ====
section
/-!
DEFINITION. One step of the block: the command at the front of the queue, or, on an empty queue, one MILL tick.
-/
namespace Sys2Proof.Machine

/-- One step. With a command waiting, the one at the front is taken off and carried out. With none, one MILL tick of 10 ns
passes, in which the object engine gives the answers that are due (DESIGN CHOICE, log entry 1): events that come with
time are commands of their own. -/
def step (s : State) : Host.Outcome State Fault Refusal :=
  match s.pending with
  | c :: rest => exec c { s with pending := rest }
  | [] => .next (s.advance 1).odPoll

/-- The command that a table word spells, put at the front of the queue; the state itself where it spells none. -/
def State.withFetchWord (s : State) (nbits w : Nat) : State :=
  match decodeTableWord nbits w with
  | some c => { s with pending := c :: s.pending }
  | none => s

end Sys2Proof.Machine
end

