-- ==== Sys2Proof/WellFormed.lean ====
section
/-!
DEFINITION. Well-formed commands: every operand that names an instance or fills a field is within its range, every byte
of an operand that is a block of bytes is one, and the sender is a master of R326 or the hardware itself. The machine is
total: it takes the operands of other commands within their ranges.
-/
namespace Sys2Proof
open Sys2Proof.Machine

/-- Operands with the number of values that each may have. -/
def Instr.limits : Instr → List (Nat × Nat)
  | .registerWrite _ addr value => [(addr, 2 ^ 40), (value, 2 ^ 32)]
  | .readClear _ addr _ => [(addr, 2 ^ 40)]
  | .phaseTimeRead => []
  | .millraceEnable => []
  | .millraceDisable => []
  | .zeroCrossing _ freq oks _ _ => [(freq, 2 ^ 32), (oks, 8)]
  | .senseLost oks _ => [(oks, 8)]
  | .turnBoundary => []
  | .associationAccept => []
  | .referenceFrameWithdraw => []
  | .eventCommit _ index => [(index, 1024)]
  | .eventCancel _ index => [(index, 1024)]
  | .eventDispatch => []
  | .gaugeTurnClose => []
  | .mapCommit => []
  | .gaugePassStart => []
  | .gaugePassDone => []
  | .geometryCommit => []
  | .reinitCell c => [(c, 6144)]
  | .reinitAll => []
  | .channelOff _ k => [(k, 32)]
  | .channelOn _ k => [(k, 32)]
  | .channelOnHard _ k => [(k, 32)]
  | .channelPwm _ k duty => [(k, 32), (duty, 4096)]
  | .rampComplete k => [(k, 32)]
  | .inrushWindowEnd k => [(k, 32)]
  | .pwmEdge k _ => [(k, 32)]
  | .millisecondMean g _ _ _ _ _ => [(g, 4)]
  | .streamRecordDeposit g => [(g, 4)]
  | .turnRecordDeposit g count _ => [(g, 4), (count, 65536)]
  | .openLoadOff k _ => [(k, 32)]
  | .extvChange k _ => [(k, 32)]
  | .openLoadOn k => [(k, 32)]
  | .reverseBlock k => [(k, 32)]
  | .reverseResume k => [(k, 32)]
  | .sheddingRoundStart g => [(g, 4)]
  | .shedStep g => [(g, 4)]
  | .currentLimitEngage k _ => [(k, 32)]
  | .shortTrip k => [(k, 32)]
  | .limitTrip k => [(k, 32)]
  | .thermalShutdown k _ => [(k, 32)]
  | .thermalLatchRelease k _ => [(k, 32)]
  | .thermalLatchClear _ k => [(k, 32)]
  | .retryAttempt k => [(k, 32)]
  | .retryCountReset k => [(k, 32)]
  | .protectionClear _ k => [(k, 32)]
  | .spillwayUnlock _ k => [(k, 32)]
  | .clampPulseEnd k _ => [(k, 32)]
  | .spillwayBucket g => [(g, 4)]
  | .feedUndervoltage g => [(g, 4)]
  | .undervoltageRestart g => [(g, 4)]
  | .feedDip g _ => [(g, 4)]
  | .dieReset g => [(g, 4)]
  | .dieStart g => [(g, 4)]
  | .floodgateSoftwareTrigger _ mask => [(mask, 2 ^ 32)]
  | .floodgateOffAndLatch k => [(k, 32)]
  | .watchdogServe _ g value => [(g, 4), (value, 2 ^ 32)]
  | .watchdogExpire g => [(g, 4)]
  | .failsafeResume _ g => [(g, 4)]
  | .failsafeCommit _ g => [(g, 4)]
  | .failsafeCommitDone g _ _ => [(g, 4)]
  | .fieldInputChange k _ => [(k, 48)]
  | .debounceAccept k => [(k, 48)]
  | .edgeRecordWrite g => [(g, 4)]
  | .fieldOutputOff _ k => [(k, 48)]
  | .fieldOutputOn _ k => [(k, 48)]
  | .readbackHoldEnd k => [(k, 48)]
  | .fieldOutputOvertemp k => [(k, 48)]
  | .fieldOutputOtpRecover k => [(k, 48)]
  | .canEnable _ k => [(k, 16)]
  | .canDisable _ k => [(k, 16)]
  | .canIntegrationDone k => [(k, 16)]
  | .canTxPush _ k l => [(k, 16), (l, 8)]
  | .canFrameOffer k => [(k, 16)]
  | .canArbitrationLost k => [(k, 16)]
  | .canFrameSent k sof _ => [(k, 16), (sof, 2 ^ 48)]
  | .canTxError k code _ _ => [(k, 16), (code, 8)]
  | .canRxError k code _ _ _ => [(k, 16), (code, 8)]
  | .canProtocolException k => [(k, 16)]
  | .canFrameReceived k _ => [(k, 16)]
  | .canRecover _ k => [(k, 16)]
  | .canRecoveryDone k => [(k, 16)]
  | .canRelease _ k l => [(k, 16), (l, 8)]
  | .canCancelHead _ k l => [(k, 16), (l, 8)]
  | .canCancelLevel _ k l => [(k, 16), (l, 8)]
  | .canMoveChannel _ k l dest dlevel => [(k, 16), (l, 8), (dest, 16), (dlevel, 8)]
  | .canMovePartner _ k l dlevel => [(k, 16), (l, 8), (dlevel, 8)]
  | .canCompletionDeferred k => [(k, 16)]
  | .frameRoute => []
  | .routeEntryCommit _ table index => [(table, 2), (index, 4096)]
  | .routeEntryClear _ table index => [(table, 2), (index, 4096)]
  | .ethCanIngress _ => []
  | .bundleTimeout n => [(n, 64)]
  | .sleepRequest _ n => [(n, 8)]
  | .intentSendTimeout n => [(n, 8)]
  | .voteWindowEnd n => [(n, 8)]
  | .commitWindowEnd n => [(n, 8)]
  | .commitAbort n src => [(n, 8), (src, 16)]
  | .sleepRetry n => [(n, 8)]
  | .segmentWakeRequest n => [(n, 8)]
  | .segmentAwake n => [(n, 8)]
  | .wakeUpPattern k => [(k, 16)]
  | .wakeLinePulse n => [(n, 4)]
  | .ethFrameReceive p _ _ => [(p, 10)]
  | .ethFrameTransmit p => [(p, 10)]
  | .mirrorFrameStart _ => []
  | .hostQueueDoorbell _ i tail => [(i, 32), (tail, 2 ^ 16)]
  | .cfTableCommit _ table index => [(table, 4), (index, 8192)]
  | .cfTableRemove _ table index => [(table, 4), (index, 8192)]
  | .macAgeing mac vid => [(mac, 2 ^ 48), (vid, 4096)]
  | .stormWindow p => [(p, 10)]
  | .linkDown p => [(p, 10)]
  | .linkUp p => [(p, 10)]
  | .ptpClockSet _ => []
  | .ptpClockStep _ step => [(step, 2 ^ 32)]
  | .ptpSyncExpire => []
  | .ptpClockRead => []
  | .heartbeatSend => []
  | .heartbeatReceive _ => []
  | .heartbeatMiss path => [(path, 2)]
  | .claimConfirm _ => []
  | .partnerClaimReleased => []
  | .claimConflict => []
  | .keepalive _ => []
  | .keepaliveExpire => []
  | .claimRelease _ => []
  | .plannedSwap _ => []
  | .adopt _ => []
  | .resyncStart _ => []
  | .stateRegionReady _ w => [(w, 3)]
  | .presenceFrameSend => []
  | .braidRecordProcess seq _ _ => [(seq, 2 ^ 48)]
  | .braidAcknowledgement seq => [(seq, 2 ^ 48)]
  | .replayRequest seq => [(seq, 2 ^ 48)]
  | .journalControlWrite => []
  | .startAlone => []
  | .bloopChange _ => []
  | .standbySelfTest test _ => [(test, 16)]
  | .lockstepError p _ _ => [(p, 2)]
  | .pairRestart _ p => [(p, 2)]
  | .pairSelftest _ p _ => [(p, 2)]
  | .debugHalt p => [(p, 2)]
  | .bothPairsFrozen => []
  | .uncorrectableError _ addr mem => [(addr, 2 ^ 40), (mem, 6)]
  | .ferryPoll g => [(g, 4)]
  | .ferryPollResponse g _ => [(g, 4)]
  | .diePollTimeout g => [(g, 4)]
  | .ferryCrcError g => [(g, 4)]
  | .ferryRetrain g _ => [(g, 4)]
  | .ferryReadTimeout => []
  | .eddyPush _ e r hi => [(e, 8), (r, 8), (hi, 2 ^ 32)]
  | .eddyDoorbell _ e r => [(e, 8), (r, 8)]
  | .eddyPop _ r e => [(r, 8), (e, 8)]
  | .eddyTimeout e r => [(e, 8), (r, 8)]
  | .lockAcquire _ n => [(n, 64)]
  | .lockRelease _ n => [(n, 64)]
  | .deltaDoorbell _ q tail => [(q, 64), (tail, 2 ^ 16)]
  | .deltaDispatch e => [(e, 8)]
  | .deltaOperationComplete q _ _ => [(q, 64)]
  | .deltaShareWrite _ q share => [(q, 64), (share, 2 ^ 32)]
  | .functionReset n => [(n, 32)]
  | .drainTimeout n => [(n, 32)]
  | .functionResetDone n => [(n, 32)]
  | .queueEnable _ q => [(q, 64)]
  | .monitorCall h part service a0 a1 a2 _ => [(h, 4), (part, 32), (service, 2 ^ 64), (a0, 2 ^ 64), (a1, 2 ^ 64), (a2, 2 ^ 64)]
  | .monitorCallTimeout h => [(h, 4)]
  | .scret h => [(h, 4)]
  | .random => []
  | .keyDerive => []
  | .keyDestroy => []
  | .keyInfo => []
  | .keyExport => []
  | .keyImport => []
  | .keyPublic => []
  | .measureRead => []
  | .debugChallenge cls => [(cls, 5)]
  | .debugToken cls _ => [(cls, 5)]
  | .headwaterRestart _ => []
  | .headwaterWatchdogExpire => []
  | .remaskRound => []
  | .trngHealthFail => []
  | .tamperRaise src _ => [(src, 8)]
  | .zeroiseClear cls => [(cls, 5)]
  | .attestationNonce _ => []
  | .attestationQuoteReady => []
  | .lostBlock b => [(b, 7)]
  | .worldAssign _ r v => [(r, 8), (v, 2 ^ 32)]
  | .dopRead p _ => [(p, 10)]
  | .dopWrite p _ => [(p, 10)]
  | .dopWritePart p _ => [(p, 10)]
  | .partStagingTimeout ip => [(ip, 2 ^ 32)]
  | .arpRequest p _ => [(p, 9)]
  | .icmpEcho p _ => [(p, 9)]
  | .sdoDownloadInitiate k => [(k, 16)]
  | .sdoDownloadSegment k => [(k, 16)]
  | .sdoUploadInitiate k => [(k, 16)]
  | .sdoUploadSegment k => [(k, 16)]
  | .sdoTimeout k => [(k, 16)]
  | .odEddyRead e => [(e, 7)]
  | .odEddyWrite e => [(e, 7)]
  | .wsnExpire _ => []
  | .sounding cls _ value => [(cls, 5), (value, 256)]
  | .serviceKeyChange _ => []
  | .braidIdChange _ => []
  | .cardRemoved => []
  | .powerOnReset => []
  | .fullReset _ => []
  | .startLate => []
  | .powerRequestRun _ => []
  | .powerRequestTrim _ => []
  | .powerRequestStandby _ => []
  | .powerRequestSleep _ => []
  | .powerEntryContinue => []
  | .sleepEntryTimeout => []
  | .wakeFromStandby => []
  | .wakeFromSleep => []
  | .wakeCheck _ => []
  | .wakeCheckTimeout => []
  | .lockSet _ mask => [(mask, 2 ^ 32)]
  | .logicSupplyLoss => []
  | .updateCopy _ unit => [(unit, 4)]
  | .copyDone _ => []
  | .updateAbort _ unit => [(unit, 4)]
  | .updateActivate _ unit => [(unit, 4)]
  | .updateActivateReset _ unit => [(unit, 4)]
  | .updateConfirm _ unit => [(unit, 4)]
  | .confirmTimeout => []
  | .transceiverFault k => [(k, 16)]
  | .claimLineFault => []
  | .trngHealthRecover => []
  | .cardInserted _ => []
  | .logicInputChange _ _ => []
  | .tapDebugAccess _ => []

/-- The operand that is a block of bytes. -/
def Instr.block : Instr → List Nat
  | .registerWrite _ _ _ => []
  | .readClear _ _ _ => []
  | .phaseTimeRead => []
  | .millraceEnable => []
  | .millraceDisable => []
  | .zeroCrossing _ _ _ _ _ => []
  | .senseLost _ _ => []
  | .turnBoundary => []
  | .associationAccept => []
  | .referenceFrameWithdraw => []
  | .eventCommit _ _ => []
  | .eventCancel _ _ => []
  | .eventDispatch => []
  | .gaugeTurnClose => []
  | .mapCommit => []
  | .gaugePassStart => []
  | .gaugePassDone => []
  | .geometryCommit => []
  | .reinitCell _ => []
  | .reinitAll => []
  | .channelOff _ _ => []
  | .channelOn _ _ => []
  | .channelOnHard _ _ => []
  | .channelPwm _ _ _ => []
  | .rampComplete _ => []
  | .inrushWindowEnd _ => []
  | .pwmEdge _ _ => []
  | .millisecondMean _ _ _ _ _ _ => []
  | .streamRecordDeposit _ => []
  | .turnRecordDeposit _ _ _ => []
  | .openLoadOff _ _ => []
  | .extvChange _ _ => []
  | .openLoadOn _ => []
  | .reverseBlock _ => []
  | .reverseResume _ => []
  | .sheddingRoundStart _ => []
  | .shedStep _ => []
  | .currentLimitEngage _ _ => []
  | .shortTrip _ => []
  | .limitTrip _ => []
  | .thermalShutdown _ _ => []
  | .thermalLatchRelease _ _ => []
  | .thermalLatchClear _ _ => []
  | .retryAttempt _ => []
  | .retryCountReset _ => []
  | .protectionClear _ _ => []
  | .spillwayUnlock _ _ => []
  | .clampPulseEnd _ _ => []
  | .spillwayBucket _ => []
  | .feedUndervoltage _ => []
  | .undervoltageRestart _ => []
  | .feedDip _ _ => []
  | .dieReset _ => []
  | .dieStart _ => []
  | .floodgateSoftwareTrigger _ _ => []
  | .floodgateOffAndLatch _ => []
  | .watchdogServe _ _ _ => []
  | .watchdogExpire _ => []
  | .failsafeResume _ _ => []
  | .failsafeCommit _ _ => []
  | .failsafeCommitDone _ _ _ => []
  | .fieldInputChange _ _ => []
  | .debounceAccept _ => []
  | .edgeRecordWrite _ => []
  | .fieldOutputOff _ _ => []
  | .fieldOutputOn _ _ => []
  | .readbackHoldEnd _ => []
  | .fieldOutputOvertemp _ => []
  | .fieldOutputOtpRecover _ => []
  | .canEnable _ _ => []
  | .canDisable _ _ => []
  | .canIntegrationDone _ => []
  | .canTxPush _ _ _ => []
  | .canFrameOffer _ => []
  | .canArbitrationLost _ => []
  | .canFrameSent _ _ _ => []
  | .canTxError _ _ _ _ => []
  | .canRxError _ _ _ _ _ => []
  | .canProtocolException _ => []
  | .canFrameReceived _ f => f.data
  | .canRecover _ _ => []
  | .canRecoveryDone _ => []
  | .canRelease _ _ _ => []
  | .canCancelHead _ _ _ => []
  | .canCancelLevel _ _ _ => []
  | .canMoveChannel _ _ _ _ _ => []
  | .canMovePartner _ _ _ _ => []
  | .canCompletionDeferred _ => []
  | .frameRoute => []
  | .routeEntryCommit _ _ _ => []
  | .routeEntryClear _ _ _ => []
  | .ethCanIngress pdu => pdu
  | .bundleTimeout _ => []
  | .sleepRequest _ _ => []
  | .intentSendTimeout _ => []
  | .voteWindowEnd _ => []
  | .commitWindowEnd _ => []
  | .commitAbort _ _ => []
  | .sleepRetry _ => []
  | .segmentWakeRequest _ => []
  | .segmentAwake _ => []
  | .wakeUpPattern _ => []
  | .wakeLinePulse _ => []
  | .ethFrameReceive _ bytes _ => bytes
  | .ethFrameTransmit _ => []
  | .mirrorFrameStart _ => []
  | .hostQueueDoorbell _ _ _ => []
  | .cfTableCommit _ _ _ => []
  | .cfTableRemove _ _ _ => []
  | .macAgeing _ _ => []
  | .stormWindow _ => []
  | .linkDown _ => []
  | .linkUp _ => []
  | .ptpClockSet _ => []
  | .ptpClockStep _ _ => []
  | .ptpSyncExpire => []
  | .ptpClockRead => []
  | .heartbeatSend => []
  | .heartbeatReceive _ => []
  | .heartbeatMiss _ => []
  | .claimConfirm _ => []
  | .partnerClaimReleased => []
  | .claimConflict => []
  | .keepalive _ => []
  | .keepaliveExpire => []
  | .claimRelease _ => []
  | .plannedSwap _ => []
  | .adopt _ => []
  | .resyncStart _ => []
  | .stateRegionReady _ _ => []
  | .presenceFrameSend => []
  | .braidRecordProcess _ _ _ => []
  | .braidAcknowledgement _ => []
  | .replayRequest _ => []
  | .journalControlWrite => []
  | .startAlone => []
  | .bloopChange _ => []
  | .standbySelfTest _ _ => []
  | .lockstepError _ _ _ => []
  | .pairRestart _ _ => []
  | .pairSelftest _ _ _ => []
  | .debugHalt _ => []
  | .bothPairsFrozen => []
  | .uncorrectableError _ _ _ => []
  | .ferryPoll _ => []
  | .ferryPollResponse _ _ => []
  | .diePollTimeout _ => []
  | .ferryCrcError _ => []
  | .ferryRetrain _ _ => []
  | .ferryReadTimeout => []
  | .eddyPush _ _ _ _ => []
  | .eddyDoorbell _ _ _ => []
  | .eddyPop _ _ _ => []
  | .eddyTimeout _ _ => []
  | .lockAcquire _ _ => []
  | .lockRelease _ _ => []
  | .deltaDoorbell _ _ _ => []
  | .deltaDispatch _ => []
  | .deltaOperationComplete _ _ _ => []
  | .deltaShareWrite _ _ _ => []
  | .functionReset _ => []
  | .drainTimeout _ => []
  | .functionResetDone _ => []
  | .queueEnable _ _ => []
  | .monitorCall _ _ _ _ _ _ _ => []
  | .monitorCallTimeout _ => []
  | .scret _ => []
  | .random => []
  | .keyDerive => []
  | .keyDestroy => []
  | .keyInfo => []
  | .keyExport => []
  | .keyImport => []
  | .keyPublic => []
  | .measureRead => []
  | .debugChallenge _ => []
  | .debugToken _ token => token
  | .headwaterRestart _ => []
  | .headwaterWatchdogExpire => []
  | .remaskRound => []
  | .trngHealthFail => []
  | .tamperRaise _ _ => []
  | .zeroiseClear _ => []
  | .attestationNonce nonce => nonce
  | .attestationQuoteReady => []
  | .lostBlock _ => []
  | .worldAssign _ _ _ => []
  | .dopRead _ svc => svc
  | .dopWrite _ svc => svc
  | .dopWritePart _ svc => svc
  | .partStagingTimeout _ => []
  | .arpRequest _ frame => frame
  | .icmpEcho _ frame => frame
  | .sdoDownloadInitiate _ => []
  | .sdoDownloadSegment _ => []
  | .sdoUploadInitiate _ => []
  | .sdoUploadSegment _ => []
  | .sdoTimeout _ => []
  | .odEddyRead _ => []
  | .odEddyWrite _ => []
  | .wsnExpire _ => []
  | .sounding _ _ _ => []
  | .serviceKeyChange _ => []
  | .braidIdChange _ => []
  | .cardRemoved => []
  | .powerOnReset => []
  | .fullReset _ => []
  | .startLate => []
  | .powerRequestRun _ => []
  | .powerRequestTrim _ => []
  | .powerRequestStandby _ => []
  | .powerRequestSleep _ => []
  | .powerEntryContinue => []
  | .sleepEntryTimeout => []
  | .wakeFromStandby => []
  | .wakeFromSleep => []
  | .wakeCheck _ => []
  | .wakeCheckTimeout => []
  | .lockSet _ _ => []
  | .logicSupplyLoss => []
  | .updateCopy _ _ => []
  | .copyDone _ => []
  | .updateAbort _ _ => []
  | .updateActivate _ _ => []
  | .updateActivateReset _ _ => []
  | .updateConfirm _ _ => []
  | .confirmTimeout => []
  | .transceiverFault _ => []
  | .claimLineFault => []
  | .trngHealthRecover => []
  | .cardInserted _ => []
  | .logicInputChange _ _ => []
  | .tapDebugAccess _ => []

/-- The sender. -/
def Instr.sender : Instr → Option Initiator
  | .registerWrite who _ _ => some who
  | .readClear who _ _ => some who
  | .phaseTimeRead => none
  | .millraceEnable => none
  | .millraceDisable => none
  | .zeroCrossing _ _ _ _ _ => none
  | .senseLost _ _ => none
  | .turnBoundary => none
  | .associationAccept => none
  | .referenceFrameWithdraw => none
  | .eventCommit who _ => some who
  | .eventCancel who _ => some who
  | .eventDispatch => none
  | .gaugeTurnClose => none
  | .mapCommit => none
  | .gaugePassStart => none
  | .gaugePassDone => none
  | .geometryCommit => none
  | .reinitCell _ => none
  | .reinitAll => none
  | .channelOff who _ => some who
  | .channelOn who _ => some who
  | .channelOnHard who _ => some who
  | .channelPwm who _ _ => some who
  | .rampComplete _ => none
  | .inrushWindowEnd _ => none
  | .pwmEdge _ _ => none
  | .millisecondMean _ _ _ _ _ _ => none
  | .streamRecordDeposit _ => none
  | .turnRecordDeposit _ _ _ => none
  | .openLoadOff _ _ => none
  | .extvChange _ _ => none
  | .openLoadOn _ => none
  | .reverseBlock _ => none
  | .reverseResume _ => none
  | .sheddingRoundStart _ => none
  | .shedStep _ => none
  | .currentLimitEngage _ _ => none
  | .shortTrip _ => none
  | .limitTrip _ => none
  | .thermalShutdown _ _ => none
  | .thermalLatchRelease _ _ => none
  | .thermalLatchClear who _ => some who
  | .retryAttempt _ => none
  | .retryCountReset _ => none
  | .protectionClear who _ => some who
  | .spillwayUnlock who _ => some who
  | .clampPulseEnd _ _ => none
  | .spillwayBucket _ => none
  | .feedUndervoltage _ => none
  | .undervoltageRestart _ => none
  | .feedDip _ _ => none
  | .dieReset _ => none
  | .dieStart _ => none
  | .floodgateSoftwareTrigger who _ => some who
  | .floodgateOffAndLatch _ => none
  | .watchdogServe who _ _ => some who
  | .watchdogExpire _ => none
  | .failsafeResume who _ => some who
  | .failsafeCommit who _ => some who
  | .failsafeCommitDone _ _ _ => none
  | .fieldInputChange _ _ => none
  | .debounceAccept _ => none
  | .edgeRecordWrite _ => none
  | .fieldOutputOff who _ => some who
  | .fieldOutputOn who _ => some who
  | .readbackHoldEnd _ => none
  | .fieldOutputOvertemp _ => none
  | .fieldOutputOtpRecover _ => none
  | .canEnable who _ => some who
  | .canDisable who _ => some who
  | .canIntegrationDone _ => none
  | .canTxPush who _ _ => some who
  | .canFrameOffer _ => none
  | .canArbitrationLost _ => none
  | .canFrameSent _ _ _ => none
  | .canTxError _ _ _ _ => none
  | .canRxError _ _ _ _ _ => none
  | .canProtocolException _ => none
  | .canFrameReceived _ _ => none
  | .canRecover who _ => some who
  | .canRecoveryDone _ => none
  | .canRelease who _ _ => some who
  | .canCancelHead who _ _ => some who
  | .canCancelLevel who _ _ => some who
  | .canMoveChannel who _ _ _ _ => some who
  | .canMovePartner who _ _ _ => some who
  | .canCompletionDeferred _ => none
  | .frameRoute => none
  | .routeEntryCommit who _ _ => some who
  | .routeEntryClear who _ _ => some who
  | .ethCanIngress _ => none
  | .bundleTimeout _ => none
  | .sleepRequest who _ => some who
  | .intentSendTimeout _ => none
  | .voteWindowEnd _ => none
  | .commitWindowEnd _ => none
  | .commitAbort _ _ => none
  | .sleepRetry _ => none
  | .segmentWakeRequest _ => none
  | .segmentAwake _ => none
  | .wakeUpPattern _ => none
  | .wakeLinePulse _ => none
  | .ethFrameReceive _ _ _ => none
  | .ethFrameTransmit _ => none
  | .mirrorFrameStart _ => none
  | .hostQueueDoorbell who _ _ => some who
  | .cfTableCommit who _ _ => some who
  | .cfTableRemove who _ _ => some who
  | .macAgeing _ _ => none
  | .stormWindow _ => none
  | .linkDown _ => none
  | .linkUp _ => none
  | .ptpClockSet who => some who
  | .ptpClockStep who _ => some who
  | .ptpSyncExpire => none
  | .ptpClockRead => none
  | .heartbeatSend => none
  | .heartbeatReceive _ => none
  | .heartbeatMiss _ => none
  | .claimConfirm _ => none
  | .partnerClaimReleased => none
  | .claimConflict => none
  | .keepalive who => some who
  | .keepaliveExpire => none
  | .claimRelease who => some who
  | .plannedSwap who => some who
  | .adopt who => some who
  | .resyncStart who => some who
  | .stateRegionReady who _ => some who
  | .presenceFrameSend => none
  | .braidRecordProcess _ _ _ => none
  | .braidAcknowledgement _ => none
  | .replayRequest _ => none
  | .journalControlWrite => none
  | .startAlone => none
  | .bloopChange _ => none
  | .standbySelfTest _ _ => none
  | .lockstepError _ _ _ => none
  | .pairRestart who _ => some who
  | .pairSelftest who _ _ => some who
  | .debugHalt _ => none
  | .bothPairsFrozen => none
  | .uncorrectableError who _ _ => some who
  | .ferryPoll _ => none
  | .ferryPollResponse _ _ => none
  | .diePollTimeout _ => none
  | .ferryCrcError _ => none
  | .ferryRetrain _ _ => none
  | .ferryReadTimeout => none
  | .eddyPush who _ _ _ => some who
  | .eddyDoorbell who _ _ => some who
  | .eddyPop who _ _ => some who
  | .eddyTimeout _ _ => none
  | .lockAcquire who _ => some who
  | .lockRelease who _ => some who
  | .deltaDoorbell who _ _ => some who
  | .deltaDispatch _ => none
  | .deltaOperationComplete _ _ _ => none
  | .deltaShareWrite who _ _ => some who
  | .functionReset _ => none
  | .drainTimeout _ => none
  | .functionResetDone _ => none
  | .queueEnable who _ => some who
  | .monitorCall _ _ _ _ _ _ _ => none
  | .monitorCallTimeout _ => none
  | .scret _ => none
  | .random => none
  | .keyDerive => none
  | .keyDestroy => none
  | .keyInfo => none
  | .keyExport => none
  | .keyImport => none
  | .keyPublic => none
  | .measureRead => none
  | .debugChallenge _ => none
  | .debugToken _ _ => none
  | .headwaterRestart who => some who
  | .headwaterWatchdogExpire => none
  | .remaskRound => none
  | .trngHealthFail => none
  | .tamperRaise _ _ => none
  | .zeroiseClear _ => none
  | .attestationNonce _ => none
  | .attestationQuoteReady => none
  | .lostBlock _ => none
  | .worldAssign who _ _ => some who
  | .dopRead _ _ => none
  | .dopWrite _ _ => none
  | .dopWritePart _ _ => none
  | .partStagingTimeout _ => none
  | .arpRequest _ _ => none
  | .icmpEcho _ _ => none
  | .sdoDownloadInitiate _ => none
  | .sdoDownloadSegment _ => none
  | .sdoUploadInitiate _ => none
  | .sdoUploadSegment _ => none
  | .sdoTimeout _ => none
  | .odEddyRead _ => none
  | .odEddyWrite _ => none
  | .wsnExpire _ => none
  | .sounding _ _ _ => none
  | .serviceKeyChange _ => none
  | .braidIdChange _ => none
  | .cardRemoved => none
  | .powerOnReset => none
  | .fullReset who => some who
  | .startLate => none
  | .powerRequestRun who => some who
  | .powerRequestTrim who => some who
  | .powerRequestStandby who => some who
  | .powerRequestSleep who => some who
  | .powerEntryContinue => none
  | .sleepEntryTimeout => none
  | .wakeFromStandby => none
  | .wakeFromSleep => none
  | .wakeCheck who => some who
  | .wakeCheckTimeout => none
  | .lockSet who _ => some who
  | .logicSupplyLoss => none
  | .updateCopy who _ => some who
  | .copyDone _ => none
  | .updateAbort who _ => some who
  | .updateActivate who _ => some who
  | .updateActivateReset who _ => some who
  | .updateConfirm who _ => some who
  | .confirmTimeout => none
  | .transceiverFault _ => none
  | .claimLineFault => none
  | .trngHealthRecover => none
  | .cardInserted _ => none
  | .logicInputChange _ _ => none
  | .tapDebugAccess _ => none

/-- The master numbers of R326, and the number that stands for the hardware itself. -/
def masters : List Nat :=
  [0x00, 0x01, 0x02, 0x03, 0x04, 0x08, 0x09, 0x0A, 0x0B, 0x10, 0x11, 0x12, 0x13, 0x14, 0x15, 0xFF] ++ (List.range 32).map (0x20 + ·)

/-- A well-formed command. -/
def Instr.wellFormed (i : Instr) : Bool :=
  i.limits.all (fun x => x.1 < x.2) && i.block.all (· < 256) && i.sender.all (masters.contains ·.master)

end Sys2Proof
end

