-- ==== Sys2Proof/Safety.lean ====
section
/-!
DEFINITION. The terms in which the statements speak: what stays as it was, and the canonical form of memory.
-/
namespace Sys2Proof

open Sys2Proof.Machine

/-- Every register field instance that is not listed reads in `t` as in `s`. -/
def changesOnly (s t : State) (ws : List (Fld × Nat)) : Prop := ∀ f i, (f, i) ∉ ws → t.rd f i = s.rd f i

/-- Every field that is not listed, in every instance, reads in `t` as in `s`. -/
def changesFields (s t : State) (fs : List Fld) : Prop := ∀ f i, f ∉ fs → t.rd f i = s.rd f i

/-- Every byte of memory reads in `t` as in `s`. -/
def keepsMemory (s t : State) : Prop := ∀ a, t.byteAt a = s.byteAt a

/-- Every byte of memory outside the `n` bytes from `a` on reads in `t` as in `s`. -/
def storesAt (s t : State) (a n : Nat) : Prop := ∀ x, x < a ∨ a + n ≤ x → t.byteAt x = s.byteAt x

/-- Memory and the eMMC stand in their canonical form. -/
def memoryWf (s : State) : Prop := Memory.wf s.mem = true ∧ Memory.wf s.emmc = true

/-- Every command that waits is well-formed. -/
def queueWf (s : State) : Prop := s.pending.all Instr.wellFormed = true

end Sys2Proof
end

