-- ==== Sys2Proof/Certificates/Slice0/Obligations.lean ====
section
/-!
DEFINITION. The statements about the model, for the provers. Each docstring names the rules of the manual that it speaks
of. A statement about one command says when the command completes with its own effect, what the next state holds, and what
it leaves. `t = { s with … := t.… }` says that every part of the state that is not named is as before.
-/
open Sys2Proof Sys2Proof.Machine

/-- A record that the mirror carries in SEQ order (R302, R315): every record but the standby's completion marks and its update
state, which it sends without a SEQ of their own. -/
def takenInOrder : BraidRec → Bool
  | .sent _ _ _ | .update _ _ _ => false
  | _ => true

/-- The commands that act whatever the power state: those of the dies, of the pins and of the always-on domain. -/
def actsUnpowered : Instr → Bool
| .rampComplete _ | .inrushWindowEnd _ | .pwmEdge _ _ | .millisecondMean _ _ _ _ _ _ | .openLoadOff _ _ | .extvChange _
  _ | .openLoadOn _ | .reverseBlock _ | .reverseResume _ | .sheddingRoundStart _ | .shedStep _ | .currentLimitEngage _ _
  | .shortTrip _ | .limitTrip _ | .thermalShutdown _ _ | .thermalLatchRelease _ _ | .retryAttempt _ | .retryCountReset _
  | .clampPulseEnd _ _ | .spillwayBucket _ | .feedUndervoltage _ | .undervoltageRestart _ | .feedDip _ _ | .dieReset _ |
  .dieStart _ | .floodgateOffAndLatch _ | .watchdogExpire _ | .failsafeCommitDone _ _ _ | .fieldInputChange _ _ |
  .debounceAccept _ | .readbackHoldEnd _ | .fieldOutputOvertemp _ | .fieldOutputOtpRecover _ | .wakeUpPattern _ |
  .wakeLinePulse _ | .partnerClaimReleased | .bloopChange _ | .debugHalt _ | .tamperRaise _ _ | .serviceKeyChange _ |
  .braidIdChange _ | .cardRemoved | .powerOnReset | .wakeFromStandby | .wakeFromSleep | .logicSupplyLoss |
  .transceiverFault _ | .cardInserted _ | .logicInputChange _ _ | .tapDebugAccess _ => true
  | _ => false

/-- The master that sends a command, of those that a master sends. -/
def sentBy : Instr → Option Initiator
| .registerWrite who _ _ | .readClear who _ _ | .eventCommit who _ | .eventCancel who _ | .channelOff who _ | .channelOn
  who _ | .channelOnHard who _ | .channelPwm who _ _ | .thermalLatchClear who _ | .protectionClear who _ |
  .spillwayUnlock who _ | .floodgateSoftwareTrigger who _ | .watchdogServe who _ _ | .failsafeResume who _ |
  .failsafeCommit who _ | .fieldOutputOff who _ | .fieldOutputOn who _ | .canEnable who _ | .canDisable who _ |
  .canTxPush who _ _ | .canRecover who _ | .canRelease who _ _ | .canCancelHead who _ _ | .canCancelLevel who _ _ |
  .canMoveChannel who _ _ _ _ | .canMovePartner who _ _ _ | .routeEntryCommit who _ _ | .routeEntryClear who _ _ |
  .sleepRequest who _ | .hostQueueDoorbell who _ _ | .cfTableCommit who _ _ | .cfTableRemove who _ _ | .ptpClockSet who
  | .ptpClockStep who _ | .keepalive who | .claimRelease who | .plannedSwap who | .adopt who | .resyncStart who |
  .stateRegionReady who _ | .pairRestart who _ | .pairSelftest who _ _ | .uncorrectableError who _ _ | .eddyPush who _ _
  _ | .eddyDoorbell who _ _ | .eddyPop who _ _ | .lockAcquire who _ | .lockRelease who _ | .deltaDoorbell who _ _ |
  .deltaShareWrite who _ _ | .queueEnable who _ | .headwaterRestart who | .worldAssign who _ _ | .fullReset who |
  .powerRequestRun who | .powerRequestTrim who | .powerRequestStandby who | .powerRequestSleep who | .wakeCheck who |
  .lockSet who _ | .updateCopy who _ | .updateAbort who _ | .updateActivate who _ | .updateActivateReset who _ |
  .updateConfirm who _ => some who
  | _ => none

/-- 00_scope.md, opcode_table.json: Step of a state with the command c at the front of its queue is exec of c on the state
with the rest of the queue. On an empty queue the step lets one MILL tick pass, in which the object engine gives the
answers that are due: the model's choice (log entry 1). -/
def Obligations.StepRunsTheFrontCommand : Prop :=
  (∀ (s : State) (c : Instr) (l : List Instr), step { s with pending := c :: l } = exec c { s with pending := l })
    ∧ (∀ (s : State), step { s with pending := [] } = .next (({ s with pending := [] } : State).advance 1).odPoll)

/-- R79, R182, R186, R443, R445: In State.reset memory and the eMMC stand in their canonical form and no command waits; the
power state reads START, the cause of the reset is 1, SYS_SLPTO is 30, no lock is set, Millrace is off, every load
channel reads OFF and no die has been served. -/
def Obligations.ResetStateIsCanonical : Prop :=
  (memoryWf State.reset)
    ∧ (State.reset.pending = [] ∧ State.reset.rd .SYS_PWR_STAT_STATE = 0 ∧ State.reset.rd .SYS_RSTCAUSE_CAUSE = 1 ∧
      State.reset.rd .SYS_SLPTO = 30 ∧ State.reset.rd .LK_STAT_LOCKS = 0 ∧ State.reset.rd .MR_STAT_STATE = 0)
    ∧ (∀ (k : Nat), k < 32 → State.reset.rd .SL_STAT_STATE k = 0)
    ∧ (∀ (g : Nat), g < 4 → State.reset.rd .SL_WD_STAT_SERVED g = 0)

/-- 00_scope.md, opcode_table.json: Whatever command runs, and whatever it does to the block, the commands that wait behind
it wait on in their order. -/
def Obligations.CommandsKeepTheQueue : Prop :=
  ∀ (s t : State) (c : Instr), exec c s = .next t → t.pending = s.pending

/-- R1, R2, R478: For every state in which each register field holds a value that its bits can hold, each field does so
after any step that answers a next state, whatever command stands in front. -/
def Obligations.FieldsStayInWidth : Prop :=
  ∀ (s t : State), (∀ f i, s.rd f i < 2 ^ (Fld.info f).width) → step s = .next t → ∀ f i, t.rd f i < 2 ^ (Fld.info
    f).width

/-- R335, R338: For every state whose memory and eMMC stand in canonical form (addresses strictly rising, no byte listed
that reads so unlisted), they do so after any step that answers a next state: equal memories stay equal data. -/
def Obligations.MemoryStaysCanonical : Prop :=
  ∀ (s t : State), memoryWf s → step s = .next t → memoryWf t

/-- R79, R53: PHASE_TIME_READ, whatever Millrace does: the command completes; MR_NOW_LO and the answer hold the low 32 bits
of phase time, MR_NOW_HI latches the high 16 bits and the kind of time; nothing else changes. (The unit is awake: R334.) -/
def Obligations.PhaseTimeReadLatchesHigh : Prop :=
  ∀ (s : State), s.awake = true → ∃ t, exec (.phaseTimeRead) s = .next t ∧ t.rd .MR_NOW_LO = s.phase % 2 ^ 32 ∧ t.rd
    .MR_NOW_HI_TIME = s.phase / 2 ^ 32 % 2 ^ 16 ∧ t.rd .MR_NOW_HI_KIND = s.stampKind % 4 ∧ t.resp = .value (s.phase % 2
    ^ 32) ∧ changesOnly s t [(.MR_NOW_LO, 0), (.MR_NOW_HI_TIME, 0), (.MR_NOW_HI_KIND, 0)] ∧ t =
    { s with regs := t.regs, resp := t.resp }

/-- R58, R78, R317: MILLRACE_ENABLE from a disabled Millrace with an external source leads to EN = 1 and ACQUIRE;
MILLRACE_DISABLE, while no event entry, Gauge, reference channel or association needs phase time, leads to EN = 0 and
OFF. Both count as an accepted configuration write. (The unit is awake: R334.) -/
def Obligations.MillraceEnableAndDisable : Prop :=
  (∀ (s : State), s.flag .MR_CTL_EN = false → s.rd .MR_CTL_SRC ≠ 4 → s.awake = true → ∃ t, exec (.millraceEnable) s =
      .next t ∧ t.rd .MR_CTL_EN = 1 ∧ t.rd .MR_STAT_STATE = 1 ∧ t.rd .BR_CONFGEN = (s.rd .BR_CONFGEN + 1) % 2 ^ 32 ∧
      changesOnly s t [(.MR_CTL_EN, 0), (.MR_STAT_STATE, 0), (.MR_STAT_INTREF, 0), (.BR_CONFGEN, 0)] ∧ t =
      { s with regs := t.regs, mr := t.mr, resp := t.resp })
    ∧ (∀ (s : State), s.flag .MR_CTL_EN = true → s.evt = [] → s.flag .GA_CTL_EN = false → s.rd .MR_REFCH = 0 → s.flag
      .MR_ASSOC_CTL_EN = false → s.awake = true → ∃ t, exec (.millraceDisable) s = .next t ∧ t.rd .MR_CTL_EN = 0 ∧ t.rd
      .MR_STAT_STATE = 0 ∧ t.rd .BR_CONFGEN = (s.rd .BR_CONFGEN + 1) % 2 ^ 32 ∧ changesOnly s t [(.MR_CTL_EN, 0),
      (.MR_STAT_STATE, 0), (.MR_STAT_INTREF, 0), (.BR_CONFGEN, 0), (.GA_STAT_ACTIVE, 0)] ∧ t =
      { s with regs := t.regs, mr := t.mr, gauge := t.gauge, resp := t.resp })

/-- R56, R59, R61: On a unit that is not a standby, in LOCKED with a single external source: a crossing whose error is below
5 us keeps LOCKED and gives MR_FREQ; a lost sense sets LOSS, whose interrupt line is then high, and enters HOLDOVER with
a new count of held turns. (The unit is awake: R334.) -/
def Obligations.LockedCrossingTracksAndLossHolds : Prop :=
  (∀ (s : State) (dt freq oks : Nat) (rev settled : Bool), s.rd .MR_STAT_STATE = 2 → s.standby = false → freq < 2 ^ 24 →
      inBand freq = true → s.mr.bad = 0 → below5 (s.advance dt).crossErr freq = true → s.awake = true → ∃ t, exec
      (.zeroCrossing dt freq oks rev settled) s = .next t ∧ t.rd .MR_FREQ = freq ∧ t.rd .MR_STAT_STATE = 2 ∧ t.rd
      .MR_STAT_LOK = oks % 8 ∧ t.now = s.now + dt ∧ changesOnly s t [(.MR_STAT_LOK, 0), (.MR_PHERR, 0), (.MR_FREQ, 0)] ∧
      t = { s with regs := t.regs, mr := t.mr, now := t.now })
    ∧ (∀ (s : State) (oks : Nat), s.rd .MR_STAT_STATE = 2 → s.rd .MR_CTL_SRC < 3 → s.standby = false → s.awake = true → ∃ t,
      exec (.senseLost oks false) s = .next t ∧ t.rd .MR_STAT_STATE = 3 ∧ t.rd .MR_STAT_LOSS = 1 ∧ t.rd .MR_HOLD_TURNS =
      0 ∧ t.irqLine 17 = true ∧ changesOnly s t [(.MR_STAT_LOK, 0), (.MR_STAT_LOSS, 0), (.MR_STAT_STATE, 0),
      (.MR_STAT_INTREF, 0), (.MR_HOLD_TURNS, 0)] ∧ t = { s with regs := t.regs, mr := t.mr })

/-- R53, R73, R76, R65, R321: TURN_BOUNDARY while phase time runs starts the next turn at the tick at which the angle wraps,
and an ALONE unit whose partner waits in SYNC takes its snapshot there; ASSOCIATION_ACCEPT with STEP set clears STEP and
keeps the step for the boundary; REFERENCE_FRAME_WITHDRAW withdraws, at half a turn, every reference frame that is not
under transmission and no other. (The unit is awake: R334.) -/
def Obligations.BoundaryAssociationAndWithdrawal : Prop :=
  (∀ (s : State), s.phaseRuns = true → s.standby = false → s.awake = true → exec (.turnBoundary) s = .next (if (s.nextTurn
      (s.tickAt (2 ^ 24))).brState = 6 && (s.nextTurn (s.tickAt (2 ^ 24))).braid.syncDue && (s.nextTurn (s.tickAt (2 ^
      24))).rd .BR_PEER % 16 = 3 then (s.nextTurn (s.tickAt (2 ^ 24))).syncStart else s.nextTurn (s.tickAt (2 ^ 24))))
    ∧ (∀ (s : State), s.flag .MR_ASSOC_CTL_STEP = true → s.awake = true → ∃ t, exec (.associationAccept) s = .next t ∧ t.rd
      .MR_ASSOC_CTL_STEP = 0 ∧ t.mr.accept = true ∧ changesOnly s t [(.MR_ASSOC_CTL_STEP, 0)] ∧ t =
      { s with regs := t.regs, mr := t.mr, resp := t.resp })
    ∧ (∀ (s : State), s.phaseRuns = true → s.awake = true → ∃ t, exec (.referenceFrameWithdraw) s = .next t ∧ t.now = max
      s.now (s.tickAt 0x800000) ∧ (∀ k, k < 16 → (t.cn k).refFrame = if (s.cn k).tx = some .reference then (s.cn
      k).refFrame else none) ∧ changesOnly s t [(.MR_STAT_REFLATE, 0)] ∧ t =
      { s with regs := t.regs, can := t.can, now := t.now })

/-- R68, R70, R72, R310: On a unit in single mode, with no other commit waiting for the journal and the entry named not due
in this tick: EVENT_COMMIT of a valid staged entry that passes the tests of R70, with room in the journal, completes
with CODE 0 and the entry in the table under its journal sequence; EVENT_CANCEL of a valid entry that the sender owns
completes with CODE 0 and leaves the entry invalid. (The master that sends a command runs: R334.) -/
def Obligations.EventCommitAndCancelTakeEffect : Prop :=
  (∀ (s : State) (who : Initiator) (i : Nat), i < 1024 → s.pairMode = false → s.braid.arrived = [] → s.evtWaiting = [] →
      s.dueNow.contains i = false → (s.stagedEvt (s.worldOf who)).valid = true → s.commitCode (s.worldOf who) i
      (s.stagedEvt (s.worldOf who)) = 0 → s.jRoom (.evt i (s.stagedEvt (s.worldOf who)) false) = true → s.masterRuns who
      = true → ∃ t, exec (.eventCommit who i) s = .next t ∧ t.rd .MR_EVT_RESULT_CODE = 0 ∧ t.rd .MR_EVT_RESULT_BUSY = 0
      ∧ t.entry i = { (s.stagedEvt (s.worldOf who)) with jseq := s.braid.jseq })
    ∧ (∀ (s : State) (who : Initiator) (i : Nat), i < 1024 → s.pairMode = false → s.braid.arrived = [] → s.evtWaiting = [] →
      s.dueNow.contains i = false → s.phaseRuns = true → (s.entry i).valid = true → (s.entry i).w2 < 2 ^ 32 → owns
      (s.worldOf who) (s.entry i).world = true → s.jRoom (.evt i {} true) = true → s.masterRuns who = true → ∃ t, exec
      (.eventCancel who i) s = .next t ∧ t.rd .MR_EVT_RESULT_CODE = 0 ∧ t.rd .MR_EVT_RESULT_BUSY = 0 ∧ (t.entry i).valid
      = false)

/-- R69, R71, R72, R428: EVENT_DISPATCH while phase time runs, with one due entry whose target is a mark and that does not
repeat: the mark goes to the event log with the next event number and the entry's world, the entry is free, and no load,
field or CAN channel changes. (The unit is awake: R334.) -/
def Obligations.DueMarkDispatchesOnce : Prop :=
  ∀ (s : State) (i : Nat), s.phaseRuns = true → s.dueNow = [i] → (s.entry i).valid = true → (s.entry i).w2 < 2 ^ 32 →
    (s.entry i).ttype = 5 → (s.entry i).w3 = 0 → s.eseq < 0xFFFFFFFF → s.awake = true → ∃ t, exec (.eventDispatch) s =
    .next t ∧ (t.entry i).valid = false ∧ t.eseq = s.eseq + 1 ∧ t.elog.head? = some ⟨s.stamp, s.eseq + 1, 0x02, 0x04,
    0x04, (s.entry i).world.code, leBytes 2 (s.entry i).param⟩ ∧ t.chan = s.chan ∧ t.io = s.io ∧ t.can = s.can

/-- R84, R317, R111, R113: MAP_COMMIT: where no two valid cells share channel, node and slot, every valid cell lies in a
valid string, no two valid strings share a cell index, each ends by 6,144, has 1 to 512 cells and names a valid source,
and no commit is pending, CODE reads 0, the maps wait for the boundary with PENDING set, and the configuration
generation advances. Two valid cells in one place give CODE 1; else a cell in no valid string gives CODE 2; where only
the pending commit stands in the way, CODE is 6. Whatever condition the check of R84 reports first, CODE and INDEX hold
it and no map changes. GEOMETRY_COMMIT with none pending sets PENDING and is an accepted configuration write; with one
pending it sets REFUSED and nothing else. REINIT_CELL of a cell index below 6,144 marks that cell alone for
initialisation; REINIT_ALL marks all. (The unit is awake: R334.) -/
def Obligations.GaugeMapsGeometryAndInitialisation : Prop :=
  (∀ (s : State), (∀ c ∈ s.mapShadows.cells, ∀ d ∈ s.mapShadows.cells, c.1 ≠ d.1 → bits c.2 0 16 ≠ bits d.2 0 16) → (∀ c ∈
      s.mapShadows.cells, ∃ i ∈ List.range 24, strHolds (s.rd .GA_STRMAP_SH i) c.1 = true) → (∀ i ∈ List.range 24, ∀ j ∈
      List.range 24, i ≠ j → bit (s.rd .GA_STRMAP_SH i) 31 = true → bit (s.rd .GA_STRMAP_SH j) 31 = true → bits (s.rd
      .GA_STRMAP_SH i) 0 13 + bits (s.rd .GA_STRMAP_SH i) 13 10 ≤ bits (s.rd .GA_STRMAP_SH j) 0 13 ∨ bits (s.rd
      .GA_STRMAP_SH j) 0 13 + bits (s.rd .GA_STRMAP_SH j) 13 10 ≤ bits (s.rd .GA_STRMAP_SH i) 0 13) → (∀ i ∈ List.range
      24, bit (s.rd .GA_STRMAP_SH i) 31 = true → bits (s.rd .GA_STRMAP_SH i) 0 13 + bits (s.rd .GA_STRMAP_SH i) 13 10 ≤
      6144) → (∀ i ∈ List.range 24, bit (s.rd .GA_STRMAP_SH i) 31 = true → 1 ≤ bits (s.rd .GA_STRMAP_SH i) 13 10 ∧ bits
      (s.rd .GA_STRMAP_SH i) 13 10 ≤ 512) → (∀ i ∈ List.range 24, bit (s.rd .GA_STRMAP_SH i) 31 = true → bits (s.rd
      .GA_STRMAP_SH i) 23 5 < 24 ∧ bit (s.rd .GA_SRCMAP_SH (bits (s.rd .GA_STRMAP_SH i) 23 5)) 31 = true) → s.flag
      .GA_MAP_RESULT_PENDING = false → s.awake = true → ∃ t, exec (.mapCommit) s = .next t ∧ t.rd .GA_MAP_RESULT_CODE =
      0 ∧ t.rd .GA_MAP_RESULT_PENDING = 1 ∧ t.gauge = { s.gauge with pend := some s.mapShadows } ∧ t.rd .BR_CONFGEN =
      (s.rd .BR_CONFGEN + 1) % 2 ^ 32 ∧ changesOnly s t [(.GA_MAP_RESULT_CODE, 0), (.GA_MAP_RESULT_INDEX, 0),
      (.GA_MAP_RESULT_PENDING, 0), (.BR_CONFGEN, 0)] ∧ t = { s with regs := t.regs, gauge := t.gauge, resp := t.resp })
    ∧ (∀ (s : State) (c d : Nat × Nat), c ∈ s.mapShadows.cells → d ∈ s.mapShadows.cells → c.1 ≠ d.1 → bits c.2 0 16 = bits d.2
      0 16 → s.awake = true → ∃ t, exec (.mapCommit) s = .next t ∧ t.rd .GA_MAP_RESULT_CODE = 1 ∧ changesOnly s t
      [(.GA_MAP_RESULT_CODE, 0), (.GA_MAP_RESULT_INDEX, 0)] ∧ t = { s with regs := t.regs, resp := t.resp })
    ∧ (∀ (s : State) (c : Nat × Nat), (∀ c ∈ s.mapShadows.cells, ∀ d ∈ s.mapShadows.cells, c.1 ≠ d.1 → bits c.2 0 16 ≠ bits
      d.2 0 16) → c ∈ s.mapShadows.cells → (∀ i ∈ List.range 24, strHolds (s.rd .GA_STRMAP_SH i) c.1 = false) → s.awake
      = true → ∃ t, exec (.mapCommit) s = .next t ∧ t.rd .GA_MAP_RESULT_CODE = 2 ∧ changesOnly s t
      [(.GA_MAP_RESULT_CODE, 0), (.GA_MAP_RESULT_INDEX, 0)] ∧ t = { s with regs := t.regs, resp := t.resp })
    ∧ (∀ (s : State), (∀ c ∈ s.mapShadows.cells, ∀ d ∈ s.mapShadows.cells, c.1 ≠ d.1 → bits c.2 0 16 ≠ bits d.2 0 16) → (∀ c ∈
      s.mapShadows.cells, ∃ i ∈ List.range 24, strHolds (s.rd .GA_STRMAP_SH i) c.1 = true) → (∀ i ∈ List.range 24, ∀ j ∈
      List.range 24, i ≠ j → bit (s.rd .GA_STRMAP_SH i) 31 = true → bit (s.rd .GA_STRMAP_SH j) 31 = true → bits (s.rd
      .GA_STRMAP_SH i) 0 13 + bits (s.rd .GA_STRMAP_SH i) 13 10 ≤ bits (s.rd .GA_STRMAP_SH j) 0 13 ∨ bits (s.rd
      .GA_STRMAP_SH j) 0 13 + bits (s.rd .GA_STRMAP_SH j) 13 10 ≤ bits (s.rd .GA_STRMAP_SH i) 0 13) → (∀ i ∈ List.range
      24, bit (s.rd .GA_STRMAP_SH i) 31 = true → bits (s.rd .GA_STRMAP_SH i) 0 13 + bits (s.rd .GA_STRMAP_SH i) 13 10 ≤
      6144) → (∀ i ∈ List.range 24, bit (s.rd .GA_STRMAP_SH i) 31 = true → 1 ≤ bits (s.rd .GA_STRMAP_SH i) 13 10 ∧ bits
      (s.rd .GA_STRMAP_SH i) 13 10 ≤ 512) → (∀ i ∈ List.range 24, bit (s.rd .GA_STRMAP_SH i) 31 = true → bits (s.rd
      .GA_STRMAP_SH i) 23 5 < 24 ∧ bit (s.rd .GA_SRCMAP_SH (bits (s.rd .GA_STRMAP_SH i) 23 5)) 31 = true) → s.flag
      .GA_MAP_RESULT_PENDING = true → s.awake = true → ∃ t, exec (.mapCommit) s = .next t ∧ t.rd .GA_MAP_RESULT_CODE = 6
      ∧ changesOnly s t [(.GA_MAP_RESULT_CODE, 0), (.GA_MAP_RESULT_INDEX, 0)] ∧ t =
      { s with regs := t.regs, resp := t.resp })
    ∧ (∀ (s : State) (c i : Nat), s.mapShadows.check (s.flag .GA_MAP_RESULT_PENDING) = (c, i) → 0 < c → c < 8 → i < 2 ^ 13 →
      s.awake = true → ∃ t, exec (.mapCommit) s = .next t ∧ t.rd .GA_MAP_RESULT_CODE = c ∧ t.rd .GA_MAP_RESULT_INDEX = i
      ∧ changesOnly s t [(.GA_MAP_RESULT_CODE, 0), (.GA_MAP_RESULT_INDEX, 0)] ∧ t =
      { s with regs := t.regs, resp := t.resp })
    ∧ (∀ (s : State), s.flag .GE_GEOM_CMD_PENDING = false → s.awake = true → ∃ t, exec (.geometryCommit) s = .next t ∧ t.rd
      .GE_GEOM_CMD_PENDING = 1 ∧ t.rd .BR_CONFGEN = (s.rd .BR_CONFGEN + 1) % 2 ^ 32 ∧ changesOnly s t
      [(.GE_GEOM_CMD_PENDING, 0), (.BR_CONFGEN, 0)] ∧ t = { s with regs := t.regs, resp := t.resp })
    ∧ (∀ (s : State), s.flag .GE_GEOM_CMD_PENDING = true → s.awake = true → ∃ t, exec (.geometryCommit) s = .next t ∧ t.rd
      .GE_STAT_REFUSED = 1 ∧ changesOnly s t [(.GE_STAT_REFUSED, 0)] ∧ t = { s with regs := t.regs, resp := t.resp })
    ∧ (∀ (s : State) (c : Nat), c < 6144 → s.awake = true → ∃ t, exec (.reinitCell c) s = .next t ∧ oldCell t.gauge.cells c =
      { oldCell s.gauge.cells c with again := true } ∧ t.gauge.cells.tail = s.gauge.cells.filter (·.1 ≠ c) ∧ t.gauge =
      { s.gauge with cells := t.gauge.cells } ∧ t = { s with gauge := t.gauge, resp := t.resp })
    ∧ (∀ (s : State), s.awake = true → ∃ t, exec (.reinitAll) s = .next t ∧ t.gauge = { s.gauge with all := true } ∧ t =
      { s with gauge := t.gauge, resp := t.resp })

/-- R94, R97, R123, R124, R128: GAUGE_TURN_CLOSE on a unit in SINGLE, with nothing staged for Weir, closes the open turn
before the present one: its half is closed with its header, the boards and sources without an entered frame are counted,
and its pass may start. GAUGE_PASS_START on the turn that waits, with none running and phase time running, runs the pass
over that turn: the pass header names the turn and its length, no cell stays marked, and the pass is under way in its
half. GAUGE_PASS_DONE ends the running pass: DONE of its half and GE_DONE name its turn, GE_PASS_TIME is the time that
R124 gives, BUSY clears and DONE is set. (The unit is awake: R334.) -/
def Obligations.GaugePassRunsAndEnds : Prop :=
  (∀ (s : State) (n : Nat), s.phaseRuns = true → s.pairMode = false → s.rd .BR_STAT_STATE = 1 → (s.waitAngle (s.rd
      .GA_GUARD)).nextStaged = none → n = (s.mr.turn + 2 ^ 24 - 1) % 2 ^ 24 → (s.gt (n % 2)).isOpen = true → (s.gt (n %
      2)).turn = n → s.awake = true → ∃ t, exec (.gaugeTurnClose) s = .next t ∧ t.gauge.wait = some n ∧ (t.gt (n %
      2)).isOpen = false ∧ t.rd .GA_LAST_TURN = n ∧ t.word (halfBase (n % 2) + 0x3C000) = n ∧ t.rd .GA_CNT_MISSING = min
      (s.rd .GA_CNT_MISSING + ((s.gt (n % 2)).maps.boards.filter fun b => !(s.gt (n % 2)).seen b).length) (2 ^ 32 - 1) ∧
      t.rd .GA_CNT_CURMISS = min (s.rd .GA_CNT_CURMISS + ((List.range 24).filter fun i => bit ((s.gt (n %
      2)).maps.srcs.getD i 0) 31 && !((s.gt (n % 2)).keys.any (·.1 == 0x400000 + i))).length) (2 ^ 32 - 1) ∧ changesOnly
      s t [(.GA_STAT_SILENT, 0), (.GA_STAT_MISSING, 0), (.GA_STAT_ACTIVE, 0), (.GA_CNT_MISSING, 0), (.GA_CNT_CURMISS,
      0), (.GA_LAST_TURN, 0)] ∧ t = { s with regs := t.regs, mem := t.mem, gauge := t.gauge, now := t.now })
    ∧ (∀ (s : State) (n : Nat), s.phaseRuns = true → s.gauge.wait = some n → s.gauge.running = none → (s.gt (n % 2)).turn = n
      → n < 2 ^ 24 → (s.gt (n % 2)).len < 2 ^ 32 → s.awake = true → ∃ t, exec (.gaugePassStart) s = .next t ∧
      t.gauge.lastPassed = some n ∧ t.gauge.running.map (·.1) = some (n % 2) ∧ t.gauge.all = false ∧ t.gauge.geomNew =
      false ∧ t.word (gaugeSram + 0x161000 + n % 2 * 0x100) = n ∧ t.word (gaugeSram + 0x161000 + n % 2 * 0x100 + 0x14) =
      (s.gt (n % 2)).len)
    ∧ (∀ (s : State) (h n z e : Nat), s.gauge.running = some (h, n, z, e) → h < 2 → n ≤ 6144 → (s.gt h).turn < 2 ^ 24 →
      s.awake = true → ∃ t, exec (.gaugePassDone) s = .next t ∧ t.rd .GE_DONE_TURN = (s.gt h).turn ∧ t.rd .GE_DONE_VALID
      = 1 ∧ t.rd .GE_STAT_BUSY = 0 ∧ t.rd .GE_STAT_DONE = 1 ∧ t.rd .GE_PASS_TIME = (6080 + 1190 * ((n + 7) / 8)) / 4 ∧
      t.word (gaugeSram + 0x161000 + h * 0x100 + 0x2C) = (s.gt h).turn + 2 ^ 31 ∧ t.gauge =
      { s.gauge with running := none } ∧ t.irqs.contains 19 = true ∧ t.irqs.contains 20 = true ∧ storesAt s t (gaugeSram
      + 0x161000 + h * 0x100 + 0x0C) 0x24 ∧ changesOnly s t [(.GE_DONE_TURN, 0), (.GE_DONE_VALID, 0), (.GE_PASS_TIME,
      0), (.GE_PASS_MAX, 0), (.GE_STAT_BUSY, 0), (.GE_STAT_DONE, 0), (.BR_SEQ_LO, 0), (.BR_SEQ_HI, 0), (.CFP_CNT_FLUSH,
      9), (.CFP_CNT_BUFDROP, 9), (.CF_BUF_FREE, 0)] ∧ t =
      { s with regs := t.regs, mem := t.mem, gauge := t.gauge, irqs := t.irqs, braid := t.braid })

/-- R136, R137, R144: CHANNEL_OFF from an initiator whose world owns the channel, to a reachable die that does not refuse
it: a channel in RAMP, ON or PWM without a fault is OFF, its commanded state is off, its switch does not conduct, and
SRC names the command. (The master that sends a command runs: R334.) -/
def Obligations.ChannelOffTurnsOff : Prop :=
  ∀ (s : State) (who : Initiator) (k : Nat), k < 32 → s.dieReach (dieOf k) = true → owns (s.worldOf who) (s.chanWorld k) =
    true → s.cmdRefusal k 0 0 0 = 0 → 1 ≤ s.rd .SL_STAT_STATE k → s.rd .SL_STAT_STATE k ≤ 3 → s.rd .SL_PROT_STAT_CAUSE k
    = 0 → s.flag .SL_PROT_STAT_SPLOCK k = false → s.masterRuns who = true → ∃ t, exec (.channelOff who k) s = .next t ∧
    t.rd .SL_STAT_STATE k = 0 ∧ (t.ch k).cmdOn = false ∧ t.conducts k = false ∧ t.rd .SL_STAT_SRC k = 0 ∧ (∀ j, j < 32 →
    j = k ∨ t.ch j = s.ch j) ∧ changesOnly s t [(.SL_STAT_STATE, k), (.SL_STAT_SRC, k), (.SL_STAT_INRUSH, k),
    (.SL_STAT_LIMIT, k), (.SL_PROT_STAT_RETRY_PEND, k), (.SL_PROT_STAT_UVOFF, k), (.SL_PROT_STAT_FGON, k),
    (.SL_PROT_STAT_CLAMP, k), (.BR_SEQ_LO, 0), (.BR_SEQ_HI, 0), (.CFP_CNT_FLUSH, 9), (.CFP_CNT_BUFDROP, 9),
    (.CF_BUF_FREE, 0)] ∧ t =
    { s with regs := t.regs, chan := t.chan, braid := t.braid, resp := t.resp, free := t.free, ferry := t.ferry }

/-- R137, R138, R139, R142: A served group with its supply and no output gate, a channel in OFF without a fault, and a
command of R137 that the die does not refuse: CHANNEL_ON with MODE 0, and CHANNEL_ON_HARD in any mode that the die
takes, lead to ON with the switch conducting; CHANNEL_ON with MODE 1 leads to RAMP, and with MODE 2 to PWM with SL_DUTY;
CHANNEL_PWM leads to PWM with its duty; in PWM the switch conducts at once where the on phase is long enough. A hard
turn-on opens an inrush window where SL_INRUSH_T is not 0. (The master that sends a command runs: R334.) -/
def Obligations.ChannelTurnsOnInItsMode : Prop :=
  (∀ (s : State) (who : Initiator) (k : Nat), k < 32 → s.dieReach (dieOf k) = true → owns (s.worldOf who) (s.chanWorld k)
      = true → s.cmdRefusal k 1 0 0 = 0 → s.rd .SL_STAT_STATE k = 0 → s.rd .SL_CFG_MODE k = 0 → s.flag .SL_UV_STAT_UVOFF
      (dieOf k) = false → s.gated (dieOf k) = false → s.masterRuns who = true → ∃ t, exec (.channelOn who k) s = .next t
      ∧ t.rd .SL_STAT_STATE k = 2 ∧ (t.ch k).cmdOn = true ∧ t.conducts k = true ∧ t.rd .SL_STAT_SRC k = 0 ∧ t.rd
      .SL_STAT_INRUSH k = b2n (s.rd .SL_INRUSH_T k ≠ 0) ∧ changesOnly s t [(.SL_STAT_STATE, k), (.SL_STAT_SRC, k),
      (.SL_STAT_INRUSH, k), (.SL_STAT_OPENON, k), (.SL_PROT_STAT_UVOFF, k), (.SL_PROT_STAT_FGON, k),
      (.SL_PROT_STAT_CLAMP, k), (.BR_SEQ_LO, 0), (.BR_SEQ_HI, 0), (.CFP_CNT_FLUSH, 9), (.CFP_CNT_BUFDROP, 9),
      (.CF_BUF_FREE, 0)] ∧ t =
      { s with regs := t.regs, chan := t.chan, braid := t.braid, resp := t.resp, ferry := t.ferry })
    ∧ (∀ (s : State) (who : Initiator) (k : Nat), k < 32 → s.dieReach (dieOf k) = true → owns (s.worldOf who) (s.chanWorld k)
      = true → s.cmdRefusal k 1 0 0 = 0 → s.rd .SL_STAT_STATE k = 0 → s.rd .SL_CFG_MODE k = 1 → s.flag .SL_UV_STAT_UVOFF
      (dieOf k) = false → s.gated (dieOf k) = false → s.masterRuns who = true → ∃ t, exec (.channelOn who k) s = .next t
      ∧ t.rd .SL_STAT_STATE k = 1 ∧ (t.ch k).cmdOn = true ∧ (t.ch k).ramping = true ∧ t.conducts k = true ∧ changesOnly
      s t [(.SL_STAT_STATE, k), (.SL_STAT_SRC, k), (.SL_STAT_INRUSH, k), (.SL_STAT_OPENON, k), (.SL_PROT_STAT_UVOFF, k),
      (.SL_PROT_STAT_FGON, k), (.SL_PROT_STAT_CLAMP, k), (.BR_SEQ_LO, 0), (.BR_SEQ_HI, 0), (.CFP_CNT_FLUSH, 9),
      (.CFP_CNT_BUFDROP, 9), (.CF_BUF_FREE, 0)] ∧ t =
      { s with regs := t.regs, chan := t.chan, braid := t.braid, resp := t.resp, ferry := t.ferry })
    ∧ (∀ (s : State) (who : Initiator) (k : Nat), k < 32 → s.dieReach (dieOf k) = true → owns (s.worldOf who) (s.chanWorld k)
      = true → s.cmdRefusal k 1 0 0 = 0 → s.rd .SL_STAT_STATE k = 0 → s.rd .SL_CFG_MODE k = 2 → s.flag .SL_UV_STAT_UVOFF
      (dieOf k) = false → s.gated (dieOf k) = false → s.masterRuns who = true → ∃ t, exec (.channelOn who k) s = .next t
      ∧ t.rd .SL_STAT_STATE k = 3 ∧ (t.ch k).cmdOn = true ∧ (t.ch k).duty = s.rd .SL_DUTY k ∧ (t.ch k).cond = pwmOn
      (s.rd .SL_DUTY k) (s.rd .SL_PWMF k) ∧ changesOnly s t [(.SL_STAT_STATE, k), (.SL_STAT_SRC, k), (.SL_STAT_INRUSH,
      k), (.SL_STAT_OPENON, k), (.SL_PROT_STAT_UVOFF, k), (.SL_PROT_STAT_FGON, k), (.SL_PROT_STAT_CLAMP, k),
      (.BR_SEQ_LO, 0), (.BR_SEQ_HI, 0), (.CFP_CNT_FLUSH, 9), (.CFP_CNT_BUFDROP, 9), (.CF_BUF_FREE, 0)] ∧ t =
      { s with regs := t.regs, chan := t.chan, braid := t.braid, resp := t.resp, ferry := t.ferry })
    ∧ (∀ (s : State) (who : Initiator) (k : Nat), k < 32 → s.dieReach (dieOf k) = true → owns (s.worldOf who) (s.chanWorld k)
      = true → s.cmdRefusal k 2 0 0 = 0 → s.rd .SL_STAT_STATE k = 0 → s.flag .SL_UV_STAT_UVOFF (dieOf k) = false →
      s.gated (dieOf k) = false → s.masterRuns who = true → ∃ t, exec (.channelOnHard who k) s = .next t ∧ t.rd
      .SL_STAT_STATE k = 2 ∧ (t.ch k).cmdOn = true ∧ t.conducts k = true ∧ changesOnly s t [(.SL_STAT_STATE, k),
      (.SL_STAT_SRC, k), (.SL_STAT_INRUSH, k), (.SL_STAT_OPENON, k), (.SL_PROT_STAT_UVOFF, k), (.SL_PROT_STAT_FGON, k),
      (.SL_PROT_STAT_CLAMP, k), (.BR_SEQ_LO, 0), (.BR_SEQ_HI, 0), (.CFP_CNT_FLUSH, 9), (.CFP_CNT_BUFDROP, 9),
      (.CF_BUF_FREE, 0)] ∧ t =
      { s with regs := t.regs, chan := t.chan, braid := t.braid, resp := t.resp, ferry := t.ferry })
    ∧ (∀ (s : State) (who : Initiator) (k d : Nat), k < 32 → d ≤ 1000 → s.dieReach (dieOf k) = true → owns (s.worldOf who)
      (s.chanWorld k) = true → s.cmdRefusal k 3 d 0 = 0 → s.rd .SL_STAT_STATE k = 0 → s.flag .SL_UV_STAT_UVOFF (dieOf k)
      = false → s.gated (dieOf k) = false → s.masterRuns who = true → ∃ t, exec (.channelPwm who k d) s = .next t ∧ t.rd
      .SL_STAT_STATE k = 3 ∧ (t.ch k).cmdOn = true ∧ (t.ch k).duty = d ∧ (t.ch k).cond = pwmOn d (s.rd .SL_PWMF k) ∧
      changesOnly s t [(.SL_STAT_STATE, k), (.SL_STAT_SRC, k), (.SL_STAT_INRUSH, k), (.SL_STAT_OPENON, k),
      (.SL_PROT_STAT_UVOFF, k), (.SL_PROT_STAT_FGON, k), (.SL_PROT_STAT_CLAMP, k), (.BR_SEQ_LO, 0), (.BR_SEQ_HI, 0),
      (.CFP_CNT_FLUSH, 9), (.CFP_CNT_BUFDROP, 9), (.CF_BUF_FREE, 0)] ∧ t =
      { s with regs := t.regs, chan := t.chan, braid := t.braid, resp := t.resp, ferry := t.ferry })

/-- R138: An off, on, hard-on or PWM command of R137 that a reachable die refuses sets REFUSED and WHY of the channel and
changes no other register of the Sluice blocks but BUDGET of its die; the channel stays as it was. -/
def Obligations.RefusedChannelCommandChangesNothing : Prop :=
  ∀ (s : State) (who : Initiator) (k a d w : Nat) (c : Instr), k < 32 → (c, a, d) ∈ [(Instr.channelOff who k, 0, 0),
    (.channelOn who k, 1, 0), (.channelOnHard who k, 2, 0), (.channelPwm who k d, 3, d)] → s.dieReach (dieOf k) = true →
    owns (s.worldOf who) (s.chanWorld k) = true → s.rd .BR_STAT_STATE ≠ 5 → s.cmdRefusal k a d 0 = w → w ≠ 0 → w < 8 →
    s.masterRuns who = true → ∃ t, exec c s = .next t ∧ t.rd .SL_STAT_REFUSED k = 1 ∧ t.rd .SL_STAT_WHY k = w ∧ t.ch k =
    s.ch k ∧ changesOnly s t [(.SL_STAT_REFUSED, k), (.SL_STAT_WHY, k), (.SL_DIE_STAT_BUDGET, dieOf k)] ∧ t =
    { s with regs := t.regs, braid := t.braid, ferry := t.ferry, resp := t.resp }

/-- R135, R140, R141, R142: For the channel that acts for k (its pair's master): RAMP_COMPLETE leads from RAMP to ON, also
where a reverse block has cut the ramp and conduction has resumed; INRUSH_WINDOW_END closes an open window that no dip
pauses; PWM_EDGE in PWM takes over the new duty at the period start and opens the switch at the off edge. -/
def Obligations.RampWindowAndPwmEdges : Prop :=
  (∀ (s : State) (k : Nat), k < 32 → (s.ch (s.lead k)).ramping = true → s.rd .SL_STAT_STATE (s.lead k) = 1 → ∃ t, exec
      (.rampComplete k) s = .next t ∧ t.rd .SL_STAT_STATE (s.lead k) = 2 ∧ (t.ch (s.lead k)).ramping = false ∧
      changesOnly s t [(.SL_STAT_STATE, s.lead k)] ∧ t = { s with regs := t.regs, chan := t.chan })
    ∧ (∀ (s : State) (k : Nat), k < 32 → s.conducts (s.lead k) = true → s.rd .SL_STAT_STATE (s.lead k) = 1 → ∃ t, exec
      (.rampComplete k) s = .next t ∧ t.rd .SL_STAT_STATE (s.lead k) = 2 ∧ (t.ch (s.lead k)).ramping = false ∧
      changesOnly s t [(.SL_STAT_STATE, s.lead k)] ∧ t = { s with regs := t.regs, chan := t.chan })
    ∧ (∀ (s : State) (k : Nat), k < 32 → s.flag .SL_STAT_INRUSH (s.lead k) = true → s.flag .SL_UV_STAT_DIP (dieOf (s.lead k))
      = false → ∃ t, exec (.inrushWindowEnd k) s = .next t ∧ t.rd .SL_STAT_INRUSH (s.lead k) = 0 ∧ changesOnly s t
      [(.SL_STAT_INRUSH, s.lead k)] ∧ t = { s with regs := t.regs })
    ∧ (∀ (s : State) (k d : Nat), k < 32 → s.rd .SL_STAT_STATE (s.lead k) = 3 → (s.ch (s.lead k)).nextDuty = some d → ∃ t,
      exec (.pwmEdge k true) s = .next t ∧ (t.ch (s.lead k)).duty = d ∧ (t.ch (s.lead k)).nextDuty = none ∧ (t.ch
      (s.lead k)).cond = pwmOn d (s.rd .SL_PWMF (s.lead k)) ∧ t = { s with regs := t.regs, chan := t.chan })
    ∧ (∀ (s : State) (k : Nat), k < 32 → s.rd .SL_STAT_STATE (s.lead k) = 3 → pwmOff (s.ch (s.lead k)).duty (s.rd .SL_PWMF
      (s.lead k)) = true → s.flag .SL_PROT_STAT_SPLOCK (s.lead k) = false → ∃ t, exec (.pwmEdge k false) s = .next t ∧
      (t.ch (s.lead k)).cond = false ∧ t.rd .SL_STAT_STATE (s.lead k) = 3 ∧ changesOnly s t [(.SL_PROT_STAT_CLAMP,
      s.lead k)] ∧ t = { s with chan := t.chan, regs := t.regs, free := t.free })

/-- R149, R150, R151, R479: OPEN_LOAD_OFF sets OPENOFF where the pin of an off channel with OLOFF stands from 3.5 V to below
8.0 V, clears it below 2.0 V, and changes nothing at any other voltage; EXTV_CHANGE sets EXTV above 8.0 V and clears it
below; OPEN_LOAD_ON sets OPENON once the count reaches OLTIME; REVERSE_BLOCK stops conduction with REV set and leaves
STATE, REVERSE_RESUME gives it back; CURRENT_LIMIT_ENGAGE sets and clears LIMIT. -/
def Obligations.OpenLoadReverseAndLimiter : Prop :=
  (∀ (s : State) (k mv : Nat), k < 32 → s.flag .SL_CFG_OLOFF k = true → s.rd .SL_STAT_STATE k = 0 → 3500 ≤ mv → mv < 8000
      → ∃ t, exec (.openLoadOff k mv) s = .next t ∧ t.flag .SL_STAT_OPENOFF k = true ∧ changesOnly s t
      [(.SL_STAT_OPENOFF, k)] ∧ t = { s with regs := t.regs, irqs := t.irqs })
    ∧ (∀ (s : State) (k mv : Nat), k < 32 → 2000 ≤ mv → (mv < 3500 ∨ 8000 ≤ mv) → exec (.openLoadOff k mv) s = .next (s))
    ∧ (∀ (s : State) (k mv : Nat), k < 32 → s.flag .SL_CFG_OLOFF k = true → s.rd .SL_STAT_STATE k = 0 → mv < 2000 → ∃ t, exec
      (.openLoadOff k mv) s = .next t ∧ t.rd .SL_STAT_OPENOFF k = 0 ∧ changesOnly s t [(.SL_STAT_OPENOFF, k)] ∧ t =
      { s with regs := t.regs })
    ∧ (∀ (s : State) (k mv : Nat), k < 32 → s.flag .SL_CFG_OLOFF k = true → s.rd .SL_STAT_STATE k = 0 → 8000 < mv → ∃ t, exec
      (.extvChange k mv) s = .next t ∧ t.flag .SL_STAT_EXTV k = true ∧ changesOnly s t [(.SL_STAT_EXTV, k)] ∧ t =
      { s with regs := t.regs, irqs := t.irqs })
    ∧ (∀ (s : State) (k mv : Nat), k < 32 → mv < 8000 → ∃ t, exec (.extvChange k mv) s = .next t ∧ t.rd .SL_STAT_EXTV k = 0 ∧
      changesOnly s t [(.SL_STAT_EXTV, k)] ∧ t = { s with regs := t.regs })
    ∧ (∀ (s : State) (k : Nat), k < 32 → s.flag .SL_CFG_OLON (s.lead k) = true → s.rd .SL_OLTIME (s.lead k) ≤ (s.ch (s.lead
      k)).olCount → ∃ t, exec (.openLoadOn k) s = .next t ∧ t.flag .SL_STAT_OPENON (s.lead k) = true ∧ changesOnly s t
      [(.SL_STAT_OPENON, s.lead k)] ∧ t = { s with regs := t.regs, irqs := t.irqs })
    ∧ (∀ (s : State) (k : Nat), k < 32 → s.conducts (s.lead k) = true → ∃ t, exec (.reverseBlock k) s = .next t ∧ t.rd
      .SL_STAT_REV k = 1 ∧ t.conducts (s.lead k) = false ∧ changesOnly s t [(.SL_STAT_REV, k)] ∧ t =
      { s with regs := t.regs, chan := t.chan, irqs := t.irqs })
    ∧ (∀ (s : State) (k : Nat), k < 32 → (s.ch (s.lead k)).rev = true → (s.ch (s.lead k)).cond = true → ∃ t, exec
      (.reverseResume k) s = .next t ∧ t.conducts (s.lead k) = true ∧ t = { s with chan := t.chan })
    ∧ (∀ (s : State) (k : Nat), k < 32 → s.conducts (s.lead k) = true → ∃ t, exec (.currentLimitEngage k true) s = .next t ∧
      t.rd .SL_STAT_LIMIT (s.lead k) = 1 ∧ changesOnly s t [(.SL_STAT_LIMIT, s.lead k)] ∧ t = { s with regs := t.regs })
    ∧ (∀ (s : State) (k : Nat), k < 32 → ∃ t, exec (.currentLimitEngage k false) s = .next t ∧ t.rd .SL_STAT_LIMIT (s.lead k)
      = 0 ∧ changesOnly s t [(.SL_STAT_LIMIT, s.lead k)] ∧ t = { s with regs := t.regs })

/-- R147, R148, R154: MILLISECOND_MEAN on a die with supply takes the feed voltage and the next record number;
STREAM_RECORD_DEPOSIT on a die that is up and answers its polls of a unit that is not a standby advances SL_STRM_WR in
its ring of 256 and stores the 48 bytes of its entry alone; TURN_RECORD_DEPOSIT while phase time runs stores into the
half of the turn just ended alone and writes DONE with its number. SHEDDING_ROUND_START on a group that has been over
budget for SL_SHED_T milliseconds, and SHED_STEP while it is still above the limit less hysteresis, shed the next
candidate, which reads SHED; SHED_STEP ends the round once the feed sum is no more than the limit less hysteresis. (The
unit is awake: R334.) -/
def Obligations.RecordsAreDepositedAndShedding : Prop :=
  (∀ (s : State) (g : Nat) (coarse fine onp tj : List Int) (feed : Int), g < 4 → (s.di g).up = true → 0 ≤ feed → feed < 2
      ^ 23 → ∃ t, exec (.millisecondMean g coarse fine onp feed tj) s = .next t ∧ t.rdI .SL_FEED_V g = feed ∧ (t.di
      g).seq = ((s.di g).seq + 1) % 65536 ∧ t = { s with regs := t.regs, chan := t.chan, die := t.die })
    ∧ (∀ (s : State) (g : Nat), g < 4 → s.dieHeard g = true → s.standby = false → s.rd .SL_STRM_WR g < 256 → s.awake = true →
      ∃ t, exec (.streamRecordDeposit g) s = .next t ∧ t.rd .SL_STRM_WR g = (s.rd .SL_STRM_WR g + 1) % 256 ∧ storesAt s
      t (dieWindow g + 0x8000 + 0x30 * s.rd .SL_STRM_WR g) 0x30 ∧ t =
      { s with regs := t.regs, mem := t.mem, braid := t.braid })
    ∧ (∀ (s : State) (g c : Nat) (l : List Int), g < 4 → s.dieHeard g = true → s.standby = false → s.phaseRuns = true → 1 ≤
      s.mr.turn → s.mr.turn < 2 ^ 24 → s.awake = true → ∃ t, exec (.turnRecordDeposit g c l) s = .next t ∧ t.word
      (dieWindow g + 0xB000 + (s.mr.turn - 1) % 2 * 0x40 + 0x3C) = s.mr.turn - 1 + 2 ^ 31 ∧ storesAt s t (dieWindow g +
      0xB000 + (s.mr.turn - 1) % 2 * 0x40) 0x40 ∧ t = { s with regs := t.regs, mem := t.mem, braid := t.braid })
    ∧ (∀ (s : State) (g k : Nat), g < 4 → s.flag .SL_DIE_STAT_SHEDDING g = false → s.flag .SL_UV_STAT_UVOFF g = false → s.rd
      .SL_SHED_T g ≤ (s.di g).overMs → s.shedPick g = some k → s.rd .SL_PROT_STAT_CAUSE k = 0 → s.flag
      .SL_PROT_STAT_SPLOCK k = false → ∃ t, exec (.sheddingRoundStart g) s = .next t ∧ t.rd .SL_STAT_STATE k = 4 ∧ (t.ch
      k).cmdOn = false ∧ t.rd .SL_DIE_STAT_SHEDDING g = 1 ∧ t.rd .SL_DIE_STAT_SHED g = 1 ∧ changesOnly s t
      [(.SL_STAT_STATE, k), (.SL_STAT_INRUSH, k), (.SL_STAT_LIMIT, k), (.SL_PROT_STAT_CLAMP, k), (.SL_DIE_STAT_SHEDDING,
      g), (.SL_DIE_STAT_SHED, g)] ∧ t = { s with regs := t.regs, chan := t.chan, free := t.free })
    ∧ (∀ (s : State) (g k : Nat), g < 4 → s.flag .SL_DIE_STAT_SHEDDING g = true → s.rdI .SL_FEED_SUM g > 20 * ((s.rd
      .SL_FEED_LIM g : Int) - (s.rd .SL_FEED_HYS g : Int)) → s.shedPick g = some k → s.rd .SL_PROT_STAT_CAUSE k = 0 →
      s.flag .SL_PROT_STAT_SPLOCK k = false → ∃ t, exec (.shedStep g) s = .next t ∧ t.rd .SL_STAT_STATE k = 4 ∧ (t.ch
      k).cmdOn = false ∧ t.rd .SL_DIE_STAT_SHED g = 1 ∧ changesOnly s t [(.SL_STAT_STATE, k), (.SL_STAT_INRUSH, k),
      (.SL_STAT_LIMIT, k), (.SL_PROT_STAT_CLAMP, k), (.SL_DIE_STAT_SHED, g)] ∧ t =
      { s with regs := t.regs, chan := t.chan, free := t.free })
    ∧ (∀ (s : State) (g : Nat), g < 4 → s.flag .SL_DIE_STAT_SHEDDING g = true → s.rdI .SL_FEED_SUM g ≤ 20 * ((s.rd
      .SL_FEED_LIM g : Int) - (s.rd .SL_FEED_HYS g : Int)) → ∃ t, exec (.shedStep g) s = .next t ∧ t.rd
      .SL_DIE_STAT_SHEDDING g = 0 ∧ changesOnly s t [(.SL_DIE_STAT_SHEDDING, g)] ∧ t =
      { s with regs := t.regs, die := t.die })

/-- R160, R161, R162, R163: With Floodgate not enabled and no Spillway lock, for a conducting channel without a cause:
SHORT_TRIP, LIMIT_TRIP while the limiter acts outside the inrush window, and THERMAL_SHUTDOWN above 170 °C lead to FAULT
with cause SHORT, LIMIT and THERMAL, the switch open and the trip counted; THERMAL_SHUTDOWN also sets the thermal latch. -/
def Obligations.TripsPutTheChannelIntoFault : Prop :=
  (∀ (s : State) (k : Nat), k < 32 → s.flag .FG_CTL_EN = false → s.conducts (s.lead k) = true → s.rd .SL_PROT_STAT_CAUSE
      (s.lead k) = 0 → s.flag .SL_PROT_STAT_SPLOCK (s.lead k) = false → ∃ t, exec (.shortTrip k) s = .next t ∧ t.rd
      .SL_STAT_STATE (s.lead k) = 5 ∧ t.rd .SL_PROT_STAT_CAUSE (s.lead k) = 1 ∧ t.conducts (s.lead k) = false ∧ t.rd
      .SL_TRIPS (s.lead k) = min (s.rd .SL_TRIPS (s.lead k) + 1) (2 ^ 16 - 1) ∧ changesOnly s t [(.SL_STAT_STATE, s.lead
      k), (.SL_PROT_STAT_CAUSE, s.lead k), (.SL_STAT_INRUSH, s.lead k), (.SL_STAT_LIMIT, s.lead k),
      (.SL_PROT_STAT_RETRY_PEND, s.lead k), (.SL_PROT_STAT_CLAMP, s.lead k), (.SL_TRIPS, s.lead k)] ∧ t =
      { s with regs := t.regs, chan := t.chan, ferry := t.ferry, free := t.free })
    ∧ (∀ (s : State) (k : Nat), k < 32 → s.flag .FG_CTL_EN = false → s.conducts (s.lead k) = true → s.flag .SL_STAT_LIMIT
      (s.lead k) = true → s.flag .SL_STAT_INRUSH (s.lead k) = false → s.rd .SL_PROT_STAT_CAUSE (s.lead k) = 0 → s.flag
      .SL_PROT_STAT_SPLOCK (s.lead k) = false → ∃ t, exec (.limitTrip k) s = .next t ∧ t.rd .SL_STAT_STATE (s.lead k) =
      5 ∧ t.rd .SL_PROT_STAT_CAUSE (s.lead k) = 2 ∧ t.conducts (s.lead k) = false ∧ changesOnly s t [(.SL_STAT_STATE,
      s.lead k), (.SL_PROT_STAT_CAUSE, s.lead k), (.SL_STAT_INRUSH, s.lead k), (.SL_STAT_LIMIT, s.lead k),
      (.SL_PROT_STAT_RETRY_PEND, s.lead k), (.SL_PROT_STAT_CLAMP, s.lead k), (.SL_TRIPS, s.lead k)] ∧ t =
      { s with regs := t.regs, chan := t.chan, ferry := t.ferry, free := t.free })
    ∧ (∀ (s : State) (k : Nat) (tj : Int), k < 32 → s.flag .FG_CTL_EN = false → 170000 < tj → s.conducts (s.lead k) = true →
      s.rd .SL_PROT_STAT_CAUSE (s.lead k) = 0 → s.flag .SL_PROT_STAT_SPLOCK (s.lead k) = false → ∃ t, exec
      (.thermalShutdown k tj) s = .next t ∧ t.rd .SL_STAT_STATE (s.lead k) = 5 ∧ t.rd .SL_PROT_STAT_CAUSE (s.lead k) = 3
      ∧ t.rd .SL_PROT_STAT_TLATCH (s.lead k) = 1 ∧ t.conducts (s.lead k) = false ∧ changesOnly s t [(.SL_STAT_STATE,
      s.lead k), (.SL_PROT_STAT_CAUSE, s.lead k), (.SL_STAT_INRUSH, s.lead k), (.SL_STAT_LIMIT, s.lead k),
      (.SL_PROT_STAT_RETRY_PEND, s.lead k), (.SL_PROT_STAT_CLAMP, s.lead k), (.SL_TRIPS, s.lead k),
      (.SL_PROT_STAT_TLATCH, s.lead k), (.SL_TJ, k)] ∧ t =
      { s with regs := t.regs, chan := t.chan, ferry := t.ferry, free := t.free })

/-- R162, R164, R165: THERMAL_LATCH_RELEASE below 140 °C without TSTICKY, and THERMAL_LATCH_CLEAR by the owning world below
140 °C, with the other half of a heavy pair below 140 °C too, clear the latch of a channel with no retry pending;
RETRY_ATTEMPT of a pending retry that a veto holds makes it wait, and one without a veto counts the attempt and clears
the cause; RETRY_COUNT_RESET of a conducting channel clears the count. (The master that sends a command runs: R334.) -/
def Obligations.ThermalLatchAndRetries : Prop :=
  (∀ (s : State) (k : Nat) (tj : Int), k < 32 → tj < 140000 → s.otherCool k = true → s.flag .SL_PROT_CFG_TSTICKY (s.lead
      k) = false → s.flag .SL_PROT_STAT_RETRY_PEND (s.lead k) = false → ∃ t, exec (.thermalLatchRelease k tj) s = .next
      t ∧ t.rd .SL_PROT_STAT_TLATCH (s.lead k) = 0 ∧ changesOnly s t [(.SL_PROT_STAT_TLATCH, s.lead k), (.SL_TJ, k)] ∧ t
      = { s with regs := t.regs })
    ∧ (∀ (s : State) (who : Initiator) (k : Nat), k < 32 → s.dieReach (dieOf k) = true → s.isFollow k = false → owns
      (s.worldOf who) (s.chanWorld k) = true → s.rdI .SL_TJ k < 140000 → s.otherCool k = true → s.flag
      .SL_PROT_STAT_RETRY_PEND k = false → s.masterRuns who = true → ∃ t, exec (.thermalLatchClear who k) s = .next t ∧
      t.rd .SL_PROT_STAT_TLATCH k = 0 ∧ changesOnly s t [(.SL_PROT_STAT_TLATCH, k)] ∧ t =
      { s with regs := t.regs, resp := t.resp, ferry := t.ferry })
    ∧ (∀ (s : State) (k : Nat), k < 32 → s.flag .SL_PROT_STAT_RETRY_PEND (s.lead k) = true → s.flag .SL_UV_STAT_UVOFF (dieOf
      (s.lead k)) = false → s.vetoed (s.lead k) = true → ∃ t, exec (.retryAttempt k) s = .next t ∧ (t.ch (s.lead
      k)).retryDue = true ∧ t = { s with chan := t.chan })
    ∧ (∀ (s : State) (k : Nat), k < 32 → s.flag .SL_PROT_STAT_RETRY_PEND (s.lead k) = true → s.vetoed (s.lead k) = false → ∃
      t, exec (.retryAttempt k) s = .next t ∧ t.rd .SL_PROT_STAT_RETRY_PEND (s.lead k) = 0 ∧ t.rd .SL_PROT_STAT_CAUSE
      (s.lead k) = 0 ∧ t.rd .SL_PROT_STAT_RETRIES (s.lead k) = min (s.rd .SL_PROT_STAT_RETRIES (s.lead k) + 1) (2 ^
      (Fld.info .SL_PROT_STAT_RETRIES).width - 1) ∧ t = { s with regs := t.regs, chan := t.chan, ferry := t.ferry })
    ∧ (∀ (s : State) (k : Nat), k < 32 → s.conducts (s.lead k) = true → ∃ t, exec (.retryCountReset k) s = .next t ∧ t.rd
      .SL_PROT_STAT_RETRIES (s.lead k) = 0 ∧ changesOnly s t [(.SL_PROT_STAT_RETRIES, s.lead k)] ∧ t =
      { s with regs := t.regs })

/-- R170, R171, R173, R186: CLAMP_PULSE_END adds the energy to the present bucket and shows it in SP_LAST and the window sum
in SP_SUM. With the sum below the budget and the pulse within its rating nothing else changes. Otherwise it sets SPLOCK,
PULSEOVR for a pulse above its rating, and counts a new lock: a conducting channel keeps STATE, and one that does not
conduct, with Floodgate not enabled, reads LOCKED. SPILLWAY_BUCKET moves the buckets of every channel of the die on by
one, with their window sum. SPILLWAY_UNLOCK on a reachable die, for a channel that is no follower, by the owning world,
with no retry pending and Floodgate not enabled: a lock whose sum is below the budget or that came from PULSEOVR alone
clears, and a channel that does not conduct reads FAULT or OFF; it is refused with PWHY 3 where the sum is still at the
budget, and 4 without a lock. (The master that sends a command runs: R334.) -/
def Obligations.ClampPulseBucketsAndUnlock : Prop :=
  (∀ (s : State) (k e : Nat), k < 32 → windowSum (addPulse (s.ch (s.lead k)).buckets e) (s.rd .SP_WIN (s.lead k)) < s.rd
      .SP_BUDGET (s.lead k) → e ≤ s.pulseRating (s.lead k) → ∃ t, exec (.clampPulseEnd k e) s = .next t ∧ t.rd .SP_LAST
      (s.lead k) = min e 0xFFFFFF ∧ t.rd .SP_SUM (s.lead k) = windowSum (addPulse (s.ch (s.lead k)).buckets e) (s.rd
      .SP_WIN (s.lead k)) ∧ t.rd .SL_PROT_STAT_CLAMP (s.lead k) = 0 ∧ (t.ch (s.lead k)).buckets = addPulse (s.ch (s.lead
      k)).buckets e ∧ changesOnly s t [(.SP_LAST, s.lead k), (.SL_PROT_STAT_CLAMP, s.lead k), (.SP_SUM, s.lead k),
      (.SP_FREE_IN, s.lead k)] ∧ t = { s with regs := t.regs, chan := t.chan })
    ∧ (∀ (s : State) (k e : Nat), k < 32 → (s.ch (s.lead k)).cond = true → (s.pulseRating (s.lead k) < e ∨ s.rd .SP_BUDGET
      (s.lead k) ≤ windowSum (addPulse (s.ch (s.lead k)).buckets e) (s.rd .SP_WIN (s.lead k))) → ∃ t, exec
      (.clampPulseEnd k e) s = .next t ∧ t.rd .SP_LAST (s.lead k) = min e 0xFFFFFF ∧ t.rd .SP_SUM (s.lead k) = windowSum
      (addPulse (s.ch (s.lead k)).buckets e) (s.rd .SP_WIN (s.lead k)) ∧ t.rd .SL_PROT_STAT_CLAMP (s.lead k) = 0 ∧ t.rd
      .SL_PROT_STAT_SPLOCK (s.lead k) = 1 ∧ t.rd .SL_PROT_STAT_PULSEOVR (s.lead k) = (if s.pulseRating (s.lead k) < e
      then 1 else s.rd .SL_PROT_STAT_PULSEOVR (s.lead k)) ∧ t.rd .SL_TRIPS (s.lead k) = (if s.flag .SL_PROT_STAT_SPLOCK
      (s.lead k) then s.rd .SL_TRIPS (s.lead k) else min (s.rd .SL_TRIPS (s.lead k) + 1) (2 ^ 16 - 1)) ∧ t.rd
      .SL_STAT_STATE (s.lead k) = s.rd .SL_STAT_STATE (s.lead k) ∧ (t.ch (s.lead k)).buckets = addPulse (s.ch (s.lead
      k)).buckets e ∧ changesOnly s t [(.SP_LAST, s.lead k), (.SL_PROT_STAT_CLAMP, s.lead k), (.SP_SUM, s.lead k),
      (.SP_FREE_IN, s.lead k), (.SL_PROT_STAT_SPLOCK, s.lead k), (.SL_PROT_STAT_PULSEOVR, s.lead k), (.SL_TRIPS, s.lead
      k)] ∧ t = { s with regs := t.regs, chan := t.chan, ferry := t.ferry })
    ∧ (∀ (s : State) (k e : Nat), k < 32 → s.flag .FG_CTL_EN = false → (s.ch (s.lead k)).cond = false → s.rd .SL_STAT_STATE
      (s.lead k) ≠ 1 → s.rd .SL_STAT_STATE (s.lead k) ≠ 2 → (s.pulseRating (s.lead k) < e ∨ s.rd .SP_BUDGET (s.lead k) ≤
      windowSum (addPulse (s.ch (s.lead k)).buckets e) (s.rd .SP_WIN (s.lead k))) → ∃ t, exec (.clampPulseEnd k e) s =
      .next t ∧ t.rd .SP_LAST (s.lead k) = min e 0xFFFFFF ∧ t.rd .SP_SUM (s.lead k) = windowSum (addPulse (s.ch (s.lead
      k)).buckets e) (s.rd .SP_WIN (s.lead k)) ∧ t.rd .SL_PROT_STAT_CLAMP (s.lead k) = 0 ∧ t.rd .SL_PROT_STAT_SPLOCK
      (s.lead k) = 1 ∧ t.rd .SL_PROT_STAT_PULSEOVR (s.lead k) = (if s.pulseRating (s.lead k) < e then 1 else s.rd
      .SL_PROT_STAT_PULSEOVR (s.lead k)) ∧ t.rd .SL_TRIPS (s.lead k) = (if s.flag .SL_PROT_STAT_SPLOCK (s.lead k) then
      s.rd .SL_TRIPS (s.lead k) else min (s.rd .SL_TRIPS (s.lead k) + 1) (2 ^ 16 - 1)) ∧ t.rd .SL_STAT_STATE (s.lead k)
      = 6 ∧ (t.ch (s.lead k)).cond = false ∧ changesOnly s t [(.SP_LAST, s.lead k), (.SL_PROT_STAT_CLAMP, s.lead k),
      (.SP_SUM, s.lead k), (.SP_FREE_IN, s.lead k), (.SL_PROT_STAT_SPLOCK, s.lead k), (.SL_PROT_STAT_PULSEOVR, s.lead
      k), (.SL_TRIPS, s.lead k), (.SL_STAT_STATE, s.lead k), (.SL_STAT_INRUSH, s.lead k), (.SL_STAT_LIMIT, s.lead k)] ∧
      t = { s with regs := t.regs, chan := t.chan, ferry := t.ferry })
    ∧ (∀ (s : State) (g l : Nat), g < 4 → l < 8 → ∃ t, exec (.spillwayBucket g) s = .next t ∧ (t.ch (chanOf g l)).buckets =
      pushBucket (s.ch (chanOf g l)).buckets ∧ t.rd .SP_SUM (chanOf g l) = windowSum (pushBucket (s.ch (chanOf g
      l)).buckets) (s.rd .SP_WIN (chanOf g l)) ∧ changesFields s t [.SP_SUM, .SP_FREE_IN] ∧ t =
      { s with regs := t.regs, chan := t.chan })
    ∧ (∀ (s : State) (who : Initiator) (k : Nat), k < 32 → s.dieReach (dieOf k) = true → s.isFollow k = false → owns
      (s.worldOf who) (s.chanWorld k) = true → s.flag .SL_PROT_STAT_SPLOCK k = true → (s.rd .SP_SUM k < s.rd .SP_BUDGET
      k ∨ (s.ch k).lockSum = false) → s.flag .SL_PROT_STAT_RETRY_PEND k = false → s.flag .FG_CTL_EN = false →
      s.masterRuns who = true → ∃ t, exec (.spillwayUnlock who k) s = .next t ∧ t.rd .SL_PROT_STAT_SPLOCK k = 0 ∧ (t.ch
      k).lockSum = false ∧ t.rd .SL_STAT_STATE k = (if (s.ch k).cond then s.rd .SL_STAT_STATE k else if s.rd
      .SL_PROT_STAT_CAUSE k ≠ 0 then 5 else 0) ∧ changesOnly s t [(.SL_PROT_STAT_SPLOCK, k), (.SL_STAT_STATE, k)] ∧ t =
      { s with regs := t.regs, chan := t.chan, ferry := t.ferry, resp := t.resp })
    ∧ (∀ (s : State) (who : Initiator) (k : Nat), k < 32 → s.dieReach (dieOf k) = true → s.isFollow k = false → owns
      (s.worldOf who) (s.chanWorld k) = true → s.flag .SL_PROT_STAT_SPLOCK k = true → s.rd .SP_BUDGET k ≤ s.rd .SP_SUM k
      → (s.ch k).lockSum = true → s.masterRuns who = true → ∃ t, exec (.spillwayUnlock who k) s = .next t ∧ t.rd
      .SL_PROT_STAT_PWHY k = 3 ∧ t.rd .SL_PROT_STAT_REFUSED k = 1 ∧ t.rd .SL_DIE_STAT_REFUSED (dieOf k) = 1 ∧
      changesOnly s t [(.SL_PROT_STAT_REFUSED, k), (.SL_PROT_STAT_PWHY, k), (.SL_DIE_STAT_REFUSED, dieOf k)] ∧ t =
      { s with regs := t.regs, resp := t.resp, ferry := t.ferry })
    ∧ (∀ (s : State) (who : Initiator) (k : Nat), k < 32 → s.dieReach (dieOf k) = true → s.isFollow k = false → owns
      (s.worldOf who) (s.chanWorld k) = true → s.flag .SL_PROT_STAT_SPLOCK k = false → s.masterRuns who = true → ∃ t,
      exec (.spillwayUnlock who k) s = .next t ∧ t.rd .SL_PROT_STAT_PWHY k = 4 ∧ t.rd .SL_PROT_STAT_REFUSED k = 1 ∧ t.rd
      .SL_DIE_STAT_REFUSED (dieOf k) = 1 ∧ changesOnly s t [(.SL_PROT_STAT_REFUSED, k), (.SL_PROT_STAT_PWHY, k),
      (.SL_DIE_STAT_REFUSED, dieOf k)] ∧ t = { s with regs := t.regs, resp := t.resp, ferry := t.ferry })

/-- R27, R167, R168, R182, R184, R449: With Floodgate not enabled: FEED_UNDERVOLTAGE of a die with supply sets UVOFF and
UVEVT, counts, and ends shedding; UNDERVOLTAGE_RESTART clears UVOFF, and DIP then reads whether the feed is still below
the dip level; FEED_DIP shows the dip level while UVOFF is clear; DIE_RESET leaves the die without supply and unserved;
DIE_START leaves it with supply, unserved, every channel at reset, and sets FSBAD where no EEPROM copy is whole; one
whose trim the image in force does not permit stays without the image and unserved. -/
def Obligations.SupplyOfTheDies : Prop :=
  (∀ (s : State) (g : Nat), g < 4 → s.flag .FG_CTL_EN = false → s.flag .SL_UV_STAT_UVOFF g = false → (s.di g).up = true →
      ∃ t, exec (.feedUndervoltage g) s = .next t ∧ t.rd .SL_UV_STAT_UVOFF g = 1 ∧ t.rd .SL_UV_STAT_UVEVT g = 1 ∧ t.rd
      .SL_DIE_STAT_SHEDDING g = 0 ∧ (t.di g).overMs = 0 ∧ t =
      { s with regs := t.regs, chan := t.chan, die := t.die, ferry := t.ferry, free := t.free })
    ∧ (∀ (s : State) (g : Nat), g < 4 → s.flag .SL_UV_STAT_UVOFF g = true → ∃ t, exec (.undervoltageRestart g) s = .next t ∧
      t.rd .SL_UV_STAT_UVOFF g = 0 ∧ t.rd .SL_UV_STAT_DIP g = b2n (s.di g).low ∧ t =
      { s with regs := t.regs, chan := t.chan, ferry := t.ferry })
    ∧ (∀ (s : State) (g : Nat) (b : Bool), g < 4 → ∃ t, exec (.feedDip g b) s = .next t ∧ t.rd .SL_UV_STAT_DIP g = b2n (b &&
      !s.flag .SL_UV_STAT_UVOFF g) ∧ (t.di g).low = b ∧ changesOnly s t [(.SL_UV_STAT_DIP, g)] ∧ t =
      { s with regs := t.regs, die := t.die })
    ∧ (∀ (s : State) (g l : Nat), g < 4 → l < 8 → ∃ t, exec (.dieReset g) s = .next t ∧ (t.di g).up = false ∧ t.rd
      .SL_WD_STAT_SERVED g = 0 ∧ t.ch (chanOf g l) = {} ∧ t =
      { s with regs := t.regs, shadow := t.shadow, chan := t.chan, die := t.die, io := t.io, ferry := t.ferry, free := t.free })
    ∧ (∀ (s : State) (g l : Nat), g < 4 → l < 8 → s.upd.trimOut.contains g = false → takeCopy (s.di g).eeA (s.di g).eeB = none
      → ∃ t, exec (.dieStart g) s = .next t ∧ (t.di g).up = true ∧ t.rd .SL_WD_STAT_SERVED g = 0 ∧ t.rd
      .SL_WD_STAT_FSBAD g = 1 ∧ t.ch (chanOf g l) = {} ∧ t =
      { s with regs := t.regs, shadow := t.shadow, chan := t.chan, die := t.die, io := t.io, ferry := t.ferry })
    ∧ (∀ (s : State) (g : Nat), g < 4 → s.upd.trimOut.contains g = true → ∃ t, exec (.dieStart g) s = .next t ∧ (t.di g).up =
      false ∧ (t.di g).barred = true ∧ t.rd .SL_WD_STAT_SERVED g = 0 ∧ t =
      { s with regs := t.regs, shadow := t.shadow, chan := t.chan, die := t.die, io := t.io, ferry := t.ferry })

/-- R174, R176, R178, R179: FLOODGATE_SOFTWARE_TRIGGER by the safety world (no pair with a debug break) with one index,
where exactly the hardware that an armed, enabled Floodgate gives matches entry e alone, counts and marks that entry and
sets FIRED; from another world it is refused. FLOODGATE_OFF_AND_LATCH at a reachable die that does not refuse it turns
the channel off with cause REFLEX. (The master that sends a command runs: R334.) -/
def Obligations.FloodgateFiresItsEntries : Prop :=
  (∀ (s : State) (who : Initiator) (e i : Nat), e < 64 → i < 32 → s.worldOf who = .safety → who.master ≠ 1 → who.master ≠
      2 → s.flag .FG_CTL_EN = true → s.claim = false → ((List.range 64).filter fun x => bit (s.rd .FG_ACT x) 31 && [⟨5,
      0, i, false⟩].any (s.fgMatch x)) = [e] → s.masterRuns who = true → ∃ t, exec (.floodgateSoftwareTrigger who (2 ^
      i)) s = .next t ∧ t.rd .FG_STAT_FIRED = 1 ∧ t.rd .FG_CNT e = min (s.rd .FG_CNT e + 1) (2 ^ (Fld.info
      .FG_CNT).width - 1) ∧ bit (t.rd (if e < 32 then .FG_FIRED_LO else .FG_FIRED_HI)) (e % 32) = true ∧ t.chan = s.chan
      ∧ t.gate.tick = s.now ∧ t.gate.hits.contains e = true ∧ t =
      { s with regs := t.regs, irqs := t.irqs, eseq := t.eseq, elog := t.elog, braid := t.braid, gate := t.gate, resp := t.resp })
    ∧ (∀ (s : State) (who : Initiator) (m : Nat), s.worldOf who ≠ .safety → s.masterRuns who = true → ∃ t, exec
      (.floodgateSoftwareTrigger who m) s = .next t ∧ t.rd .FG_STAT_REFUSED = 1 ∧ changesOnly s t [(.FG_STAT_REFUSED,
      0)] ∧ t = { s with regs := t.regs, resp := t.resp })
    ∧ (∀ (s : State) (k : Nat), k < 32 → s.flag .FG_CTL_EN = false → s.dieReach (dieOf (s.lead k)) = true → s.cmdRefusal
      (s.lead k) 0 0 2 = 0 → s.flag .SL_PROT_STAT_SPLOCK (s.lead k) = false → ∃ t, exec (.floodgateOffAndLatch k) s =
      .next t ∧ t.rd .SL_STAT_STATE (s.lead k) = 5 ∧ t.rd .SL_PROT_STAT_CAUSE (s.lead k) = 4 ∧ (t.ch (s.lead k)).cmdOn =
      false ∧ t.rd .SL_STAT_SRC (s.lead k) = 2 ∧ t =
      { s with regs := t.regs, chan := t.chan, irqs := t.irqs, free := t.free, ferry := t.ferry })

/-- R181, R183: WATCHDOG_SERVE from a safety master with the value that alternates is counted and sets SERVED; any other
value sets BADSERVE and the count to zero; a frozen pair serves nothing; WATCHDOG_EXPIRE of a served die not in
fail-safe mode, with Floodgate not enabled, sets EXPIRED and FAILSAFE; FAILSAFE_RESUME by the safety world after two
serves leaves fail-safe mode, and is refused before. (The master that sends a command runs: R334.) -/
def Obligations.WatchdogServesAndFailsafe : Prop :=
  (∀ (s : State) (who : Initiator) (g v : Nat), g < 4 → s.dieReach g = true → s.serveShut = false → s.worldOf who =
      .safety → who.master ≠ 1 → who.master ≠ 2 → ((v = 0x5AA5 ∧ (s.di g).lastServe ≠ 1) ∨ (v = 0xA55A ∧ (s.di
      g).lastServe ≠ 2)) → s.masterRuns who = true → ∃ t, exec (.watchdogServe who g v) s = .next t ∧ t.rd
      .SL_WD_STAT_SERVED g = 1 ∧ (t.di g).lastServe = (if v = 0x5AA5 then 1 else 2) ∧ (t.di g).serves = (s.di g).serves
      + b2n (s.flag .SL_WD_STAT_FAILSAFE g) ∧ changesOnly s t [(.SL_WD_STAT_SERVED, g), (.SYS_START_SERVED, 0),
      (.SYS_T_SAFE, 0)] ∧ t = { s with regs := t.regs, die := t.die, resp := t.resp, ferry := t.ferry })
    ∧ (∀ (s : State) (who : Initiator) (g v : Nat), g < 4 → s.dieReach g = true → s.serveShut = false → v ≠ 0x5AA5 → v ≠
      0xA55A → s.masterRuns who = true → ∃ t, exec (.watchdogServe who g v) s = .next t ∧ t.rd .SL_WD_STAT_BADSERVE g =
      1 ∧ (t.di g).serves = 0 ∧ changesOnly s t [(.SL_WD_STAT_BADSERVE, g)] ∧ t =
      { s with regs := t.regs, die := t.die, resp := t.resp, ferry := t.ferry })
    ∧ (∀ (s : State) (who : Initiator) (g v : Nat), s.frozenPair who = true → exec (.watchdogServe who g v) s = .next (s))
    ∧ (∀ (s : State) (g : Nat), g < 4 → s.flag .FG_CTL_EN = false → s.flag .SL_WD_STAT_SERVED g = true → (s.di g).up = true →
      s.flag .SL_WD_STAT_FAILSAFE g = false → ∃ t, exec (.watchdogExpire g) s = .next t ∧ t.rd .SL_WD_STAT_EXPIRED g = 1
      ∧ t.rd .SL_WD_STAT_FAILSAFE g = 1 ∧ (t.di g).serves = 0 ∧ t =
      { s with regs := t.regs, chan := t.chan, die := t.die, io := t.io, irqs := t.irqs, eseq := t.eseq, elog := t.elog, braid := t.braid, ferry := t.ferry, free := t.free })
    ∧ (∀ (s : State) (who : Initiator) (g : Nat), g < 4 → s.dieReach g = true → s.worldOf who = .safety → s.flag
      .SL_WD_STAT_FAILSAFE g = true → 2 ≤ (s.di g).serves → s.masterRuns who = true → ∃ t, exec (.failsafeResume who g)
      s = .next t ∧ t.rd .SL_WD_STAT_FAILSAFE g = 0)
    ∧ (∀ (s : State) (who : Initiator) (g : Nat), g < 4 → s.dieReach g = true → (s.di g).serves < 2 → s.masterRuns who = true
      → ∃ t, exec (.failsafeResume who g) s = .next t ∧ t.rd .SL_DIE_STAT_REFUSED g = 1 ∧ changesOnly s t
      [(.SL_DIE_STAT_REFUSED, g)] ∧ t = { s with regs := t.regs, resp := t.resp, ferry := t.ferry })

/-- R184, R205: FAILSAFE_COMMIT by a safety master, unlocked and not busy, takes the staged tables with the next sequence
number and sets BUSY; FAILSAFE_COMMIT_DONE with both copies whole puts them in force with RESULT 0 and clears BUSY, and
with one that is not whole gives RESULT 1. (The master that sends a command runs: R334.) -/
def Obligations.FailsafeTablesAreCommitted : Prop :=
  (∀ (s : State) (who : Initiator) (g : Nat), g < 4 → s.dieReach g = true → s.worldOf who = .safety → who.master ≠ 1 →
      who.master ≠ 2 → s.locked 4 = false → s.flag .SL_FS_CMD_BUSY g = false → s.masterRuns who = true → ∃ t, exec
      (.failsafeCommit who g) s = .next t ∧ t.rd .SL_FS_CMD_BUSY g = 1 ∧ (t.di g).staged.map (·.seq) = some ((s.rd
      .SL_FS_SEQ g + 1) % 65536) ∧ (t.di g).staged.map (·.io) = some (s.rd .IO_FS_STAGE g) ∧ changesOnly s t
      [(.SL_FS_CMD_BUSY, g)] ∧ t = { s with regs := t.regs, die := t.die, resp := t.resp, ferry := t.ferry })
    ∧ (∀ (s : State) (g : Nat) (x : EeCopy), g < 4 → (s.di g).staged = some x → x.seq < 2 ^ 16 → ∃ t, exec
      (.failsafeCommitDone g true true) s = .next t ∧ t.rd .SL_FS_CMD_BUSY g = 0 ∧ t.rd .SL_FS_CMD_RESULT g = 0 ∧ t.rd
      .SL_FS_SEQ g = x.seq ∧ (t.di g).staged = none ∧ (t.di g).eeA = { x with whole := true } ∧ (t.di g).eeB =
      { x with whole := true } ∧ t = { s with regs := t.regs, die := t.die })
    ∧ (∀ (s : State) (g : Nat) (x : EeCopy) (a b : Bool), g < 4 → (s.di g).staged = some x → (a && b) = false → ∃ t, exec
      (.failsafeCommitDone g a b) s = .next t ∧ t.rd .SL_FS_CMD_BUSY g = 0 ∧ t.rd .SL_FS_CMD_RESULT g = 1 ∧ (t.di
      g).eeA.whole = a ∧ (t.di g).eeB.whole = b ∧ changesOnly s t [(.SL_FS_CMD_BUSY, g), (.SL_FS_CMD_RESULT, g)] ∧ t =
      { s with regs := t.regs, die := t.die })

/-- R195, R196, R197, R198: FIELD_INPUT_CHANGE to a raw level other than the debounced one starts a run with the present
stamp; DEBOUNCE_ACCEPT takes the raw level, counts the edge number on, and keeps the edge with the stamp of its run for
the next status poll; EDGE_RECORD_WRITE stores the oldest polled edge in the next 16 bytes of the ring, changes no other
byte, and outside a pair at work advances the write index. (The unit is awake: R334.) -/
def Obligations.FieldInputDebounceAndEdge : Prop :=
  (∀ (s : State) (k : Nat) (c : Bool), k < 48 → (s.di (ioDieOf k)).up = true → s.ioReads k = true → (c != s.flag
      .IO_CFG_INV k) = !s.flag .IO_STAT_LEVEL k → (s.fio k).pend = false → ∃ t, exec (.fieldInputChange k c) s = .next t
      ∧ t.fio k = { s.fio k with comp := c, pend := true, start := s.stamp } ∧ changesOnly s t [(.IO_RAW, ioDieOf k)] ∧
      t = { s with regs := t.regs, io := t.io })
    ∧ (∀ (s : State) (k : Nat) (x : Io), k < 48 → (s.di (ioDieOf k)).up = true → s.fio k = x → x.pend = true → ∃ t, exec
      (.debounceAccept k) s = .next t ∧ t.rd .IO_STAT_LEVEL k = b2n (s.ioRaw k) ∧ (t.fio k).pend = false ∧ (t.di
      (ioDieOf k)).news = (s.di (ioDieOf k)).news ++ [(k, s.ioRaw k, x.start, (if s.ioRaw k then s.flag .IO_CFG_EDGE_R k
      else s.flag .IO_CFG_EDGE_F k) && 16 ≤ (s.di (ioDieOf k)).fifo.length)] ∧ (t.di (ioDieOf k)).edgeSeq = ((s.di
      (ioDieOf k)).edgeSeq + 1) % 256 ∧ t =
      { s with regs := t.regs, die := t.die, io := t.io, irqs := t.irqs, eseq := t.eseq, elog := t.elog })
    ∧ (∀ (s : State) (g : Nat) (e : Edge) (rest : List Edge), g < 4 → (s.di g).polled = e :: rest → s.standby = false →
      s.brState ≠ 5 → s.edgeRingFull g = false → s.awake = true → ∃ t, exec (.edgeRecordWrite g) s = .next t ∧ (t.di
      g).polled = rest ∧ t.rd .IO_EDGE_WR g = (s.edgeWr g + 1) % 128 ∧ storesAt s t (dieWindow g + 0xB400 + 16 *
      s.edgeWr g) 16 ∧ changesOnly s t [(.IO_EDGE_WR, g), (.BR_SEQ_LO, 0), (.BR_SEQ_HI, 0), (.CFP_CNT_FLUSH, 9),
      (.CFP_CNT_BUFDROP, 9), (.CF_BUF_FREE, 0)] ∧ t =
      { s with regs := t.regs, mem := t.mem, die := t.die, io := t.io, irqs := t.irqs, braid := t.braid })

/-- R201, R203, R204, R200, R202: FIELD_OUTPUT_OFF and FIELD_OUTPUT_ON from an initiator whose world owns the channel, to a
reachable die that does not refuse: the commanded state and OUT follow, SRC names the command; the stage of an on
command drives where no overtemperature and no gate holds. A refused command sets REFUSED and WHY and leaves the
commanded state. READBACK_HOLD_END of a channel in OUTRB that its unit drives: a level other than the commanded one sets
MISMATCH; FIELD_OUTPUT_OVERTEMP turns a stage that is commanded on and not gated off with OTP, OTPEVT and a count, and
leaves OTP of a stage that does not conduct; FIELD_OUTPUT_OTP_RECOVER clears OTP, and a stage that is commanded on and
not gated drives again. (The master that sends a command runs: R334.) -/
def Obligations.FieldOutputsCommandsAndReadback : Prop :=
  (∀ (s : State) (who : Initiator) (k : Nat), k < 48 → s.dieReach (ioDieOf k) = true → owns (s.worldOf who) (s.ioWorld k)
      = true → s.ioRefusal k 0 0 = 0 → s.masterRuns who = true → ∃ t, exec (.fieldOutputOff who k) s = .next t ∧ (t.fio
      k).cmdOn = false ∧ t.rd .IO_STAT_OUT k = 0 ∧ t.rd .IO_STAT_SRC k = 0 ∧ t.rd .IO_STAT_DRIVE k = 0 ∧ t =
      { s with regs := t.regs, io := t.io, irqs := t.irqs, eseq := t.eseq, elog := t.elog, braid := t.braid, resp := t.resp, ferry := t.ferry })
    ∧ (∀ (s : State) (who : Initiator) (k : Nat), k < 48 → s.dieReach (ioDieOf k) = true → owns (s.worldOf who) (s.ioWorld k)
      = true → s.ioRefusal k 1 0 = 0 → (s.fio k).hot = false → s.flag .IO_STAT_OTP k = false → s.gated (ioDieOf k) =
      false → s.masterRuns who = true → ∃ t, exec (.fieldOutputOn who k) s = .next t ∧ (t.fio k).cmdOn = true ∧ t.rd
      .IO_STAT_OUT k = 1 ∧ t.rd .IO_STAT_SRC k = 0 ∧ t.rd .IO_STAT_DRIVE k = 1 ∧ t =
      { s with regs := t.regs, io := t.io, irqs := t.irqs, eseq := t.eseq, elog := t.elog, braid := t.braid, resp := t.resp, ferry := t.ferry })
    ∧ (∀ (s : State) (who : Initiator) (k w : Nat) (b : Bool), k < 48 → s.dieReach (ioDieOf k) = true → owns (s.worldOf who)
      (s.ioWorld k) = true → s.ioRefusal k (b2n b) 0 = w → w ≠ 0 → s.masterRuns who = true → ∃ t, exec (if b then
      .fieldOutputOn who k else .fieldOutputOff who k) s = .next t ∧ t.rd .IO_STAT_REFUSED k = 1 ∧ t.rd .IO_STAT_WHY k =
      w ∧ t.io = s.io)
    ∧ (∀ (s : State) (k : Nat), k < 48 → s.rd .IO_CFG_MODE k = 2 → s.flag .SL_WD_STAT_ACT (ioDieOf k) = true → s.flag
      .IO_STAT_LEVEL k = !(s.fio k).cmdOn → s.flag .IO_STAT_MISMATCH k = false → ∃ t, exec (.readbackHoldEnd k) s =
      .next t ∧ (t.fio k).hold = false ∧ t.rd .IO_STAT_MISMATCH k = 1 ∧ changesOnly s t [(.IO_STAT_MISMATCH, k),
      (.IO_STAT_LIMIT, k)] ∧ t = { s with regs := t.regs, io := t.io, irqs := t.irqs, eseq := t.eseq, elog := t.elog })
    ∧ (∀ (s : State) (k : Nat), k < 48 → (s.fio k).cmdOn = true → s.rd .IO_CFG_MODE k ≠ 0 → s.gated (ioDieOf k) = false →
      s.flag .IO_STAT_OTP k = false → ∃ t, exec (.fieldOutputOvertemp k) s = .next t ∧ t.rd .IO_STAT_OTP k = 1 ∧ t.rd
      .IO_STAT_OTPEVT k = 1 ∧ t.rd .IO_STAT_DRIVE k = 0 ∧ t.rd .IO_OTPCNT k = min (s.rd .IO_OTPCNT k + 1) (2 ^ (Fld.info
      .IO_OTPCNT).width - 1) ∧ (t.fio k).cmdOn = (s.fio k).cmdOn ∧ changesOnly s t [(.IO_STAT_OTP, k), (.IO_STAT_OTPEVT,
      k), (.IO_STAT_DRIVE, k), (.IO_STAT_LIMIT, k), (.IO_OTPCNT, k)] ∧ t =
      { s with regs := t.regs, io := t.io, irqs := t.irqs })
    ∧ (∀ (s : State) (k : Nat), k < 48 → ((s.fio k).cmdOn = false ∨ s.rd .IO_CFG_MODE k = 0 ∨ s.gated (ioDieOf k) = true) → ∃
      t, exec (.fieldOutputOvertemp k) s = .next t ∧ t.fio k = { s.fio k with hot := true } ∧ t.rd .IO_STAT_DRIVE k = 0
      ∧ changesOnly s t [(.IO_STAT_DRIVE, k), (.IO_STAT_LIMIT, k)] ∧ t = { s with regs := t.regs, io := t.io })
    ∧ (∀ (s : State) (k : Nat), k < 48 → ∃ t, exec (.fieldOutputOtpRecover k) s = .next t ∧ t.rd .IO_STAT_OTP k = 0 ∧ (t.fio
      k).hot = false ∧ (t.fio k).cmdOn = (s.fio k).cmdOn ∧ t.rd .IO_STAT_DRIVE k = b2n ((s.fio k).cmdOn && s.rd
      .IO_CFG_MODE k != 0 && !s.gated (ioDieOf k)) ∧ changesOnly s t [(.IO_STAT_OTP, k), (.IO_STAT_DRIVE, k),
      (.IO_STAT_LIMIT, k)] ∧ t = { s with regs := t.regs, io := t.io })

/-- R213, R214, R215, R231: For a channel that the sender owns, outside Standby and Sleep: CAN_ENABLE with a configuration
that R215 allows leads to INTEGRATE with both counters at 0, with one that it does not allow reports the reason and
leaves EN; CAN_DISABLE leads to OFF and keeps the levels; CAN_RECOVER leads from BUSOFF to RECOVER. CAN_INTEGRATION_DONE
and CAN_RECOVERY_DONE lead to ACTIVE on the unit that holds the claim, and to MONITOR with LISTEN. (The unit is awake
where the command needs its clock, and the master that sends a command runs: R334.) -/
def Obligations.CanChannelStates : Prop :=
  (∀ (s : State) (who : Initiator) (k : Nat), k < 16 → owns (s.worldOf who) (s.canWorld k) = true → s.flag .CAN_CTL_EN k =
      false → s.rd .SYS_PWR_STAT_STATE ≤ 2 → s.enableError k = 0 → s.masterRuns who = true → ∃ t, exec (.canEnable who
      k) s = .next t ∧ t.rd .CAN_CTL_EN k = 1 ∧ t.rd .BR_CONFGEN = (s.rd .BR_CONFGEN + 1) % 2 ^ 32 ∧ t.rd
      .CAN_STAT_STATE k = 1 ∧ t.rd .CAN_ECNT_TEC k = 0 ∧ t.rd .CAN_ECNT_REC k = 0 ∧ changesOnly s t [(.CAN_CTL_EN, k),
      (.CAN_STAT_STATE, k), (.CAN_ECNT_TEC, k), (.CAN_ECNT_REC, k), (.BR_CONFGEN, 0)] ∧ t =
      { s with regs := t.regs, resp := t.resp })
    ∧ (∀ (s : State) (who : Initiator) (k e : Nat), k < 16 → owns (s.worldOf who) (s.canWorld k) = true → s.flag .CAN_CTL_EN k
      = false → s.rd .SYS_PWR_STAT_STATE ≤ 2 → s.enableError k = e → e ≠ 0 → s.masterRuns who = true → ∃ t, exec
      (.canEnable who k) s = .next t ∧ t.rd .CAN_STAT_REFUSED k = 1 ∧ t.rd .CAN_STAT_CFGERR k = e ∧ changesOnly s t
      [(.CAN_STAT_REFUSED, k), (.CAN_STAT_CFGERR, k)] ∧ t = { s with regs := t.regs, resp := t.resp })
    ∧ (∀ (s : State) (who : Initiator) (k : Nat), k < 16 → owns (s.worldOf who) (s.canWorld k) = true → s.flag .CAN_CTL_EN k =
      true → (s.cn k).pendCmd = none → s.masterRuns who = true → ∃ t, exec (.canDisable who k) s = .next t ∧ t.rd
      .CAN_CTL_EN k = 0 ∧ t.rd .CAN_STAT_STATE k = 0 ∧ t.rd .CAN_ECNT_TEC k = 0 ∧ t.rd .CAN_ECNT_REC k = 0 ∧ (t.cn k).tx
      = none ∧ (t.cn k).levels = (s.cn k).levels.map (·.map fun e => { e with onBus := false }) ∧ t =
      { s with regs := t.regs, can := t.can, resp := t.resp })
    ∧ (∀ (s : State) (who : Initiator) (k : Nat), k < 16 → owns (s.worldOf who) (s.canWorld k) = true → s.rd .CAN_STAT_STATE k
      = 4 → s.masterRuns who = true → ∃ t, exec (.canRecover who k) s = .next t ∧ t.rd .CAN_STAT_STATE k = 5 ∧
      changesOnly s t [(.CAN_STAT_STATE, k)] ∧ t = { s with regs := t.regs, resp := t.resp })
    ∧ (∀ (s : State) (k : Nat), k < 16 → s.rd .CAN_STAT_STATE k = 1 → s.flag .CAN_CTL_LISTEN k = false → s.claim = true →
      s.awake = true → ∃ t, exec (.canIntegrationDone k) s = .next t ∧ t.rd .CAN_STAT_STATE k = 2 ∧ t.rd .CAN_ECNT_TEC k
      = 0 ∧ t.rd .CAN_ECNT_REC k = 0 ∧ t = { s with regs := t.regs })
    ∧ (∀ (s : State) (k : Nat), k < 16 → s.rd .CAN_STAT_STATE k = 1 → s.flag .CAN_CTL_LISTEN k = true → s.awake = true → ∃ t,
      exec (.canIntegrationDone k) s = .next t ∧ t.rd .CAN_STAT_STATE k = 6 ∧ t.rd .CAN_ECNT_TEC k = 0 ∧ t.rd
      .CAN_ECNT_REC k = 0 ∧ t = { s with regs := t.regs })
    ∧ (∀ (s : State) (k : Nat), k < 16 → s.rd .CAN_STAT_STATE k = 5 → s.flag .CAN_CTL_LISTEN k = false → s.claim = true →
      s.awake = true → ∃ t, exec (.canRecoveryDone k) s = .next t ∧ t.rd .CAN_STAT_STATE k = 2 ∧ t.rd .CAN_ECNT_TEC k =
      0 ∧ t.rd .CAN_ECNT_REC k = 0 ∧ t = { s with regs := t.regs })

/-- R222, R223, R225, R310: CAN_TX_PUSH of a sound element that fits, on a single unit with room in the journal, into an
awake segment: CODE reads 0 and the element stands at the tail of its level with its journal sequence and its element of
the pool. CAN_RELEASE of a held head makes it eligible, CODE 0 and COUNT 1. CAN_COMPLETION_DEFERRED writes the record
that waited. (The unit is awake where the command needs its clock, and the master that sends a command runs: R334.) -/
def Obligations.CanQueueTakesAndReleases : Prop :=
  (∀ (s : State) (who : Initiator) (k l : Nat), k < 16 → owns (s.worldOf who) (s.canWorld k) = true → l < 8 → (s.cn
      k).levels.length = 8 → s.pairMode = false → s.braid.arrived = [] → s.flag .CAN_TXQ_RESULT_BUSY k = false → s.flag
      .CAN_TXQ_CMDRES_BUSY k = false → (s.staged k).2 = false → s.canTake k (s.staged k).1.frame = true → s.rd
      .WE_SLP_STAT_STATE (s.segOf k) < 2 → s.jRoom (.canPush k l (s.staged k).1) = true → s.masterRuns who = true → ∃ t,
      exec (.canTxPush who k l) s = .next t ∧ t.rd .CAN_TXQ_RESULT_CODE k = 0 ∧ t.rd .CAN_TXQ_RESULT_BUSY k = 0 ∧
      t.level k l = s.level k l ++ [{ (s.staged k).1 with jseq := s.braid.jseq, slot := s.freeElem k, onBus := false }]
      ∧ t =
      { s with regs := t.regs, can := t.can, mem := t.mem, braid := t.braid, resp := t.resp, eseq := t.eseq, elog := t.elog })
    ∧ (∀ (s : State) (who : Initiator) (k l : Nat) (e : CanElem) (rest : List CanElem), k < 16 → owns (s.worldOf who)
      (s.canWorld k) = true → l < 8 → (s.cn k).levels.length = 8 → s.flag .CAN_TXQ_RESULT_BUSY k = false → s.flag
      .CAN_TXQ_CMDRES_BUSY k = false → s.level k l = e :: rest → e.hold = true → s.masterRuns who = true → ∃ t, exec
      (.canRelease who k l) s = .next t ∧ t.rd .CAN_TXQ_CMDRES_CODE k = 0 ∧ t.rd .CAN_TXQ_CMDRES_COUNT k = 1 ∧ t.level k
      l = { e with hold := false } :: rest ∧ t =
      { s with regs := t.regs, can := t.can, braid := t.braid, resp := t.resp })
    ∧ (∀ (s : State) (k : Nat) (r : List Nat), k < 16 → (s.cn k).doneWait = [r] → r.length = 16 → s.doneFull k = false → (s.cn
      k).pendCmd = none → s.moveWaits k = false → s.rd .CAN_TXDONE_WR k < 64 → s.awake = true → ∃ t, exec
      (.canCompletionDeferred k) s = .next t ∧ (t.cn k).doneWait = [] ∧ t.rd .CAN_TXDONE_WR k = (s.rd .CAN_TXDONE_WR k +
      1) % 64 ∧ t.rd .CAN_TXQ_CMDRES_BUSY k = 0 ∧ storesAt s t (canRam k + 0x7C00 + 16 * s.rd .CAN_TXDONE_WR k) 16 ∧ t =
      { s with regs := t.regs, can := t.can, mem := t.mem })

/-- R225, R300: On a channel that the sender owns, with no queue command waiting and no attempt of the level under way:
CAN_CANCEL_HEAD withdraws the head alone, CAN_CANCEL_LEVEL the whole level, with CODE 0 and their COUNT;
CAN_MOVE_CHANNEL on a single unit puts the elements at the destination level, in elements of its pool; CAN_MOVE_PARTNER
of the active unit in BUSOFF withdraws the level and waits for the standby to accept it. (The master that sends a
command runs: R334.) -/
def Obligations.CanQueueCancelsAndMoves : Prop :=
  (∀ (s : State) (who : Initiator) (k l : Nat) (e : CanElem) (rest : List CanElem), k < 16 → owns (s.worldOf who)
      (s.canWorld k) = true → l < 8 → (s.cn k).levels.length = 8 → s.flag .CAN_TXQ_RESULT_BUSY k = false → s.flag
      .CAN_TXQ_CMDRES_BUSY k = false → (s.cn k).tx ≠ some (.level l) → s.level k l = e :: rest → s.masterRuns who = true
      → ∃ t, exec (.canCancelHead who k l) s = .next t ∧ t.rd .CAN_TXQ_CMDRES_CODE k = 0 ∧ t.rd .CAN_TXQ_CMDRES_COUNT k
      = 1 ∧ t.level k l = (s.revokeHead k rest).2 ∧ t =
      { s with regs := t.regs, can := t.can, mem := t.mem, irqs := t.irqs, braid := t.braid, resp := t.resp, eseq := t.eseq, elog := t.elog })
    ∧ (∀ (s : State) (who : Initiator) (k l : Nat), k < 16 → owns (s.worldOf who) (s.canWorld k) = true → l < 8 → (s.cn
      k).levels.length = 8 → s.flag .CAN_TXQ_RESULT_BUSY k = false → s.flag .CAN_TXQ_CMDRES_BUSY k = false → (s.cn k).tx
      ≠ some (.level l) → s.level k l ≠ [] → (s.level k l).length < 128 → s.masterRuns who = true → ∃ t, exec
      (.canCancelLevel who k l) s = .next t ∧ t.rd .CAN_TXQ_CMDRES_CODE k = 0 ∧ t.rd .CAN_TXQ_CMDRES_COUNT k = (s.level
      k l).length ∧ t.level k l = [] ∧ t =
      { s with regs := t.regs, can := t.can, mem := t.mem, irqs := t.irqs, braid := t.braid, resp := t.resp, eseq := t.eseq, elog := t.elog })
    ∧ (∀ (s : State) (who : Initiator) (k l d m : Nat), k < 16 → owns (s.worldOf who) (s.canWorld k) = true → l < 8 → (s.cn
      k).levels.length = 8 → s.flag .CAN_TXQ_RESULT_BUSY k = false → s.flag .CAN_TXQ_CMDRES_BUSY k = false → (s.cn k).tx
      ≠ some (.level l) → d < 16 → d ≠ k → m < 8 → owns (s.worldOf who) (s.canWorld d) = true → (s.cn d).levels.length =
      8 → s.pairMode = false → s.braid.arrived = [] → s.moveError 3 d (s.level k l) = 0 → (s.level k l).length < 128 →
      s.jRoom (.canMove k 3 l d m (s.level k l)) = true → s.braid.jopen = [] → s.rd .BR_JUSED + 200 < journalUnits →
      s.rd .WE_SLP_STAT_STATE (s.segOf d) < 2 → s.masterRuns who = true → ∃ t, exec (.canMoveChannel who k l d m) s =
      .next t ∧ t.rd .CAN_TXQ_CMDRES_CODE k = 0 ∧ t.rd .CAN_TXQ_CMDRES_COUNT k = (s.level k l).length ∧ t.level k l = []
      ∧ (t.level d m).map (fun e => { e with slot := 0, onBus := false }) = (s.level d m).map (fun e =>
      { e with slot := 0, onBus := false }) ++ (s.level k l).map (fun e =>
      { e with attempts := 0, jseq := s.braid.jseq, slot := 0, onBus := false }) ∧ t =
      { s with regs := t.regs, can := t.can, mem := t.mem, irqs := t.irqs, braid := t.braid, resp := t.resp, eseq := t.eseq, elog := t.elog })
    ∧ (∀ (s : State) (who : Initiator) (k l m : Nat), k < 16 → owns (s.worldOf who) (s.canWorld k) = true → l < 8 → (s.cn
      k).levels.length = 8 → s.flag .CAN_TXQ_RESULT_BUSY k = false → s.flag .CAN_TXQ_CMDRES_BUSY k = false → (s.cn k).tx
      ≠ some (.level l) → m < 8 → s.pairMode = true → s.brState = 5 → s.rd .BR_PEER % 16 = 4 → s.rd .CAN_STAT_STATE k =
      4 → s.level k l ≠ [] → (s.level k l).length < 128 → s.braid.arrived = [] → s.masterRuns who = true → ∃ t, exec
      (.canMovePartner who k l m) s = .next t ∧ t.rd .CAN_TXQ_CMDRES_CODE k = 0 ∧ t.rd .CAN_TXQ_CMDRES_COUNT k =
      (s.level k l).length ∧ t.rd .CAN_TXQ_CMDRES_BUSY k = 1 ∧ t.level k l = [] ∧ t =
      { s with regs := t.regs, can := t.can, mem := t.mem, irqs := t.irqs, braid := t.braid, resp := t.resp, eseq := t.eseq, elog := t.elog })

/-- R223, R224, R230, R232: CAN_FRAME_OFFER on an active channel with no attempt under way starts the choice of R223;
CAN_ARBITRATION_LOST leaves every level as it is; CAN_FRAME_SENT, on the unit that holds the claim, of a software
element frees the slot and the head of the level, with a count; CAN_TX_ERROR adds 8 to TEC and records the code, during
an attempt, which it ends with the element kept, and after one; at TEC of 256 the channel is in BUSOFF. (The unit is
awake: R334.) -/
def Obligations.CanTransmissionAttempts : Prop :=
  (∀ (s : State) (k : Nat) (x : TxSlot), k < 16 → s.rd .CAN_STAT_STATE k = 2 → s.busUp k = true → (s.cn k).tx = none →
      ((s.revokeHeads k).canView k).choice k = some x → s.awake = true → ∃ t, exec (.canFrameOffer k) s = .next t ∧
      (t.cn k).tx = some x ∧ t = { s with regs := t.regs, can := t.can, irqs := t.irqs })
    ∧ (∀ (s : State) (k : Nat), k < 16 → (s.cn k).tx ≠ none → (s.cn k).pendCmd = none → (s.cn k).leaving = false → s.awake =
      true → ∃ t, exec (.canArbitrationLost k) s = .next t ∧ (t.cn k).tx = none ∧ (t.cn k).levels = (s.cn k).levels.map
      (·.map fun e => { e with onBus := false }) ∧ t = { s with regs := t.regs, can := t.can })
    ∧ (∀ (s : State) (k sof d l : Nat) (e : CanElem) (rest : List CanElem), k < 16 → l < 8 → (s.cn k).levels.length = 8 →
      (s.cn k).tx = some (.level l) → s.busUp k = true → s.claim = true → s.level k l = e :: rest → ((s.level k l).any
      (·.onBus) = false ∨ e.onBus = true) → e.origin = 0 → e.proxy = false → s.braid.jopen = [] → s.flag .CAN_CTL_LOOP k
      = false → (s.cn k).pendCmd = none → (s.cn k).leaving = false → s.awake = true → ∃ t, exec (.canFrameSent k sof d)
      s = .next t ∧ (t.cn k).tx = none ∧ t.level k l = (s.revokeHead k rest).2.map (fun e => { e with onBus := false })
      ∧ t.rd .CAN_CNT_TX k = min (s.rd .CAN_CNT_TX k + 1) (2 ^ (Fld.info .CAN_CNT_TX).width - 1) ∧ t =
      { s with regs := t.regs, can := t.can, mem := t.mem, irqs := t.irqs, eseq := t.eseq, elog := t.elog })
    ∧ (∀ (s : State) (k c : Nat) (d : Bool), k < 16 → c < 8 → s.busUp k = true → (s.cn k).tx ≠ none → s.rd .CAN_STAT_STATE k =
      2 → s.rd .CAN_ECNT_TEC k < 120 → s.rd .CAN_ECNT_REC k < 128 → (s.cn k).pendCmd = none → (s.cn k).leaving = false →
      s.awake = true → ∃ t, exec (.canTxError k c d false) s = .next t ∧ (t.cn k).tx = none ∧ (t.cn k).levels = (s.cn
      k).levels.map (·.map fun e => { e with onBus := false }) ∧ t.rd .CAN_ECNT_TEC k = s.rd .CAN_ECNT_TEC k + 8 ∧ t.rd
      .CAN_LEC_CODE k = c ∧ t.rd .CAN_LEC_DATA k = b2n d ∧ t.rd .CAN_STAT_STATE k = 2 ∧ t =
      { s with regs := t.regs, can := t.can, free := t.free })
    ∧ (∀ (s : State) (k c : Nat) (d : Bool), k < 16 → c < 8 → s.busUp k = true → (s.cn k).tx = none → s.rd .CAN_STAT_STATE k =
      2 → s.rd .CAN_ECNT_TEC k < 120 → s.rd .CAN_ECNT_REC k < 128 → s.awake = true → ∃ t, exec (.canTxError k c d false)
      s = .next t ∧ t.rd .CAN_ECNT_TEC k = s.rd .CAN_ECNT_TEC k + 8 ∧ t.rd .CAN_LEC_CODE k = c ∧ t.rd .CAN_STAT_STATE k
      = 2 ∧ changesOnly s t [(.CAN_ECNT_TEC, k), (.CAN_LEC_CODE, k), (.CAN_LEC_DATA, k), (.CAN_CNT_ERR, k),
      (.CAN_STAT_EWARN, k), (.CAN_STAT_STATE, k)] ∧ t = { s with regs := t.regs })
    ∧ (∀ (s : State) (k c : Nat) (d : Bool), k < 16 → s.busUp k = true → (s.cn k).tx ≠ none → s.rd .CAN_STAT_STATE k = 3 → 248
      ≤ s.rd .CAN_ECNT_TEC k → s.rd .CAN_ECNT_TEC k < 256 → (s.cn k).pendCmd = none → (s.cn k).leaving = false → s.awake
      = true → ∃ t, exec (.canTxError k c d false) s = .next t ∧ t.rd .CAN_STAT_STATE k = 4 ∧ t.rd .CAN_ECNT_TEC k = 256
      ∧ t.rd .CAN_STAT_BOEVT k = 1 ∧ (t.cn k).levels = (s.cn k).levels.map (·.map fun e => { e with onBus := false }) ∧
      t = { s with regs := t.regs, can := t.can, eseq := t.eseq, elog := t.elog, free := t.free })

/-- R211, R227, R230: On an active channel whose transceiver is normal: CAN_RX_ERROR adds 1 or 8 to REC (below 128) and
records the code; CAN_PROTOCOL_EXCEPTION sets PXE and counts an error; CAN_FRAME_RECEIVED of an enabled format on a unit
in single mode, of no SDO request, with a free staging element stages the frame with its stamps, LEN 8 where a classic
DLC exceeds 8, and counts it. (The unit is awake: R334.) -/
def Obligations.CanReception : Prop :=
  (∀ (s : State) (k c : Nat) (d h x : Bool), k < 16 → c < 8 → s.busUp k = true → s.rd .CAN_STAT_STATE k = 2 → s.rd
      .CAN_ECNT_TEC k < 128 → s.rd .CAN_ECNT_REC k < 120 → (x && s.flag .CAN_CTL_TMS k) = false → s.awake = true → ∃ t,
      exec (.canRxError k c d h x) s = .next t ∧ t.rd .CAN_ECNT_REC k = s.rd .CAN_ECNT_REC k + (if h then 8 else 1) ∧
      t.rd .CAN_LEC_CODE k = c ∧ t.rd .CAN_STAT_STATE k = 2 ∧ changesOnly s t [(.CAN_ECNT_REC, k), (.CAN_LEC_CODE, k),
      (.CAN_LEC_DATA, k), (.CAN_CNT_ERR, k), (.CAN_STAT_EWARN, k), (.CAN_STAT_STATE, k)] ∧ t =
      { s with regs := t.regs })
    ∧ (∀ (s : State) (k : Nat), k < 16 → s.busUp k = true → s.rd .CAN_STAT_STATE k = 2 → s.awake = true → ∃ t, exec
      (.canProtocolException k) s = .next t ∧ t.rd .CAN_STAT_PXE k = 1 ∧ t.rd .CAN_CNT_ERR k = min (s.rd .CAN_CNT_ERR k
      + 1) (2 ^ (Fld.info .CAN_CNT_ERR).width - 1) ∧ changesOnly s t [(.CAN_STAT_PXE, k), (.CAN_CNT_ERR, k)] ∧ t =
      { s with regs := t.regs })
    ∧ (∀ (s : State) (k : Nat) (f : CanFrame), k < 16 → s.rd .CAN_STAT_STATE k = 2 → s.busUp k = true → s.fmtOk k f.fmt = true
      → s.pairMode = false → s.isSdo k f = false → (s.cn k).stage.length < 4 → s.awake = true → ∃ t, exec
      (.canFrameReceived k f) s = .next t ∧ (t.cn k).stage = (s.cn k).stage ++
      [{ f with sof := f.sof % 2 ^ 48 + s.stampKind * 2 ^ 48, eof := f.eof % 2 ^ 48 + s.stampKind * 2 ^ 48, len := if f.fmt = 0 && 8 < f.dlc then 8 else f.len }]
      ∧ t.rd .CAN_CNT_RX k = min (s.rd .CAN_CNT_RX k + 1) (2 ^ (Fld.info .CAN_CNT_RX).width - 1) ∧ t =
      { s with regs := t.regs, can := t.can, eseq := t.eseq, elog := t.elog })

/-- R238, R240: FRAME_ROUTE with a frame k, f next in turn takes it out of staging. With EN and a first matching entry that
names one other channel d alone, in an awake segment and with room: the frame stands at the tail of the level that the
entry names, with the generation, the source channel and the entry. With EN and no match, or without EN, it is counted
as a miss and no level changes (MISS = 0). (The unit is awake: R334.) -/
def Obligations.WeirRoutesStagedFrames : Prop :=
  (∀ (s : State) (k d i : Nat) (f : CanFrame) (r : RouteEntry), s.nextStaged = some (k, f) → s.flag .WE_CTL_EN = true →
      s.lookup k f = some (i, r) → d < 16 → d ≠ k → r.w2 / 2 ^ 16 = 2 ^ d → bits r.w3 0 2 = 0 → bit r.w3 4 = false →
      s.segShut d = false → s.canTake d f = true → (s.cn d).levels.length = 8 → s.awake = true → ∃ t, exec (.frameRoute)
      s = .next t ∧ t.level d (bits r.w1 29 3) = s.level d (bits r.w1 29 3) ++
      [{ frame := f, origin := 1, gen := s.rd .WE_GEN, srcCh := k, revoke := bit r.w3 11 && !(s.level d (bits r.w1 29 3)).isEmpty, route := i, slot := s.freeElem d }]
      ∧ (t.cn k).stage = (s.cn k).stage.drop 1 ∧ t =
      { s with regs := t.regs, can := t.can, seg := t.seg, braid := t.braid, mem := t.mem, eseq := t.eseq, elog := t.elog })
    ∧ (∀ (s : State) (k : Nat) (f : CanFrame), s.nextStaged = some (k, f) → (s.flag .WE_CTL_EN = false ∨ (s.lookup k f = none
      ∧ s.flag .WE_CTL_MISS = false)) → s.awake = true → ∃ t, exec (.frameRoute) s = .next t ∧ t.rd .WE_CNT_MISS = min
      (s.rd .WE_CNT_MISS + 1) (2 ^ (Fld.info .WE_CNT_MISS).width - 1) ∧ t.level k 0 = s.level k 0 ∧ (t.cn k).stage =
      (s.cn k).stage.drop 1 ∧ changesOnly s t [(.WE_CNT_MISS, 0), (.BR_SEQ_LO, 0), (.BR_SEQ_HI, 0), (.CFP_CNT_FLUSH, 9),
      (.CFP_CNT_BUFDROP, 9), (.CF_BUF_FREE, 0)] ∧ t =
      { s with regs := t.regs, can := t.can, seg := t.seg, braid := t.braid })

/-- R239, R241, R242, R246: ROUTE_ENTRY_COMMIT of a routing entry that passes the tests of R241 puts the staged entry under
its index alone, advances the generation, and WE_ENT_RD shows the entry in force that WE_ENT_RDIDX names; one that fails
leaves the table and gives the code. ROUTE_ENTRY_CLEAR of a routing entry that no other world owns, and of a stream
entry with nothing gathered, leaves it empty. (The master that sends a command runs: R334.) -/
def Obligations.RouteTablesTakeWholeEntries : Prop :=
  (∀ (s : State) (who : Initiator) (i : Nat), i < 4096 → s.routeError (s.worldOf who) i = 0 → s.masterRuns who = true → ∃
      t, exec (.routeEntryCommit who 0 i) s = .next t ∧ t.rd .WE_ENT_RESULT_CODE = 0 ∧ t.rd .WE_GEN = (s.rd .WE_GEN + 1)
      % 2 ^ 24 ∧ (∀ j, j < 8 → t.rd .WE_ENT_RD j = ((t.weirEntry (s.flag .WE_ENT_RDIDX_TBL) (s.rd
      .WE_ENT_RDIDX_INDEX)).getD j 0) % 2 ^ 32) ∧ NMap.at {} t.route i = s.stagedRoute (s.worldOf who) ∧ (∀ j, j ≠ i →
      NMap.at {} t.route j = NMap.at {} s.route j) ∧ changesOnly s t [(.WE_ENT_RESULT_CODE, 0), (.WE_GEN, 0),
      (.WE_DRAIN_DONE, 0), (.BR_CONFGEN, 0), (.WE_ENT_RD, 0), (.WE_ENT_RD, 1), (.WE_ENT_RD, 2), (.WE_ENT_RD, 3),
      (.WE_ENT_RD, 4), (.WE_ENT_RD, 5), (.WE_ENT_RD, 6), (.WE_ENT_RD, 7)] ∧ t =
      { s with regs := t.regs, route := t.route, resp := t.resp })
    ∧ (∀ (s : State) (who : Initiator) (i c : Nat), i < 4096 → s.routeError (s.worldOf who) i = c → 0 < c → s.masterRuns who =
      true → ∃ t, exec (.routeEntryCommit who 0 i) s = .next t ∧ t.rd .WE_ENT_RESULT_CODE = c ∧ changesOnly s t
      [(.WE_ENT_RESULT_CODE, 0)] ∧ t = { s with regs := t.regs, resp := t.resp })
    ∧ (∀ (s : State) (who : Initiator) (i : Nat), i < 4096 → (bit (NMap.at {} s.route i).w3 31 && !owns (s.worldOf who)
      (World.ofCode (bits (NMap.at {} s.route i).w3 28 2))) = false → s.masterRuns who = true → ∃ t, exec
      (.routeEntryClear who 0 i) s = .next t ∧ t.rd .WE_ENT_RESULT_CODE = 0 ∧ NMap.at {} t.route i = {} ∧ (∀ j, j ≠ i →
      NMap.at {} t.route j = NMap.at {} s.route j) ∧ changesOnly s t [(.WE_ENT_RESULT_CODE, 0), (.WE_GEN, 0),
      (.WE_DRAIN_DONE, 0), (.BR_CONFGEN, 0), (.WE_ENT_RD, 0), (.WE_ENT_RD, 1), (.WE_ENT_RD, 2), (.WE_ENT_RD, 3),
      (.WE_ENT_RD, 4), (.WE_ENT_RD, 5), (.WE_ENT_RD, 6), (.WE_ENT_RD, 7)] ∧ t =
      { s with regs := t.regs, route := t.route, resp := t.resp })
    ∧ (∀ (s : State) (who : Initiator) (i : Nat), i < 64 → s.streamForeign (s.worldOf who) i = false → (s.strm i).gathered =
      [] → s.masterRuns who = true → ∃ t, exec (.routeEntryClear who 1 i) s = .next t ∧ t.rd .WE_ENT_RESULT_CODE = 0 ∧
      t.strm i = {} ∧ changesOnly s t [(.WE_ENT_RESULT_CODE, 0), (.WE_GEN, 0), (.WE_DRAIN_DONE, 0), (.BR_CONFGEN, 0),
      (.WE_ENT_RD, 0), (.WE_ENT_RD, 1), (.WE_ENT_RD, 2), (.WE_ENT_RD, 3), (.WE_ENT_RD, 4), (.WE_ENT_RD, 5), (.WE_ENT_RD,
      6), (.WE_ENT_RD, 7)] ∧ t = { s with regs := t.regs, stream := t.stream, resp := t.resp })

/-- R243, R244, R245, R246: ETH_CAN_INGRESS of an NTSCF PDU for a valid ingress stream, with EN: its sequence number is
kept, a gap is counted, and its messages are placed in order; without EN every message it holds is counted as dropped.
BUNDLE_TIMEOUT with messages gathered for an egress stream that their routes still deliver to it sends them in one PDU:
the stream holds none, and its sequence number advances; where the routes deliver none of them any more, the stream
holds none and no PDU leaves. Messages of entries without REVOKE are all sent. (The unit is awake: R334.) -/
def Obligations.EncapsulationStreamsCount : Prop :=
  (∀ (s : State) (pdu : List Nat) (n : Nat) (x : Stream), pdu.getD 0 0 = 0x82 → s.stream.find? (fun e => bit
      (e.2.words.getD 4 0) 0 && bit (e.2.words.getD 4 0) 1 && leBytes 4 (e.2.words.getD 0 0) ++ leBytes 4
      (e.2.words.getD 1 0) == (pdu.drop 4).take 8) = some (n, x) → s.flag .WE_CTL_EN = true → ((∀ l, x.last = some l →
      (l + 1) % 256 = pdu.getD 3 0)) → s.awake = true → exec (.ethCanIngress pdu) s = .next ((((s.taken 0x100).setStrm n
      { x with last := some (pdu.getD 3 0) }).acfAll n ((pdu.drop 12).take (be pdu 1 2 % 2 ^ 11)).length ((pdu.drop
      12).take (be pdu 1 2 % 2 ^ 11))).weView))
    ∧ (∀ (s : State) (pdu : List Nat) (n l : Nat) (x : Stream), pdu.getD 0 0 = 0x82 → s.stream.find? (fun e => bit
      (e.2.words.getD 4 0) 0 && bit (e.2.words.getD 4 0) 1 && leBytes 4 (e.2.words.getD 0 0) ++ leBytes 4
      (e.2.words.getD 1 0) == (pdu.drop 4).take 8) = some (n, x) → s.flag .WE_CTL_EN = false → x.last = some l → (l + 1)
      % 256 ≠ pdu.getD 3 0 → s.awake = true → ∃ t, exec (.ethCanIngress pdu) s = .next t ∧ (t.strm n).last = some
      (pdu.getD 3 0) ∧ t.rd .WE_CNT_ETHSEQ = min (s.rd .WE_CNT_ETHSEQ + 1) (2 ^ (Fld.info .WE_CNT_ETHSEQ).width - 1) ∧
      t.rd .WE_CNT_ETHDROP = min (s.rd .WE_CNT_ETHDROP + acfCount ((pdu.drop 12).take (be pdu 1 2 % 2 ^ 11)).length
      ((pdu.drop 12).take (be pdu 1 2 % 2 ^ 11))) (2 ^ (Fld.info .WE_CNT_ETHDROP).width - 1) ∧ changesOnly s t
      [(.WE_CNT_ETHSEQ, 0), (.WE_CNT_ETHDROP, 0)] ∧ t =
      { s with regs := t.regs, stream := t.stream, handed := t.handed })
    ∧ (∀ (s : State) (n : Nat), n < 64 → (s.streamHandover n).2 ≠ [] → s.awake = true → ∃ t, exec (.bundleTimeout n) s = .next
      t ∧ (t.strm n).gathered = [] ∧ (t.strm n).seq = ((s.strm n).seq + 1) % 256 ∧ (t.strm n).words = (s.strm n).words ∧
      t.can = s.can ∧ t.route = s.route)
    ∧ (∀ (s : State) (n : Nat), n < 64 → (s.streamHandover n).2 = [] → s.awake = true → ∃ t, exec (.bundleTimeout n) s = .next
      t ∧ (t.strm n).gathered = [] ∧ (t.strm n).seq = (s.strm n).seq ∧ (t.strm n).words = (s.strm n).words ∧ changesOnly
      s t [(.WE_CNT_REVOKED, 0), (.WE_STAT_REVOKED, 0), (.WE_DRAIN_DONE, 0)] ∧ t =
      { s with regs := t.regs, stream := t.stream })
    ∧ (∀ (s : State) (n : Nat), (s.strm n).gathered.all (fun m => m.2.2.isNone) = true → s.streamHandover n = (s, (s.strm
      n).gathered.map (·.2.1)))

/-- R247, R251, R253, R256: SLEEP_REQUEST by the safety world for an awake segment with no reference channel, on a unit that
runs rounds, starts a round: VOTING with the next ROUND; a segment with a reference channel is refused.
INTENT_SEND_TIMEOUT ends the round with RESULT 4; VOTE_WINDOW_END with a holding node ends it with RESULT 2 and a count;
COMMIT_WINDOW_END leads to ASLEEP with RESULT 1, REQ clear and its transceivers in sleep; SLEEP_RETRY starts the next
round. (The unit is awake where the command needs its clock, and the master that sends a command runs: R334.) -/
def Obligations.SleepRoundsRunAndEnd : Prop :=
  (∀ (s : State) (who : Initiator) (n : Nat), n < 8 → s.worldOf who = .safety → s.segChans n ≠ [] → (s.segChans n).all
      (fun k => !bit (s.rd .MR_REFCH) k) = true → s.rd .WE_SLP_STAT_STATE n = 0 → (s.sg n).phase = 0 → s.runsSegs = true
      → s.masterRuns who = true → ∃ t, exec (.sleepRequest who n) s = .next t ∧ t.rd .WE_SLP_CTL_REQ n = 1 ∧ t.rd
      .WE_SLP_STAT_STATE n = 1 ∧ t.rd .WE_SLP_STAT_ROUND n = (s.rd .WE_SLP_STAT_ROUND n + 1) % 256 ∧ (t.sg n).agreed =
      [] ∧ (t.sg n).heldBy = [] ∧ t =
      { s with regs := t.regs, can := t.can, seg := t.seg, braid := t.braid, mem := t.mem, resp := t.resp, eseq := t.eseq, elog := t.elog })
    ∧ (∀ (s : State) (who : Initiator) (n k : Nat), n < 8 → k < 16 → s.segOf k = n → bit (s.rd .MR_REFCH) k = true →
      s.masterRuns who = true → ∃ t, exec (.sleepRequest who n) s = .next t ∧ t.rd .WE_STAT_REFUSED = 1 ∧ changesOnly s
      t [(.WE_STAT_REFUSED, 0)] ∧ t = { s with regs := t.regs, resp := t.resp })
    ∧ (∀ (s : State) (n : Nat), n < 8 → ((s.sg n).phase = 1 ∨ (s.sg n).phase = 3) → s.awake = true → ∃ t, exec
      (.intentSendTimeout n) s = .next t ∧ t.rd .WE_SLP_STAT_STATE n = 0 ∧ t.rd .WE_SLP_STAT_RESULT n = 4 ∧ (t.sg
      n).phase = (if s.rd .WE_SLP_TIMES_RETRY n = 0 then 0 else 5) ∧ t =
      { s with regs := t.regs, can := t.can, seg := t.seg, braid := t.braid, mem := t.mem, eseq := t.eseq, elog := t.elog })
    ∧ (∀ (s : State) (n : Nat), n < 8 → (s.sg n).phase = 2 → (s.sg n).heldBy ≠ [] → s.awake = true → ∃ t, exec (.voteWindowEnd
      n) s = .next t ∧ t.rd .WE_SLP_STAT_STATE n = 0 ∧ t.rd .WE_SLP_STAT_RESULT n = 2 ∧ t.rd .WE_HOLDCNT n = min (s.rd
      .WE_HOLDCNT n + 1) (2 ^ (Fld.info .WE_HOLDCNT).width - 1) ∧ t =
      { s with regs := t.regs, seg := t.seg, braid := t.braid })
    ∧ (∀ (s : State) (n : Nat), n < 8 → (s.sg n).phase = 2 → (s.sg n).heldBy = [] → (List.range 4).all (fun i => s.rd
      .XCVR_VOTERS (4 * n + i) == 0) = true → s.segOn n = [] → s.awake = true → ∃ t, exec (.voteWindowEnd n) s = .next t
      ∧ t.rd .WE_SLP_STAT_STATE n = 2 ∧ (t.sg n).phase = 4 ∧ t =
      { s with regs := t.regs, seg := t.seg, braid := t.braid })
    ∧ (∀ (s : State) (n k : Nat), n < 8 → k < 16 → (s.sg n).phase = 4 → s.rd .WE_SLP_STAT_STATE n = 2 → s.segOf k = n →
      s.awake = true → ∃ t, exec (.commitWindowEnd n) s = .next t ∧ t.rd .WE_SLP_STAT_STATE n = 3 ∧ t.rd
      .WE_SLP_STAT_RESULT n = 1 ∧ t.rd .WE_SLP_CTL_REQ n = 0 ∧ t.rd .XCVR_STAT_MODE k = 3 ∧ t.rd .XCVR_STAT_INH k = 0 ∧
      t = { s with regs := t.regs, seg := t.seg, braid := t.braid })
    ∧ (∀ (s : State) (n : Nat), n < 8 → (s.sg n).phase = 5 → s.flag .WE_SLP_CTL_REQ n = true → s.rd .WE_SLP_STAT_STATE n = 0 →
      s.runsSegs = true → s.awake = true → ∃ t, exec (.sleepRetry n) s = .next t ∧ t.rd .WE_SLP_STAT_STATE n = 1 ∧ t.rd
      .WE_SLP_STAT_ROUND n = (s.rd .WE_SLP_STAT_ROUND n + 1) % 256 ∧ t =
      { s with regs := t.regs, can := t.can, seg := t.seg, braid := t.braid, mem := t.mem, eseq := t.eseq, elog := t.elog })

/-- R248, R249, R250, R255, R259: On a unit that commands segment states: COMMIT_ABORT in COMMIT leads to AWAKE with RESULT
3, the source and REQ clear; SEGMENT_WAKE_REQUEST on a sleeping segment leads to WAKING with source 5; SEGMENT_AWAKE
leads from WAKING to AWAKE with the transceivers in normal mode; WAKE_UP_PATTERN on a transceiver in sleep with WAKEEN
sets WUP and INH; WAKE_LINE_PULSE while the module sleeps records the line as the wake source; TRANSCEIVER_FAULT sets
FAULT. (The unit is awake: R334.) -/
def Obligations.SegmentsAndTransceiversWake : Prop :=
  (∀ (s : State) (n c : Nat), n < 8 → c < 16 → s.runsSegs = true → s.rd .WE_SLP_STAT_STATE n = 2 → s.awake = true → ∃ t,
      exec (.commitAbort n c) s = .next t ∧ t.rd .WE_SLP_STAT_STATE n = 0 ∧ t.rd .WE_SLP_STAT_RESULT n = 3 ∧ t.rd
      .WE_SLP_STAT_WAKESRC n = c ∧ t.rd .WE_SLP_CTL_REQ n = 0 ∧ t =
      { s with regs := t.regs, can := t.can, seg := t.seg, braid := t.braid, mem := t.mem, eseq := t.eseq, elog := t.elog })
    ∧ (∀ (s : State) (n : Nat), n < 8 → s.runsSegs = true → s.rd .WE_SLP_STAT_STATE n = 3 → s.awake = true → ∃ t, exec
      (.segmentWakeRequest n) s = .next t ∧ t.rd .WE_SLP_STAT_STATE n = 4 ∧ t.rd .WE_SLP_STAT_WAKESRC n = 5 ∧
      changesOnly s t [(.WE_SLP_STAT_STATE, n), (.WE_SLP_STAT_WAKESRC, n), (.BR_SEQ_LO, 0), (.BR_SEQ_HI, 0),
      (.CFP_CNT_FLUSH, 9), (.CFP_CNT_BUFDROP, 9), (.CF_BUF_FREE, 0)] ∧ t =
      { s with regs := t.regs, braid := t.braid, resp := t.resp })
    ∧ (∀ (s : State) (n k : Nat), n < 8 → k < 16 → s.segOf k = n → s.runsSegs = true → s.rd .WE_SLP_STAT_STATE n = 4 → s.awake
      = true → ∃ t, exec (.segmentAwake n) s = .next t ∧ t.rd .WE_SLP_STAT_STATE n = 0 ∧ t.rd .WE_SLP_CTL_REQ n = 0 ∧
      t.rd .XCVR_STAT_MODE k = 0 ∧ t.rd .XCVR_STAT_INH k = 1 ∧ t =
      { s with regs := t.regs, can := t.can, seg := t.seg, braid := t.braid, mem := t.mem, eseq := t.eseq, elog := t.elog })
    ∧ (∀ (s : State) (k : Nat), k < 16 → s.rd .XCVR_STAT_MODE k = 3 → s.flag .XCVR_CTL_WAKEEN k = true → ∃ t, exec
      (.wakeUpPattern k) s = .next t ∧ t.rd .XCVR_STAT_WUP k = 1 ∧ t.rd .XCVR_STAT_INH k = 1)
    ∧ (∀ (s : State) (n : Nat), n < 4 → s.unpowered = false → s.rd .SYS_PWR_STAT_STATE = 4 → s.pw.woken = false → ∃ t, exec
      (.wakeLinePulse n) s = .next t ∧ t.rd .XCVR_WAKELOG_SRC = 1 ∧ t.rd .XCVR_WAKELOG_INDEX = n ∧ t.pw.woken = true ∧ t
      = { s with regs := t.regs, pw := t.pw })
    ∧ (∀ (s : State) (k : Nat), k < 16 → ∃ t, exec (.transceiverFault k) s = .next t ∧ t.rd .XCVR_STAT_FAULT k = 1 ∧
      changesOnly s t [(.XCVR_STAT_FAULT, k)] ∧ t = { s with regs := t.regs })

/-- R262, R264, R266, R267, R279, R280: ETH_FRAME_RECEIVE on a port P0 to P7 whose link is up, with the switch enabled: a
bad FCS, or a length outside the limits, is counted and changes nothing else; a good frame is counted, sampled and goes
through the decision of R266, or is dropped where it is a MAC control frame. ETH_FRAME_TRANSMIT on the unit that holds
the claim sends the head of the highest queue that is not empty and removes it; on P8 that frame goes to the units
behind it. MIRROR_FRAME_START sends the oldest waiting frame of the mirror class with its FCS and counts it; with a bad
cell the FCS is inverted and STOMP set. (The unit is awake: R334.) -/
def Obligations.EthernetFramesInAndOut : Prop :=
  (∀ (s : State) (p : Nat) (b : List Nat), p < 8 → s.portUp p = true → s.flag .CF_CTL_EN = true → s.awake = true → ∃ t,
      exec (.ethFrameReceive p b false) s = .next t ∧ t.rd .CFP_CNT_RXFCS p = min (s.rd .CFP_CNT_RXFCS p + 1) (2 ^
      (Fld.info .CFP_CNT_RXFCS).width - 1) ∧ changesOnly s t [(.CFP_CNT_RXFCS, p)] ∧ t = { s with regs := t.regs })
    ∧ (∀ (s : State) (p : Nat) (b : List Nat), p < 8 → s.portUp p = true → s.flag .CF_CTL_EN = true → (b.length + 4 < 64 ∨
      s.rd .CFP_MAXLEN p < b.length + 4) → s.awake = true → ∃ t, exec (.ethFrameReceive p b true) s = .next t ∧ t.rd
      .CFP_CNT_RXLEN p = min (s.rd .CFP_CNT_RXLEN p + 1) (2 ^ (Fld.info .CFP_CNT_RXLEN).width - 1) ∧ changesOnly s t
      [(.CFP_CNT_RXLEN, p)] ∧ t = { s with regs := t.regs })
    ∧ (∀ (s : State) (p : Nat) (b : List Nat), p < 8 → s.portUp p = true → s.flag .CF_CTL_EN = true → 64 ≤ b.length + 4 →
      b.length + 4 ≤ s.rd .CFP_MAXLEN p → ethType (ethInner b) ≠ 0x8808 → s.awake = true → exec (.ethFrameReceive p b
      true) s = .next ((((s.inc .CFP_CNT_RXOK p).sample p b).switch p b none)))
    ∧ (∀ (s : State) (p q : Nat) (f : EthFrame) (rest : List EthFrame), p < 8 → s.portUp p = true → s.claim = true → q < 8 →
      s.queue p q = f :: rest → (s.pt p).queues.length = 8 → (List.range 8).all (fun x => x ≤ q || (s.queue p
      x).isEmpty) = true → f.revoke = false → f.desc = none → s.awake = true → ∃ t, exec (.ethFrameTransmit p) s = .next
      t ∧ t.queue p q = rest ∧ t.resp = .data (onWire p f) ∧ t.rd .CFP_CNT_TXOK p = min (s.rd .CFP_CNT_TXOK p + 1) (2 ^
      (Fld.info .CFP_CNT_TXOK).width - 1) ∧ t = { s with regs := t.regs, port := t.port, resp := t.resp })
    ∧ (∀ (s : State) (p : Nat) (b : List Nat), p < 8 → s.portUp p = true → s.flag .CF_CTL_EN = true → 64 ≤ b.length + 4 →
      b.length + 4 ≤ s.rd .CFP_MAXLEN p → ethType (ethInner b) = 0x8808 → s.awake = true → exec (.ethFrameReceive p b
      true) s = .next ((((s.inc .CFP_CNT_RXOK p).sample p b).inc .CFP_CNT_RXDROP p)))
    ∧ (∀ (s : State) (q : Nat) (f : EthFrame) (rest : List EthFrame), s.portUp 8 = true → q < 8 → s.queue 8 q = f :: rest →
      (List.range 8).all (fun x => x ≤ q || (s.queue 8 x).isEmpty) = true → f.revoke = false → f.desc = none → s.awake =
      true → exec (.ethFrameTransmit 8) s = .next ((((((s.setQueue 8 q rest).confView.answer .none).inc .CFP_CNT_TXOK
      8).toP8 f).answer (.data (onWire 8 f)))))
    ∧ (∀ (s : State) (b : Bool) (x : Nat) (l : List Nat), s.portUp 9 = true → s.braid.out.getLast? = some (x, l) → s.awake =
      true → ∃ t, exec (.mirrorFrameStart b) s = .next t ∧ t.rd .CFP_CNT_TXOK 9 = min (s.rd .CFP_CNT_TXOK 9 + 1) (2 ^
      (Fld.info .CFP_CNT_TXOK).width - 1) ∧ t.rd .CF_STAT_STOMP = (if b then 1 else s.rd .CF_STAT_STOMP) ∧ t.braid =
      { s.braid with out := s.braid.out.dropLast } ∧ t.resp = .data (l ++ leBytes 4 (crc32 l ^^^ (if b then 0xFFFFFFFF
      else 0))) ∧ changesOnly s t [(.CFP_CNT_TXOK, 9), (.CF_CNT_STOMP, 0), (.CF_STAT_STOMP, 0), (.CF_BUF_FREE, 0),
      (.CF_DRAIN_DONE, 0)] ∧ t = { s with regs := t.regs, braid := t.braid, resp := t.resp })
    ∧ (∀ (s : State) (b : Bool), (s.portUp 9 = false ∨ s.braid.out = []) → s.awake = true → exec (.mirrorFrameStart b) s =
      .next ((s.answer .none)))

/-- R268, R270, R272, R273, R275, R382: HOST_QUEUE_DOORBELL of a queue that the sender owns, with a tail inside the ring: a
receive queue takes the tail and nothing else changes; a transmit queue with one descriptor handed over to it, for a
port whose link is up, with a frame of a length that P8 takes, a descriptor and a buffer that the region checker leaves
open to the world of the queue, and no sampling there, counts its frame as received, gives the descriptor back and moves
its head to the tail. A VLAN entry that R270 and R272 allow is committed whole with CODE 0; CF_TABLE_REMOVE of a learned
MAC entry takes it out. (The master that sends a command runs: R334.) -/
def Obligations.HostQueuesAndTablesOfTheSwitch : Prop :=
  (∀ (s : State) (who : Initiator) (i n : Nat), i < 16 → owns (s.worldOf who) (World.ofCode (s.rd .HQ_CFG_WORLD i)) = true
      → n < s.hqSize i → n < 2 ^ (Fld.info .HQ_TAIL).width → s.masterRuns who = true → ∃ t, exec (.hostQueueDoorbell who
      i n) s = .next t ∧ t.rd .HQ_TAIL i = n ∧ changesOnly s t [(.HQ_TAIL, i)] ∧ t =
      { s with regs := t.regs, resp := t.resp })
    ∧ (∀ (s : State) (who : Initiator) (i n d : Nat), 16 ≤ i → i < 32 → s.flag .HQ_CFG_EN i = true → owns (s.worldOf who)
      (World.ofCode (s.rd .HQ_CFG_WORLD i)) = true → d = s.hqDesc i (s.rd .HQ_HEAD i) → s.rd .HQ_HEAD i ≠ n → n = (s.rd
      .HQ_HEAD i + 1) % s.hqSize i → n < 2 ^ (Fld.info .HQ_TAIL).width → s.flag .CF_CTL_EN = true → bit (s.byteAt (d +
      8)) 5 = true → s.byteAt (d + 8) % 16 < 8 → s.portUp (s.byteAt (d + 8) % 16) = true → s.flag .CFP_CTL_EN 8 = true →
      s.descOk i d = true → s.hqOk i (leVal (s.bytesAt d 5)) (cut 14 (s.byteAt (d + 6) + 256 * s.byteAt (d + 7))) .read
      = true → s.lenOk 8 (s.dataAt (leVal (s.bytesAt d 5)) (cut 14 (s.byteAt (d + 6) + 256 * s.byteAt (d + 7)))) = true
      → s.rd .CFP_SAMPLE_N 8 = 0 → s.masterRuns who = true → ∃ t, exec (.hostQueueDoorbell who i n) s = .next t ∧ t.rd
      .HQ_TAIL i = n ∧ t.rd .HQ_HEAD i = n ∧ bit (t.byteAt (d + 8)) 5 = false ∧ t.rd .CFP_CNT_RXOK 8 = min (s.rd
      .CFP_CNT_RXOK 8 + 1) (2 ^ (Fld.info .CFP_CNT_RXOK).width - 1) ∧ storesAt s t (d + 8) 1 ∧ t =
      { s with regs := t.regs, mem := t.mem, conf := t.conf, port := t.port, resp := t.resp })
    ∧ (∀ (s : State) (who : Initiator) (i : Nat), 0 < i → i < 4095 → foreign (s.worldOf who) (bit (NMap.at 0 s.conf.vlan i)
      31) (bits (NMap.at 0 s.conf.vlan i) 28 2) = false → bits (s.cfStage 0) 20 8 = 0 → bit (s.cfStage 0) 30 = false →
      s.masterRuns who = true → ∃ t, exec (.cfTableCommit who 1 i) s = .next t ∧ t.rd .CF_TBL_RESULT_CODE = 0 ∧ NMap.at
      0 t.conf.vlan i = cut 20 (s.cfStage 0) + 2 ^ 28 * (s.worldOf who).code + 2 ^ 31 * b2n (bit (s.cfStage 0) 31) ∧ (∀
      j, j ≠ i → NMap.at 0 t.conf.vlan j = NMap.at 0 s.conf.vlan j) ∧ t.conf.mac = s.conf.mac ∧ t.conf.acl = s.conf.acl
      ∧ changesOnly s t [(.CF_TBL_RESULT_CODE, 0), (.CF_GEN, 0), (.CF_BUF_FREE, 0), (.CF_DRAIN_DONE, 0), (.BR_CONFGEN,
      0)] ∧ t = { s with regs := t.regs, conf := t.conf, resp := t.resp })
    ∧ (∀ (s : State) (who : Initiator) (i : Nat) (e : MacEntry), s.macFind (s.cfStage 0 + 2 ^ 32 * cut 16 (s.cfStage 1)) (bits
      (s.cfStage 1) 16 12) = some e → e.static = false → s.masterRuns who = true → ∃ t, exec (.cfTableRemove who 0 i) s
      = .next t ∧ t.rd .CF_TBL_RESULT_CODE = 0 ∧ t.conf.mac = s.conf.mac.erase e ∧ t.conf.vlan = s.conf.vlan ∧
      changesOnly s t [(.CF_TBL_RESULT_CODE, 0), (.CF_GEN, 0), (.CF_BUF_FREE, 0), (.CF_DRAIN_DONE, 0), (.BR_CONFGEN, 0)]
      ∧ t = { s with regs := t.regs, conf := t.conf, resp := t.resp })

/-- R268, R282, R284, R286, R287: MAC_AGEING with AGE set removes the learned entries of its key that nothing has refreshed
for AGE seconds, and no other; STORM_WINDOW sets the counts of its port to zero; LINK_DOWN clears LINK, sets LINKEVT and
flushes the queues of its port; LINK_UP of an enabled port sets LINK and LINKEVT, and its queues start empty. From the
owning world PTP_CLOCK_SET and PTP_CLOCK_STEP set and shift the clock; PTP_SYNC_EXPIRE clears SYNC, no earlier than HOLD
seconds after the clock was last kept; PTP_CLOCK_READ latches seconds and nanoseconds. (The unit is awake where the
command needs its clock, and the master that sends a command runs: R334.) -/
def Obligations.SwitchTimersLinksAndClock : Prop :=
  (∀ (s : State) (m v : Nat), s.rd .CF_CTL_AGE ≠ 0 → s.awake = true → ∃ t, exec (.macAgeing m v) s = .next t ∧ t.conf.mac
      = s.conf.mac.filter (fun e => e.static || !(e.mac == m && e.vid == v && e.last + 100000000 * s.rd .CF_CTL_AGE ≤
      s.now)) ∧ t.conf.vlan = s.conf.vlan ∧ t.conf.acl = s.conf.acl ∧ t = { s with conf := t.conf })
    ∧ (∀ (s : State) (p : Nat), p < 10 → s.awake = true → ∃ t, exec (.stormWindow p) s = .next t ∧ t.pt p =
      { s.pt p with bc := 0, uu := 0, mc := 0 } ∧ t = { s with port := t.port })
    ∧ (∀ (s : State) (p : Nat), p < 10 → s.flag .CFP_STAT_LINK p = true → s.awake = true → ∃ t, exec (.linkDown p) s = .next t
      ∧ t.rd .CFP_STAT_LINK p = 0 ∧ t.rd .CFP_STAT_LINKEVT p = 1 ∧ (t.pt p).queues = List.replicate 8 [] ∧ t.braid = (if
      p = 9 then { s.braid with out := [] } else s.braid) ∧ t.conf.mac = s.conf.mac.filter (fun e => e.static || e.mask
      ≠ 2 ^ p) ∧ changesOnly s t [(.CFP_STAT_LINK, p), (.CFP_STAT_LINKEVT, p), (.CFP_CNT_FLUSH, p), (.CF_BUF_FREE, 0),
      (.CF_DRAIN_DONE, 0)] ∧ t = { s with regs := t.regs, conf := t.conf, port := t.port, braid := t.braid })
    ∧ (∀ (s : State) (p : Nat), p < 10 → s.flag .CFP_CTL_EN p = true → s.flag .CFP_STAT_LINK p = false → s.awake = true → ∃ t,
      exec (.linkUp p) s = .next t ∧ t.rd .CFP_STAT_LINK p = 1 ∧ t.rd .CFP_STAT_LINKEVT p = 1 ∧ (t.pt p).queues =
      List.replicate 8 [] ∧ changesOnly s t [(.CFP_STAT_LINK, p), (.CFP_STAT_LINKEVT, p), (.CF_BUF_FREE, 0),
      (.CF_DRAIN_DONE, 0)] ∧ t = { s with regs := t.regs, port := t.port, braid := t.braid })
    ∧ (∀ (s : State) (who : Initiator), owns (s.worldOf who) (World.ofCode (s.rd .CF_PTP_CTL_WORLD)) = true → s.masterRuns who
      = true → ∃ t, exec (.ptpClockSet who) s = .next t ∧ t.conf.ptp = ((s.rd .CF_PTP_SEC_LO + 2 ^ 32 * s.rd
      .CF_PTP_SEC_HI) * 1000000000 + s.rd .CF_PTP_NS) % (2 ^ 48 * 1000000000) ∧ t.conf.ptpAt = s.now ∧ t =
      { s with conf := t.conf, resp := t.resp })
    ∧ (∀ (s : State) (who : Initiator) (d : Nat), owns (s.worldOf who) (World.ofCode (s.rd .CF_PTP_CTL_WORLD)) = true →
      s.masterRuns who = true → ∃ t, exec (.ptpClockStep who d) s = .next t ∧ t.conf.ptp = ((s.ptpNow : Int) + toInt 32
      d).toNat % (2 ^ 48 * 1000000000) ∧ t.conf.ptpAt = s.now ∧ t = { s with conf := t.conf, resp := t.resp })
    ∧ (∀ (s : State), s.awake = true → ∃ t, exec (.ptpSyncExpire) s = .next t ∧ t.rd .CF_PTP_CTL_SYNC = 0 ∧ t.now = max s.now
      (s.conf.ptpKept + 100000000 * s.rd .CF_PTP_CTL_HOLD) ∧ changesOnly s t [(.CF_PTP_CTL_SYNC, 0)] ∧ t =
      { s with regs := t.regs, now := t.now })
    ∧ (∀ (s : State), s.awake = true → ∃ t, exec (.ptpClockRead) s = .next t ∧ t.rd .CF_PTP_SEC_LO = s.ptpNow / 1000000000 % 2
      ^ 32 ∧ t.rd .CF_PTP_NS = s.ptpNow % 1000000000 ∧ t.resp = .value (s.ptpNow / 1000000000 % 2 ^ 32) ∧ changesOnly s
      t [(.CF_PTP_SEC_LO, 0), (.CF_PTP_SEC_HI, 0), (.CF_PTP_NS, 0)] ∧ t = { s with regs := t.regs, resp := t.resp })

/-- R292, R294, R295, R296, R297: In pair mode: HEARTBEAT_SEND sends a heartbeat of the present state on P9, where that port
is enabled with link and has room, and the pulse in every case; HEARTBEAT_RECEIVE of a pulse shows HBEAT present, and
fencing stops once both paths have been heard for 10 ms; of a frame (STALE) the partner's state, epoch and generation;
HEARTBEAT_MISS counts, and the third on P9 makes a standby that hears HBEAT stale, on HBEAT a standby that has lost P9
too take the latch; PRESENCE_FRAME_SEND while fencing offers a frame on each fence channel. KEEPALIVE from the safety
world keeps the claim alive, KEEPALIVE_EXPIRE ends it. (The unit is awake where the command needs its clock, and the
master that sends a command runs: R334.) -/
def Obligations.HeartbeatsMissesAndPresence : Prop :=
  (∀ (s : State), s.pairMode = true → (s.claim = false ∨ s.braid.kept = true) → s.flag .CFP_CTL_EN 9 = true → s.flag
      .CFP_STAT_LINK 9 = true → s.room 9 7 (cellsFor ((s.p9Frame 0x01 s.lastSeq s.heartbeat).length + 4)) = true →
      s.awake = true → ∃ t, exec (.heartbeatSend) s = .next t ∧ t.braid.out = (0x01, (s.formConfsum.p9Frame 0x01
      s.formConfsum.lastSeq s.formConfsum.heartbeat)) :: s.braid.out ∧ t.rd .BR_CONFSUM = s.confsum % 2 ^ 32 ∧
      t.braid.pulse = some s.now ∧ changesOnly s t [(.BR_CONFSUM, 0), (.CF_BUF_FREE, 0)] ∧ t =
      { s with regs := t.regs, braid := t.braid })
    ∧ (∀ (s : State), s.pairMode = true → (s.claim = false ∨ s.braid.kept = true) → s.flag .CFP_CTL_EN 9 = false → s.awake =
      true → ∃ t, exec (.heartbeatSend) s = .next t ∧ t.braid.out = s.braid.out ∧ t.braid.pulse = some s.now ∧
      changesOnly s t [(.BR_CONFSUM, 0)] ∧ t = { s with regs := t.regs, braid := t.braid })
    ∧ (∀ (s : State), s.pairMode = true → s.standby = false → s.awake = true → ∃ t, exec (.heartbeatReceive none) s = .next t
      ∧ t.rd .BR_STAT_HBOK = 1 ∧ t.braid.hbMiss = 0 ∧ changesOnly s t [(.BR_STAT_HBOK, 0), (.BR_STAT_FENCING, 0)] ∧ t =
      { s with regs := t.regs, braid := t.braid, can := t.can })
    ∧ (∀ (s : State) (h : Heartbeat), s.pairMode = true → s.brState = 2 → s.awake = true → ∃ t, exec (.heartbeatReceive (some
      h)) s = .next t ∧ t.rd .BR_STAT_P9OK = 1 ∧ t.braid.p9Miss = 0 ∧ t.rd .BR_PEER % 16 = h.state % 16 ∧ t.rd
      .BR_PEER_EPOCH = h.epoch % 2 ^ 32 ∧ t.rd .BR_PEER_CONFGEN = h.confgen % 2 ^ 32 ∧ t.rd .BR_STAT_FMTDIFF = b2n
      (h.mirfmt % 256 != s.rd .BR_MIRFMT) ∧ t = { s with regs := t.regs, braid := t.braid, can := t.can })
    ∧ (∀ (s : State), s.pairMode = true → s.standby = true → s.braid.p9Miss = 2 → s.flag .BR_STAT_HBOK = true → s.braid.hbMiss
      = 0 → s.awake = true → ∃ t, exec (.heartbeatMiss 0) s = .next t ∧ t.rd .BR_STAT_P9OK = 0 ∧ t.rd .BR_STAT_STATE = 2
      ∧ t.rd .BR_CNT_P9MISS = min (s.rd .BR_CNT_P9MISS + 1) (2 ^ (Fld.info .BR_CNT_P9MISS).width - 1))
    ∧ (∀ (s : State), s.pairMode = true → s.standby = true → s.braid.hbMiss = 2 → s.flag .BR_STAT_P9OK = false → s.flag
      .BR_STAT_PCLAIM = false → s.flag .BR_STAT_SEATED = true → s.braid.presenceAt = none → s.braid.latch = false →
      s.awake = true → ∃ t, exec (.heartbeatMiss 1) s = .next t ∧ t.rd .BR_STAT_HBOK = 0 ∧ t.braid.latch = true ∧
      t.braid.window = true ∧ t.braid.cause = 1 ∧ (∀ x, s.braid.relAt = some x → x + 4000 ≤ t.now))
    ∧ (∀ (s : State) (u : Nat), s.pairMode = true → s.standby = false → s.flag .BR_STAT_P9OK = true → s.braid.p9Miss = 0 →
      s.braid.bothAt = some u → u + 1000000 ≤ s.now → s.awake = true → ∃ t, exec (.heartbeatReceive none) s = .next t ∧
      t.rd .BR_STAT_FENCING = 0 ∧ ((List.range 16).all fun k => (s.cn k).tx == some .presence || !(t.cn k).presence) =
      true ∧ changesOnly s t [(.BR_STAT_HBOK, 0), (.BR_STAT_FENCING, 0)] ∧ t =
      { s with regs := t.regs, braid := t.braid, can := t.can })
    ∧ (∀ (s : State) (k : Nat), s.flag .BR_STAT_FENCING = true → k < 16 → bit (s.rd .BR_FENCE_FENCECH) k = true → s.awake =
      true → ∃ t, exec (.presenceFrameSend) s = .next t ∧ (t.cn k).presence = true ∧ t = { s with can := t.can })
    ∧ (∀ (s : State) (who : Initiator), s.worldOf who = .safety → s.masterRuns who = true → ∃ t, exec (.keepalive who) s =
      .next t ∧ t.braid.kept = true ∧ t = { s with braid := t.braid, resp := t.resp })
    ∧ (∀ (s : State), s.pairMode = true → (s.brState = 5 ∨ s.brState = 6) → s.awake = true → ∃ t, exec (.keepaliveExpire) s =
      .next t ∧ t.braid.kept = false ∧ t.braid.latch = false ∧ t.rd .BR_STAT_CLAIM = 0 ∧ t.rd .BR_STAT_STATE = 2)

/-- R42, R291, R292, R301, R319, R320: CLAIM_CONFIRM of a unit in single mode that restores nothing makes the claim count
and leads to SOLO; of a unit of a pair with an open window and a claim that the partner shows, unit B releases.
PARTNER_CLAIM_RELEASED clears PCLAIM; CLAIM_CONFLICT makes unit B release; CLAIM_RELEASE from the safety world in ACTIVE
or ALONE, or with the latch set, leads to STALE without claim, and in ACTIVE or ALONE a heartbeat leaves on an open P9;
ADOPT where R320 allows it, and START_ALONE after its wait, set the latch with their cause; PLANNED_SWAP is accepted or
refused; CLAIM_LINE_FAULT sets CLAIMFAULT. (The unit is awake where the command needs its clock, and the master that
sends a command runs: R334.) -/
def Obligations.ClaimIsTakenAndGivenUp : Prop :=
  (∀ (s : State), s.pairMode = false → s.claim = false → s.flag .BR_STAT_PCLAIM = false → s.braid.restored = true →
      s.braid.entering = false → s.awake = true → ∃ t, exec (.claimConfirm false) s = .next t ∧ t.rd .BR_STAT_CLAIM = 1
      ∧ t.rd .BR_STAT_STATE = 1 ∧ t.braid.latch = true)
    ∧ (∀ (s : State), s.pairMode = true → s.braid.window = true → s.flag .BR_STAT_UNIT = true → s.awake = true → ∃ t, exec
      (.claimConfirm true) s = .next t ∧ t.rd .BR_STAT_CLAIM = 0 ∧ t.rd .BR_STAT_PCLAIM = 1 ∧ t.rd .BR_STAT_STATE = 2 ∧
      t.braid.latch = false)
    ∧ (∀ (s : State), s.pairMode = true → s.standby = false → ∃ t, exec (.partnerClaimReleased) s = .next t ∧ t.rd
      .BR_STAT_PCLAIM = 0 ∧ t.braid.relAt = some s.now ∧ changesOnly s t [(.BR_STAT_PCLAIM, 0)] ∧ t =
      { s with regs := t.regs, braid := t.braid })
    ∧ (∀ (s : State), s.pairMode = true → s.braid.latch = true → s.flag .BR_STAT_UNIT = true → s.awake = true → ∃ t, exec
      (.claimConflict) s = .next t ∧ t.braid.latch = false ∧ t.rd .BR_STAT_CLAIM = 0 ∧ t.rd .BR_STAT_PCLAIM = 1 ∧ t.rd
      .BR_STAT_STATE = 2)
    ∧ (∀ (s : State) (who : Initiator), s.worldOf who = .safety → s.pairMode = true → (s.brState = 5 ∨ s.brState = 6 ∨
      s.braid.latch = true) → s.masterRuns who = true → ∃ t, exec (.claimRelease who) s = .next t ∧ t.braid.latch =
      false ∧ t.rd .BR_STAT_CLAIM = 0 ∧ t.rd .BR_STAT_STATE = 2 ∧ t.braid.gave = 1)
    ∧ (∀ (s : State) (who : Initiator), s.worldOf who = .safety → s.pairMode = true → (s.brState = 5 ∨ s.brState = 6) → s.flag
      .CFP_CTL_EN 9 = true → s.flag .CFP_STAT_LINK 9 = true → s.room 9 7 (cellsFor ((s.p9Frame 0x01 s.lastSeq
      ({ s with braid := { s.braid with gave := 1 } } : State).heartbeat).length + 4)) = true → s.masterRuns who = true
      → ∃ t, exec (.claimRelease who) s = .next t ∧ (t.braid.out.head?.map (·.1)) = some 0x01)
    ∧ (∀ (s : State) (who : Initiator), s.worldOf who = .safety → s.swapOk = true → s.masterRuns who = true → ∃ t, exec
      (.plannedSwap who) s = .next t ∧ t.braid.swapWait = true ∧ t = { s with braid := t.braid, resp := t.resp })
    ∧ (∀ (s : State) (who : Initiator), s.worldOf who = .safety → s.swapOk = false → s.masterRuns who = true → ∃ t, exec
      (.plannedSwap who) s = .next t ∧ t.rd .BR_STAT_REFUSED = 1 ∧ changesOnly s t [(.BR_STAT_REFUSED, 0)] ∧ t =
      { s with regs := t.regs, resp := t.resp })
    ∧ (∀ (s : State) (who : Initiator), s.worldOf who = .safety → s.adoptOk = true → s.masterRuns who = true → ∃ t, exec
      (.adopt who) s = .next t ∧ t.braid.latch = true ∧ t.braid.window = true ∧ t.braid.cause = 5 ∧ s.now ≤ t.now ∧ (∀
      x, s.braid.relAt = some x → x + 4000 ≤ t.now) ∧ t = { s with braid := t.braid, now := t.now, resp := t.resp })
    ∧ (∀ (s : State) (w : Nat), s.pairMode = true → s.brState = 0 → s.flag .BR_STAT_P9OK = false → s.flag .BR_STAT_HBOK =
      false → s.flag .BR_STAT_SEATED = true → s.flag .BR_STAT_PCLAIM = false → s.rd .BR_FENCE_FENCECH ≠ 0 → s.flag
      .SYS_WAKE_RESTORE = false → s.braid.latch = false → w = (if s.flag .BR_STAT_UNIT then 400000000 else 200000000) →
      s.awake = true → ∃ t, exec (.startAlone) s = .next t ∧ t.braid.latch = true ∧ t.braid.cause = 4 ∧ s.pw.t0 + w ≤
      t.now ∧ (∀ x, s.braid.presenceAt = some x → x + w ≤ t.now) ∧ t = { s with braid := t.braid, now := t.now })
    ∧ (∀ (s : State), s.awake = true → ∃ t, exec (.claimLineFault) s = .next t ∧ t.rd .BR_STAT_CLAIMFAULT = 1 ∧ changesOnly s
      t [(.BR_STAT_CLAIMFAULT, 0)] ∧ t = { s with regs := t.regs })

/-- R43, R302, R305, R309, R315, R316, R321: BRAID_RECORD_PROCESS on a standby with no more than 8 ms of lag: the record
with the next SEQ is taken, acknowledged and carried out; one behind a gap is not, and a replay is asked for on an open
P9; one behind a gap that no buffer can hold makes the unit STALE, and a journal record without room waits with JFULL;
what a standby sends without SEQ of its own (update state, completion marks) is taken as it comes. BRAID_ACKNOWLEDGEMENT
in ACTIVE releases what it covers; in STANDBY after a swap too; REPLAY_REQUEST sends the records from the SEQ on again,
in order, each as a mirror frame of its own; STATE_REGION_READY sends the region, or records the access where the region
checker refuses it; RESYNC_START and BLOOP_CHANGE, STANDBY_SELF_TEST and JOURNAL_CONTROL_WRITE act as R321, R43, R316
and R309 say. (The unit is awake where the command needs its clock, and the master that sends a command runs: R334.) -/
def Obligations.MirrorRecordsInOrder : Prop :=
  (∀ (s : State) (q lag : Nat) (x : BraidRec), s.pairMode = true → (s.brState = 3 ∨ s.brState = 4) → q < 2 ^ 48 → q =
      (s.braid.rxSeq + 1) % 2 ^ 48 → lag ≤ 8000 → takenInOrder x = true → s.recordStuck x = false → s.awake = true →
      exec (.braidRecordProcess q lag x) s = .next ((((({ s with braid := { s.braid with rxSeq := q, gap := false } }.wr
      .BR_SEQ_LO (cut 32 q)).wr .BR_SEQ_HI (q / 2 ^ 32)).wr .BR_LAG (min lag 0xFFFF)).sendFree 0x04 (leBytes 6
      q)).recordTaken x))
    ∧ (∀ (s : State) (q lag : Nat) (x : BraidRec), s.pairMode = true → (s.brState = 3 ∨ s.brState = 4) → q < 2 ^ 48 → q =
      (s.braid.rxSeq + 1) % 2 ^ 48 → takenInOrder x = true → s.recordStuck x = true → s.awake = true → ∃ t, exec
      (.braidRecordProcess q lag x) s = .next t ∧ t.rd .BR_STAT_JFULL = 1 ∧ changesOnly s t [(.BR_STAT_JFULL, 0)] ∧ t =
      { s with regs := t.regs })
    ∧ (∀ (s : State) (q lag : Nat) (x : BraidRec), s.pairMode = true → (s.brState = 4 ∨ (s.brState = 3 ∧ s.braid.rxSeq ≠ 0)) →
      q < 2 ^ 48 → s.braid.rxSeq + 1 < q → q ≤ s.braid.rxSeq + 65536 → takenInOrder x = true → s.flag .CFP_CTL_EN 9 =
      true → s.flag .CFP_STAT_LINK 9 = true → s.room 9 7 (cellsFor ((s.p9Frame 0x08 s.lastSeq (leBytes 6 (s.braid.rxSeq
      + 1))).length + 4)) = true → s.awake = true → ∃ t, exec (.braidRecordProcess q lag x) s = .next t ∧ t.braid.gap =
      true ∧ t.braid.rxSeq = s.braid.rxSeq ∧ t.braid.out = (0x08, (s.p9Frame 0x08 s.lastSeq (leBytes 6 (s.braid.rxSeq +
      1)))) :: s.braid.out ∧ changesOnly s t [(.CF_BUF_FREE, 0)] ∧ t = { s with regs := t.regs, braid := t.braid })
    ∧ (∀ (s : State) (q lag : Nat) (x : BraidRec), s.pairMode = true → s.brState = 4 → q < 2 ^ 48 → s.braid.rxSeq + 65536 < q
      → takenInOrder x = true → s.awake = true → ∃ t, exec (.braidRecordProcess q lag x) s = .next t ∧ t.rd
      .BR_STAT_STATE = 2 ∧ t.braid.rxSeq = s.braid.rxSeq)
    ∧ (∀ (s : State) (q lag a b m : Nat), s.pairMode = true → a < 2 ^ 24 → b < 256 → m < 2 ^ 32 → s.awake = true → ∃ t, exec
      (.braidRecordProcess q lag (.update a b m)) s = .next t ∧ t.od.partner = (a, b, m) ∧ t = { s with od := t.od })
    ∧ (∀ (s : State) (q n a : Nat), s.pairMode = true → (s.brState = 5 ∨ s.brState = 4) → q < 2 ^ 48 → q ≤ s.lastSeq → a ≤ q →
      s.braid.releases = [(a, .gaugeClose n)] → s.braid.waiting = [] → s.awake = true → ∃ t, exec (.braidAcknowledgement
      q) s = .next t ∧ t.gauge.wait = some n ∧ t.braid.releases = [] ∧ t.braid.acked = max s.braid.acked q)
    ∧ (∀ (s : State) (q : Nat) (r : BraidRec) (l : List (Nat × BraidRec)), s.sending = true → (s.braid.sent.filter (fun e => q
      ≤ e.1)).reverse = (q, r) :: l → s.awake = true → exec (.replayRequest q) s = .next
      ((({ s with braid := { s.braid with resent := (q, r) :: l } }.inc .BR_CNT_REPLAY).each ((q, r) :: l) fun s e =>
      s.mirror e.2.type (s.p9Frame e.2.type e.1 (Config.recordBody e.1)))))
    ∧ (∀ (s : State) (who : Initiator) (w : Nat), w < 3 → s.worldOf who = .safety → s.sending = true → s.rd .BR_PEER % 16 = 3
      → s.rangeOk 0x14 .safety (s.regionAddr w) (s.rd .BR_STATE_LEN w) .read = true → s.masterRuns who = true → ∃ t,
      exec (.stateRegionReady who w) s = .next t ∧ t.rd .BR_STATE_CTL_DONE w = 1 ∧ t.braid.sent.head?.map (·.2) = some
      (.region w (s.dataAt (s.regionAddr w) (s.rd .BR_STATE_LEN w))) ∧ t =
      { s with regs := t.regs, braid := t.braid, resp := t.resp })
    ∧ (∀ (s : State) (who : Initiator) (w : Nat), w < 3 → s.worldOf who = .safety → s.sending = true → s.rd .BR_PEER % 16 = 3
      → s.rangeOk 0x14 .safety (s.regionAddr w) (s.rd .BR_STATE_LEN w) .read = false → s.masterRuns who = true → ∃ t,
      exec (.stateRegionReady who w) s = .next t ∧ t.elog.head?.map (fun e => (e.src, e.evt, e.master)) = some (0x01,
      0x01, 0x14) ∧ t = { s with eseq := t.eseq, elog := t.elog, resp := t.resp })
    ∧ (∀ (s : State) (who : Initiator), s.worldOf who = .safety → who.master ≠ 0xFF → s.syncOk = true → s.masterRuns who =
      true → ∃ t, exec (.resyncStart who) s = .next t ∧ t.rd .BR_STAT_STATE = 3 ∧ t.braid.synced = 0 ∧ t.braid.regions =
      0 ∧ ((List.range 3).all fun w => t.rd .BR_STATE_CTL_DONE w == 0) = true)
    ∧ (∀ (s : State) (b : Bool), ∃ t, exec (.bloopChange b) s = .next t ∧ t.rd .BR_STAT_SEATED = b2n b ∧ t.rd .BR_STAT_FENCING
      = (if s.pairMode && s.claim && !b then 1 else s.rd .BR_STAT_FENCING) ∧ changesOnly s t [(.BR_STAT_SEATED, 0),
      (.BR_STAT_FENCING, 0)] ∧ t = { s with regs := t.regs })
    ∧ (∀ (s : State) (n : Nat) (b : Bool), s.pairMode = true → s.standby = true → s.flag .BR_CTL_TEST = true → s.rd .BR_LAG <
      4000 → n < 14 → n < s.braid.testTurns.length → s.awake = true → ∃ t, exec (.standbySelfTest n b) s = .next t ∧ bit
      (t.rd .BR_HEALTH) n = b ∧ t.rd .BR_HEALTH < 2 ^ 31 ∧ t.braid.testTurns.getD n 0 = s.mr.turn ∧ changesOnly s t
      [(.BR_HEALTH, 0)] ∧ t =
      { s with regs := t.regs, braid := t.braid, eseq := t.eseq, elog := t.elog, free := t.free })
    ∧ (∀ (s : State), s.awake = true → ∃ t, exec (.journalControlWrite) s = .next t ∧ t.braid.ctlSeq = (s.braid.ctlSeq + 1) %
      2 ^ 32 ∧ storesAt s t (mram + 0x1000 * ((s.braid.ctlSeq + 1) % 2 ^ 32 % 2)) 26 ∧ t =
      { s with mem := t.mem, braid := t.braid, eseq := t.eseq, elog := t.elog })

/-- R293, R331, R332, R333, R337, R343, R344, R354, R433: LOCKSTEP_ERROR freezes a pair that runs undisturbed, with its
cause and pc, and in pair mode ends the claim; the other pair restarts it (PAIR_RESTART) and tests it (PAIR_SELFTEST);
DEBUG_HALT, where debug is open and SID set, breaks it; BOTH_PAIRS_FROZEN resets the module with cause 4.
UNCORRECTABLE_ERROR records the access and raises the memory error interrupt of the safety world, and of the normal
world for DRAM and system SRAM. FERRY_POLL counts until the response clears the count (FERRY_POLL_RESPONSE, which
fetches up to four edges and carries the last edge of a channel to IO_LAST); DIE_POLL_TIMEOUT ends ACT; CRC errors,
retrains and read timeouts act as R344 says. (The unit is awake where the command needs its clock, and the master that
sends a command runs: R334.) -/
def Obligations.PairsMemoryErrorsAndFerry : Prop :=
  (∀ (s : State) (p c v : Nat), p < 2 → 1 ≤ c → c ≤ 3 → v < 2 ^ 32 → s.flag .LS_STAT_FROZEN p = false → s.flag
      .LS_STAT_DBGBRK p = false → s.pairMode = false → s.awake = true → ∃ t, exec (.lockstepError p c v) s = .next t ∧
      t.rd .LS_STAT_ERR p = 1 ∧ t.rd .LS_STAT_FROZEN p = 1 ∧ t.rd .LS_STAT_CAUSE p = c ∧ t.rd .LS_PC p = v ∧ changesOnly
      s t [(.LS_STAT_ERR, p), (.LS_STAT_FROZEN, p), (.LS_STAT_CAUSE, p), (.LS_PC, p)] ∧ t =
      { s with regs := t.regs, irqs := t.irqs })
    ∧ (∀ (s : State) (p c v : Nat), p < 2 → s.flag .LS_STAT_FROZEN p = false → s.flag .LS_STAT_DBGBRK p = false → s.pairMode =
      true → s.braid.latch = true → s.awake = true → ∃ t, exec (.lockstepError p c v) s = .next t ∧ t.rd .LS_STAT_FROZEN
      p = 1 ∧ t.braid.latch = false ∧ t.rd .BR_STAT_CLAIM = 0 ∧ t.rd .BR_STAT_STATE = 2)
    ∧ (∀ (s : State) (who : Initiator) (p : Nat), p < 2 → who.master = 2 - p → s.flag .LS_STAT_ERR p = true → s.masterRuns who
      = true → ∃ t, exec (.pairRestart who p) s = .next t ∧ t.rd .LS_STAT_ERR p = 0 ∧ t.rd .LS_STAT_FROZEN p = 0 ∧ t.rd
      .LS_STAT_CAUSE p = 0 ∧ t.rd .LS_STAT_RESTARTS p = min (s.rd .LS_STAT_RESTARTS p + 1) (2 ^ (Fld.info
      .LS_STAT_RESTARTS).width - 1) ∧ changesOnly s t [(.LS_STAT_ERR, p), (.LS_STAT_FROZEN, p), (.LS_STAT_CAUSE, p),
      (.LS_STAT_RESTARTS, p), (.LS_STAT_STFAIL, p)] ∧ t =
      { s with regs := t.regs, locks := t.locks, irqs := t.irqs, free := t.free, resp := t.resp })
    ∧ (∀ (s : State) (who : Initiator) (p : Nat) (b : Bool), p < 2 → who.master = 2 - p → s.masterRuns who = true → ∃ t, exec
      (.pairSelftest who p b) s = .next t ∧ t.rd .LS_STAT_STFAIL p = (if b then 1 else s.rd .LS_STAT_STFAIL p) ∧
      changesOnly s t [(.LS_STAT_STFAIL, p)] ∧ t = { s with regs := t.regs, resp := t.resp })
    ∧ (∀ (s : State) (p : Nat), p < 2 → s.debugOpen = true → s.flag .HW_DBG_SID = true → s.flag .LS_STAT_DBGBRK p = false →
      s.pairMode = false → ∃ t, exec (.debugHalt p) s = .next t ∧ t.rd .LS_STAT_DBGBRK p = 1 ∧ t.rd .LS_STAT_ERR p = 1 ∧
      t.rd .LS_STAT_CAUSE p = 0 ∧ changesOnly s t [(.LS_STAT_DBGBRK, p), (.LS_STAT_ERR, p), (.LS_STAT_CAUSE, p)] ∧ t =
      { s with regs := t.regs, irqs := t.irqs })
    ∧ (∀ (s : State), s.flag .LS_STAT_FROZEN 0 = true → s.flag .LS_STAT_FROZEN 1 = true → s.awake = true → exec
      (.bothPairsFrozen) s = .next (s.coldStart 4))
    ∧ (∀ (s : State) (who : Initiator) (a m : Nat), m < 6 → a < 2 ^ 40 → who.master < 256 → s.masterRuns who = true → ∃ t,
      exec (.uncorrectableError who a m) s = .next t ∧ t.rd .MEM_UE_ADDR_LO = a % 2 ^ 32 ∧ t.rd .MEM_UE_ADDR_HI = a / 2
      ^ 32 ∧ t.rd .MEM_UE_INFO_MASTER = who.master ∧ t.rd .MEM_UE_INFO_MEM = m ∧ t.rd .MEM_UE_INFO_EVT = 1 ∧
      t.irqs.contains 44 = true ∧ (sharedRam a = false ∨ t.irqs.contains 43 = true) ∧ t.resp = .accessFault ∧
      changesOnly s t [(.MEM_UE_ADDR_LO, 0), (.MEM_UE_ADDR_HI, 0), (.MEM_UE_INFO_MASTER, 0), (.MEM_UE_INFO_MEM, 0),
      (.MEM_UE_INFO_EVT, 0)] ∧ t =
      { s with regs := t.regs, irqs := t.irqs, eseq := t.eseq, elog := t.elog, resp := t.resp })
    ∧ (∀ (s : State) (g : Nat), g < 4 → s.dieReach g = true → s.pw.off = false → (s.di g).missed < 3 → s.awake = true → ∃ t,
      exec (.ferryPoll g) s = .next t ∧ (t.di g).pollClaim = s.claim)
    ∧ (∀ (s : State) (g : Nat), g < 4 → s.dieReach g = true → s.pw.off = false → (s.di g).missed < 3 → s.flag .FG_CTL_EN =
      false → s.awake = true → ∃ t, exec (.ferryPoll g) s = .next t ∧ (t.di g).missed = (s.di g).missed + 1 ∧ (t.di
      g).pairFlag = s.pairMode ∧ t.rd .SL_WD_STAT_ACT g = b2n s.claim ∧ t =
      { s with regs := t.regs, chan := t.chan, die := t.die, io := t.io, free := t.free, irqs := t.irqs, ferry := t.ferry })
    ∧ (∀ (s : State) (g : Nat) (d : Die), g < 4 → s.di g = d → d.up = true → s.pw.off = false → d.news = [] →
      s.ferry.reports.filter (·.die == g) = [] → s.ferry.writes.filter (·.die == g) = [] → s.ferry.rebooted.contains g =
      false → s.awake = true → ∃ t, exec (.ferryPollResponse g []) s = .next t ∧ (t.di g).missed = 0 ∧ (t.di g).polled =
      d.polled ++ d.fifo.take 4 ∧ (t.di g).fifo = d.fifo.drop 4 ∧ bit (t.rd .FY_STAT_REACH) g = true ∧ bit (t.rd
      .FY_STAT_UP) g = true ∧ t.rd .FY_LINK_STATE g = 2 ∧ changesOnly s t [(.FY_STAT_REACH, 0), (.FY_STAT_UP, 0),
      (.FY_LINK_STATE, g)] ∧ t = { s with regs := t.regs, die := t.die, ferry := t.ferry })
    ∧ (∀ (s : State) (g k v : Nat) (b full : Bool) (d : Die), g < 4 → k < 48 → v < 2 ^ 51 → s.di g = d → d.up = true →
      s.pw.off = false → d.news = [(k, b, v, full)] → s.ferry.reports.filter (·.die == g) = [] → s.ferry.writes.filter
      (·.die == g) = [] → s.ferry.rebooted.contains g = false → s.flag .FG_CTL_EN = false → s.awake = true → ∃ t, exec
      (.ferryPollResponse g []) s = .next t ∧ t.rd .IO_LAST (2 * k) = v % 2 ^ 32 ∧ t.rd .IO_LAST (2 * k + 1) = v / 2 ^
      32 ∧ t.rd .IO_EDGE_LOST g = (if full then min (s.rd .IO_EDGE_LOST g + 1) (2 ^ (Fld.info .IO_EDGE_LOST).width - 1)
      else s.rd .IO_EDGE_LOST g) ∧ changesOnly s t [(.FY_STAT_REACH, 0), (.FY_STAT_UP, 0), (.FY_LINK_STATE, g),
      (.IO_LAST, (2 * k)), (.IO_LAST, (2 * k + 1)), (.IO_EDGE_LOST, g)] ∧ t =
      { s with regs := t.regs, die := t.die, ferry := t.ferry })
    ∧ (∀ (s : State) (g : Nat) (r : DieReport), g < 4 → (s.di g).up = true → s.pw.off = false → (s.di g).news = [] →
      s.ferry.reports = [r] → r.die = g → s.ferry.writes = [] → s.ferry.rebooted.contains g = false → s.eseq <
      0xFFFFFFFF → s.awake = true → ∃ t, exec (.ferryPollResponse g []) s = .next t ∧ t.ferry.reports = [] ∧
      t.elog.head? = some ⟨r.stamp, s.eseq + 1, 0x04, r.evt, Initiator.hw.master, (s.worldOf Initiator.hw).code,
      r.data⟩)
    ∧ (∀ (s : State) (g : Nat), g < 4 → (s.di g).pairFlag = true → (s.di g).up = true → s.flag .FG_CTL_EN = false → s.awake =
      true → ∃ t, exec (.diePollTimeout g) s = .next t ∧ t.rd .SL_WD_STAT_ACT g = 0 ∧ t =
      { s with regs := t.regs, chan := t.chan, die := t.die, io := t.io, free := t.free, irqs := t.irqs })
    ∧ (∀ (s : State) (g : Nat), g < 4 → s.awake = true → ∃ t, exec (.ferryCrcError g) s = .next t ∧ (t.di g).crcRun = (s.di
      g).crcRun + 1 ∧ t.rd .FY_LINK_CRCERR g = min (s.rd .FY_LINK_CRCERR g + 1) (2 ^ (Fld.info .FY_LINK_CRCERR).width -
      1) ∧ changesOnly s t [(.FY_LINK_CRCERR, g)] ∧ t = { s with regs := t.regs, die := t.die })
    ∧ (∀ (s : State) (g : Nat) (d : Die), g < 4 → s.di g = d → 8 ≤ d.crcRun → 2 ≤ d.retrains → s.ferry.writes = [] → s.awake =
      true → ∃ t, exec (.ferryRetrain g false) s = .next t ∧ (t.di g).linkDown = true ∧ t.rd .FY_LINK_STATE g = 0 ∧ bit
      (t.rd .FY_STAT_UP) g = false ∧ bit (t.rd .FY_STAT_REACH) g = false ∧ changesOnly s t [(.FY_LINK_RETRAIN, g),
      (.FY_LINK_STATE, g), (.FY_STAT_UP, 0), (.FY_STAT_REACH, 0)] ∧ t =
      { s with regs := t.regs, die := t.die, ferry := t.ferry, free := t.free })
    ∧ (∀ (s : State), s.awake = true → ∃ t, exec (.ferryReadTimeout) s = .next t ∧ t.resp = .accessFault ∧ t =
      { s with resp := t.resp })

/-- R347, R348, R349, R351, R352: From the master of the endpoint: EDDY_PUSH appends a word to a channel with room and is
refused on a full one; EDDY_DOORBELL on a channel that holds a word starts its timer and rings the receiver; EDDY_POP
removes the head word and restarts the timer while words are left; EDDY_TIMEOUT of a running timer sets TIMEOUT at both
ends. LOCK_ACQUIRE of a free lock that is open to the world gives it to the master; LOCK_RELEASE by its owner frees it.
(The unit is awake where the command needs its clock, and the master that sends a command runs: R334.) -/
def Obligations.MailboxesAndLocks : Prop :=
  (∀ (s : State) (who : Initiator) (e r h : Nat), e < 8 → r < 8 → e ≠ r → h < 2 ^ 32 → who.master = eddyMaster e → (s.ed
      (8 * e + r)).words.length < 4 → s.masterRuns who = true → ∃ t, exec (.eddyPush who e r h) s = .next t ∧ (t.ed (8 *
      e + r)).words = (s.ed (8 * e + r)).words ++ [s.rd .ED_TX_LO (8 * e + r) + 2 ^ 32 * h] ∧ t.rd .ED_TX_STAT_COUNT (8
      * e + r) = (s.ed (8 * e + r)).words.length + 1 ∧ t.rd .ED_RX_STAT_COUNT (8 * r + e) = (s.ed (8 * e +
      r)).words.length + 1 ∧ changesOnly s t [(.ED_TX_HI, (8 * e + r)), (.ED_TX_STAT_COUNT, (8 * e + r)),
      (.ED_RX_STAT_COUNT, (8 * r + e)), (.ED_RX_LO, (8 * r + e)), (.ED_RX_HI, (8 * r + e))] ∧ t =
      { s with regs := t.regs, eddy := t.eddy, resp := t.resp })
    ∧ (∀ (s : State) (who : Initiator) (e r h : Nat), e < 8 → r < 8 → e ≠ r → who.master = eddyMaster e → 4 ≤ (s.ed (8 * e +
      r)).words.length → s.masterRuns who = true → ∃ t, exec (.eddyPush who e r h) s = .next t ∧ t.rd
      .ED_TX_STAT_REFUSED (8 * e + r) = 1 ∧ changesOnly s t [(.ED_TX_STAT_REFUSED, (8 * e + r))] ∧ t =
      { s with regs := t.regs, resp := t.resp })
    ∧ (∀ (s : State) (who : Initiator) (e r : Nat), e < 8 → r < 8 → e ≠ r → who.master = eddyMaster e → (s.ed (8 * e +
      r)).words ≠ [] → s.masterRuns who = true → ∃ t, exec (.eddyDoorbell who e r) s = .next t ∧ (t.ed (8 * e +
      r)).timer = true ∧ (t.ed (8 * e + r)).words = (s.ed (8 * e + r)).words ∧ t.rd .ED_RX_STAT_RING (8 * r + e) = 1 ∧
      changesOnly s t [(.ED_RX_STAT_RING, (8 * r + e))] ∧ t = { s with regs := t.regs, eddy := t.eddy, resp := t.resp })
    ∧ (∀ (s : State) (who : Initiator) (e r w : Nat) (l : List Nat), e < 8 → r < 8 → e ≠ r → who.master = eddyMaster r → (s.ed
      (8 * e + r)).words = w :: l → s.masterRuns who = true → ∃ t, exec (.eddyPop who r e) s = .next t ∧ (t.ed (8 * e +
      r)).words = l ∧ (t.ed (8 * e + r)).timer = !l.isEmpty ∧ t.rd .ED_TX_STAT_EMPTYEVT (8 * e + r) = (if l = [] then 1
      else s.rd .ED_TX_STAT_EMPTYEVT (8 * e + r)) ∧ t =
      { s with regs := t.regs, eddy := t.eddy, irqs := t.irqs, resp := t.resp })
    ∧ (∀ (s : State) (e r : Nat), e < 8 → r < 8 → e ≠ r → (s.ed (8 * e + r)).timer = true → s.awake = true → ∃ t, exec
      (.eddyTimeout e r) s = .next t ∧ (t.ed (8 * e + r)).timer = false ∧ t.rd .ED_TX_STAT_TIMEOUT (8 * e + r) = 1 ∧
      t.rd .ED_RX_STAT_TIMEOUT (8 * r + e) = 1 ∧ (t.ed (8 * e + r)).words = (s.ed (8 * e + r)).words ∧ changesOnly s t
      [(.ED_TX_STAT_TIMEOUT, (8 * e + r)), (.ED_RX_STAT_TIMEOUT, (8 * r + e))] ∧ t =
      { s with regs := t.regs, eddy := t.eddy, irqs := t.irqs, eseq := t.eseq, elog := t.elog })
    ∧ (∀ (s : State) (who : Initiator) (n : Nat), n < 64 → who.master < 256 → lockOpen n (s.worldOf who) = true → (s.lk
      n).owner = none → s.masterRuns who = true → ∃ t, exec (.lockAcquire who n) s = .next t ∧ t.lk n = ⟨some
      who.master, false⟩ ∧ t.resp = .value (2 ^ 31 + b2n (s.lk n).orphan * 2 ^ 29 + who.master) ∧ t =
      { s with locks := t.locks, resp := t.resp })
    ∧ (∀ (s : State) (who : Initiator) (n : Nat), n < 64 → who.master < 256 → (s.lk n).owner = some who.master → s.masterRuns
      who = true → ∃ t, exec (.lockRelease who n) s = .next t ∧ (t.lk n).owner = none ∧ (t.lk n).orphan = (s.lk
      n).orphan ∧ t = { s with locks := t.locks, resp := t.resp })

/-- R360, R365, R366, R367, R371, R373, R374, R377: From the world of its function: DELTA_DOORBELL of one descriptor that
passes R365, on a single unit, makes it pending with CODE 0, and in ACTIVE waits with BUSY for the standby; a failed
test gives its code; QUEUE_ENABLE starts an empty queue. DELTA_DISPATCH moves the head of the queue chosen into the
engine, which begins it where it is idle; DELTA_OPERATION_COMPLETE runs it and writes its entry, or writes the entry of
the status that ended it, and on an uncorrectable error, which is recorded at a free address, STATUS 2 with an undefined
RESULT and output; DELTA_SHARE_WRITE of 1 to 255 sets SHARE. FUNCTION_RESET squashes the queues with RSTMODE,
DRAIN_TIMEOUT what is still in flight, FUNCTION_RESET_DONE returns what is pending. (The unit is awake where the command
needs its clock, and the master that sends a command runs: R334.) -/
def Obligations.DeltaQueuesRunTheirDescriptors : Prop :=
  (∀ (s : State) (who : Initiator) (q n : Nat) (d : List Nat), q < 64 → owns (s.worldOf who) (World.ofCode (s.rd
      .DM_FCFG_WORLD (s.rd .DM_QCFG_FUNC q))) = true → s.rd .DQ_TAIL q < s.ringSize q → n = (s.rd .DQ_TAIL q + 1) %
      s.ringSize q → s.ringSize q ≤ 4096 → 1 < s.ringSize q → d = s.bytesAt (s.descAddr q (s.rd .DQ_TAIL q)) 64 →
      s.dbCode q [(s.rd .DQ_TAIL q, d)] = 0 → s.pairMode = false → s.brState < 3 → s.braid.arrived = [] → s.jRoom
      (.delta q (s.rd .DQ_TAIL q) d) = true → s.masterRuns who = true → ∃ t, exec (.deltaDoorbell who q n) s = .next t ∧
      (t.dqu q).ring = (s.dqu q).ring ++ [(s.rd .DQ_TAIL q, d, s.braid.jseq)] ∧ t.rd .DQ_TAIL q = n ∧ t.rd
      .DQ_DBRES_CODE q = 0 ∧ t.rd .DQ_DBRES_BUSY q = 0)
    ∧ (∀ (s : State) (who : Initiator) (q n : Nat) (d : List Nat), q < 64 → owns (s.worldOf who) (World.ofCode (s.rd
      .DM_FCFG_WORLD (s.rd .DM_QCFG_FUNC q))) = true → s.rd .DQ_TAIL q < s.ringSize q → n = (s.rd .DQ_TAIL q + 1) %
      s.ringSize q → 1 < s.ringSize q → d = s.bytesAt (s.descAddr q (s.rd .DQ_TAIL q)) 64 → s.dbCode q [(s.rd .DQ_TAIL
      q, d)] = 0 → s.pairMode = true → s.brState = 5 → s.braid.arrived = [] → s.masterRuns who = true → ∃ t, exec
      (.deltaDoorbell who q n) s = .next t ∧ (t.dqu q).ring = (s.dqu q).ring ∧ t.rd .DQ_TAIL q = s.rd .DQ_TAIL q ∧ t.rd
      .DQ_DBRES_BUSY q = 1)
    ∧ (∀ (s : State) (who : Initiator) (q n c : Nat), q < 64 → owns (s.worldOf who) (World.ofCode (s.rd .DM_FCFG_WORLD (s.rd
      .DM_QCFG_FUNC q))) = true → n < s.ringSize q → s.dbCode q [] = c → (c = 1 ∨ c = 2 ∨ c = 3) → s.masterRuns who =
      true → ∃ t, exec (.deltaDoorbell who q n) s = .next t ∧ t.rd .DQ_DBRES_CODE q = c ∧ changesOnly s t
      [(.DQ_DBRES_CODE, q), (.DM_CNT_DBREF, 0), (.DF_INT_REFUSED, (s.rd .DM_QCFG_FUNC q))] ∧ t =
      { s with regs := t.regs, resp := t.resp })
    ∧ (∀ (s : State) (who : Initiator) (q : Nat), q < 64 → owns (s.worldOf who) (World.ofCode (s.rd .DM_FCFG_WORLD (s.rd
      .DM_QCFG_FUNC q))) = true → s.flag .DQ_CTL_EN q = false → s.masterRuns who = true → ∃ t, exec (.queueEnable who q)
      s = .next t ∧ t.rd .DQ_CTL_EN q = 1 ∧ t.rd .DQ_HEAD q = 0 ∧ t.rd .DQ_TAIL q = 0 ∧ t.rd .DQ_CWR q = 0 ∧ t.rd
      .DQ_CRD q = 0 ∧ t.rd .DQ_STAT_NOTEXEC q = 0 ∧ t = { s with regs := t.regs, resp := t.resp })
    ∧ (∀ (s : State) (e q i j : Nat) (d : List Nat) (l : List (Nat × List Nat × Nat)), e < 8 → s.delta.stage.length = 8 →
      (s.delta.stage.getD e []).length < 8 → s.roundOver (engineClass e) = false → ((List.range 64).map (fun i =>
      (s.delta.last.getD (engineClass e) 63 + 1 + i) % 64)).find? (fun q => s.rd .DM_QCFG_CLASS q = engineClass e &&
      s.queueReady q) = some q → (s.dqu q).ring = (i, d, j) :: l → s.awake = true → ∃ t, exec (.deltaDispatch e) s =
      .next t ∧ (t.dqu q).ring = l ∧ (t.dqu q).fly.map (fun o => (o.idx, o.desc, o.jseq, o.unit)) = some (i, d, j, e) ∧
      t.delta.stage.getD e [] = s.delta.stage.getD e [] ++ [q] ∧ (s.delta.stage.getD e [] ≠ [] ∨ (t.dqu q).fly.map
      (·.started) = some true) ∧ (s.ringRead q i = false ∨ (t.eseq = s.eseq ∧ t.elog = s.elog)) ∧ t =
      { s with regs := t.regs, dq := t.dq, delta := t.delta, eseq := t.eseq, elog := t.elog })
    ∧ (∀ (s : State) (q : Nat) (o : DeltaOp), q < 64 → (s.dqu q).fly = some o → (s.delta.stage.getD o.unit []).head? = some q
      → o.stop = none → o.fate = none → (s.opRun (s.rd .DM_QCFG_FUNC q) o).status ≠ 1 → s.awake = true → exec
      (.deltaOperationComplete q false false) s = .next (((s.storeRun (s.opRun (s.rd .DM_QCFG_FUNC q) o)).cplEntry q o
      (s.opRun (s.rd .DM_QCFG_FUNC q) o).status (s.opRun (s.rd .DM_QCFG_FUNC q) o).result)))
    ∧ (∀ (s : State) (q f : Nat) (o : DeltaOp) (a b : Bool), q < 64 → (s.dqu q).fly = some o → (s.delta.stage.getD o.unit
      []).head? = some q → o.stop = none → o.fate = some f → s.awake = true → exec (.deltaOperationComplete q a b) s =
      .next (s.cplEntry q o f 0))
    ∧ (∀ (s : State) (q : Nat) (o : DeltaOp) (b : Bool), q < 64 → (s.dqu q).fly = some o → (s.delta.stage.getD o.unit
      []).head? = some q → o.stop = none → o.fate = none → dOp o.desc ≠ 0x02 → s.awake = true → exec
      (.deltaOperationComplete q true b) s = .next (((((s.undefOut (s.rd .DM_QCFG_FUNC q)
      o.desc).freshened.freshened).memFault ⟨0x20 + s.rd .DM_QCFG_FUNC q, .normal⟩ (cut 40 (s.undefOut (s.rd
      .DM_QCFG_FUNC q) o.desc).freshened.fresh) ((s.undefOut (s.rd .DM_QCFG_FUNC q) o.desc).freshened.fresh / 2 ^ 40 %
      6)).cplEntry q o 2 (cut 32 s.fresh))))
    ∧ (∀ (s : State) (who : Initiator) (q v : Nat), q < 64 → 1 ≤ v → v ≤ 255 → s.fnWrite who (s.rd .DM_QCFG_FUNC q) = true →
      s.masterRuns who = true → ∃ t, exec (.deltaShareWrite who q v) s = .next t ∧ t.rd .DM_QCFG_SHARE q = v ∧ t =
      { s with regs := t.regs, resp := t.resp })
    ∧ (∀ (s : State) (n : Nat), n < 32 → bit (s.rd .DM_RSTBUSY) n = false → s.awake = true → ∃ t, exec (.functionReset n) s =
      .next t ∧ bit (t.rd .DM_RSTBUSY) n = true ∧ t.rd .DF_STAT_RESET n = 1 ∧ (∀ q, q < 64 → s.rd .DM_QCFG_FUNC q = n →
      s.flag .DM_QCFG_RSTMODE q = true → (t.dqu q).fly = none))
    ∧ (∀ (s : State) (n : Nat), n < 32 → bit (s.rd .DM_RSTBUSY) n = true → s.awake = true → ∃ t, exec (.drainTimeout n) s =
      .next t ∧ (∀ q, q < 64 → s.rd .DM_QCFG_FUNC q = n → (t.dqu q).fly = none))
    ∧ (∀ (s : State) (n : Nat), n < 32 → bit (s.rd .DM_RSTBUSY) n = true → s.inflOf n = 0 → s.awake = true → ∃ t, exec
      (.functionResetDone n) s = .next t ∧ bit (t.rd .DM_RSTBUSY) n = false ∧ bit (t.rd .DM_RSTDONE) n = true ∧ t.rd
      .DF_STAT_RESET n = 0 ∧ (∀ q, q < 64 → s.rd .DM_QCFG_FUNC q = n → (t.dqu q).ring = []))

/-- R384, R385, R386, R387, R390, R399: MONITOR_CALL of a permitted service by a hart with no call outstanding and room on
its channel puts the four words there and leaves the call outstanding; one that is not permitted returns at once with
status 1 in a0; MONITOR_CALL_TIMEOUT ends an outstanding call with status 9 in a0. An answer returns to the hart that
waits for it, with VALUE in a1. Each return is a scrubbing return past the ECALL to the mode of the caller. SCRET in M
mode clears the registers of R386 and returns; in another mode it is an illegal instruction. RANDOM answers 64 random
bits, or status 10 while TRNGFAIL stands; MEASURE_READ stores the 48 bytes of the register asked for in the caller's
buffer and changes no other byte. (The unit is awake: R334.) -/
def Obligations.CallsRandomAndReturns : Prop :=
  (∀ (s : State) (h p v a b d : Nat), h < 4 → s.head.calling.getD h none = none → s.head.calling.length = 4 → v < 65536 →
      services.contains v = true → p < 32 → (s.ed (8 * h + 6)).words = [] → s.awake = true → ∃ t, exec (.monitorCall h p
      v a b d true) s = .next t ∧ (t.head.calling.getD h none).isSome = true ∧ (t.ed (8 * h + 6)).words = [v + p * 2 ^
      16 + (s.head.callSeq.getD h 0 + 1) % 2 ^ 32 * 2 ^ 32, a % 2 ^ 64, b % 2 ^ 64, d % 2 ^ 64] ∧ t =
      { s with regs := t.regs, head := t.head, eddy := t.eddy, hart := t.hart, resp := t.resp })
    ∧ (∀ (s : State) (h p v a b d : Nat) (ok : Bool) (x : Hart), h < 4 → s.head.calling.getD h none = none → (ok = false ∨
      services.contains (v % 2 ^ 64) = false) → NMap.at {} s.hart h = x → x.x.length = 32 → s.awake = true → ∃ t, exec
      (.monitorCall h p v a b d ok) s = .next t ∧ t.resp = .status 1 ∧ (∀ i, i < 32 → (NMap.at {} t.hart h :
      Hart).x.getD i 0 = (if scretX i then 0 else if i = 10 then 1 else if i = 11 then cut 64 b else (x : Hart).x.getD i
      0)) ∧ (NMap.at {} t.hart h : Hart).pc = (x.pc + 4) % 2 ^ 64 ∧ (NMap.at {} t.hart h : Hart).mode = x.mode ∧ t =
      { s with hart := t.hart, resp := t.resp })
    ∧ (∀ (s : State) (h : Nat) (x : Hart), h < 4 → (s.head.calling.getD h none).isSome = true → NMap.at {} s.hart h = x →
      x.x.length = 32 → s.awake = true → ∃ t, exec (.monitorCallTimeout h) s = .next t ∧ t.head.calling.getD h none =
      none ∧ t.resp = .status 9 ∧ (∀ i, i < 32 → (NMap.at {} t.hart h : Hart).x.getD i 0 = (if scretX i then 0 else if i
      = 10 then 9 else (x : Hart).x.getD i 0)) ∧ (NMap.at {} t.hart h : Hart).pc = (x.mepc + 4) % 2 ^ 64 ∧ (NMap.at {}
      t.hart h : Hart).mode = x.mpp ∧ t = { s with head := t.head, hart := t.hart, resp := t.resp })
    ∧ (∀ (s : State) (h : Nat) (x : Hart), h < 4 → NMap.at {} s.hart h = x → x.mode = 3 → s.awake = true → ∃ t, exec (.scret
      h) s = .next t ∧ NMap.at {} t.hart h = { x.mret with x := scrub scretX x.x, f := scrub scretF x.f, fflags := 0 } ∧
      t = { s with hart := t.hart, resp := t.resp })
    ∧ (∀ (s : State) (h : Nat) (x : Hart), h < 4 → NMap.at {} s.hart h = x → x.mode ≠ 3 → s.awake = true → ∃ t, exec (.scret
      h) s = .next t ∧ (NMap.at {} t.hart h).mode = 3 ∧ (NMap.at {} t.hart h).mcause = 2 ∧ (NMap.at {} t.hart h).mepc =
      x.pc ∧ (NMap.at {} t.hart h).x = x.x ∧ t = { s with hart := t.hart, resp := t.resp })
    ∧ (∀ (s : State) (e : Nat) (c : Call), s.nextCall = some e → (s.ed (8 * e + 6)).words.headD 0 % 65536 = 1 → s.flag
      .HW_STAT_READY = true → s.head.halted = false → c = s.callOf e → s.awake = true → ∃ t, exec (.random) s = .next t
      ∧ t.resp = (if s.flag .HW_STAT_TRNGFAIL then .statusData 10 (leBytes 8 0) else .statusData 0 (leBytes 8 (cut 64
      (leVal ((Config.randomBytes s.free 8).map (· % 256)))))) ∧ t =
      { s with regs := t.regs, eddy := t.eddy, head := t.head, hart := t.hart, irqs := t.irqs, free := t.free, resp := t.resp })
    ∧ (∀ (s : State) (e : Nat) (c : Call) (x : Hart), s.nextCall = some e → (s.ed (8 * e + 6)).words.headD 0 % 65536 = 1 →
      s.flag .HW_STAT_READY = true → s.head.halted = false → c = s.callOf e → e < 4 → s.head.calling.getD e none = some
      c.seq → s.flag .HW_STAT_TRNGFAIL = false → NMap.at {} s.hart e = x → x.x.length = 32 → s.awake = true → ∃ t, exec
      (.random) s = .next t ∧ (∀ i, i < 32 → (NMap.at {} t.hart e : Hart).x.getD i 0 = (if scretX i then 0 else if i =
      10 then 0 else if i = 11 then cut 64 (leVal ((Config.randomBytes s.free 8).map (· % 256))) else (x : Hart).x.getD
      i 0)) ∧ (NMap.at {} t.hart e : Hart).pc = (x.mepc + 4) % 2 ^ 64 ∧ (NMap.at {} t.hart e : Hart).mode = x.mpp ∧
      (t.head.calling.getD e none = none ∨ s.head.calling.length ≤ e) ∧ t =
      { s with regs := t.regs, eddy := t.eddy, head := t.head, hart := t.hart, irqs := t.irqs, free := t.free, resp := t.resp })
    ∧ (∀ (s : State) (e : Nat) (c : Call), s.nextCall = some e → (s.ed (8 * e + 6)).words.headD 0 % 65536 = 32 → s.flag
      .HW_STAT_READY = true → s.head.halted = false → c = s.callOf e → c.arg.getD 0 0 < 6 → s.bufOk c (cut 40
      (c.arg.getD 1 0)) 48 .write = true → s.awake = true → ∃ t, exec (.measureRead) s = .next t ∧ t.resp = .statusData
      0 (leBytes 8 48) ∧ storesAt s t (cut 40 (c.arg.getD 1 0)) 48 ∧ t.bytesAt (cut 40 (c.arg.getD 1 0)) 48 = (padTo 48
      (s.head.measure.getD (c.arg.getD 0 0) [])).map (· % 256) ∧ t =
      { s with regs := t.regs, mem := t.mem, eddy := t.eddy, head := t.head, hart := t.hart, irqs := t.irqs, resp := t.resp })

/-- R387, R394, R395, R396, R397, R400: While READY with a regenerated root, for a call at the front whose handle names a
slot that its caller may use: KEY_INFO answers the attribute word and generation; KEY_DESTROY clears the slot and
advances its generation; KEY_DERIVE fills the free slot with the derived key under the attribute word, and answers its
handle; KEY_EXPORT and KEY_PUBLIC store the blob or the public key in the caller's buffer and nothing outside it;
KEY_IMPORT places the key of a blob that unwraps and matches, and refuses any other with status 6. (The unit is awake:
R334.) -/
def Obligations.KeyServicesActOnTheirSlot : Prop :=
  (∀ (s : State) (e : Nat) (c : Call) (n : Nat), s.nextCall = some e → (s.ed (8 * e + 6)).words.headD 0 % 65536 = 18 →
      s.flag .HW_STAT_READY = true → s.head.halted = false → s.flag .HW_STAT_KEYLESS = false → c = s.callOf e → s.useKey
      c (c.lo 0) (fun _ => true) = .inr n → s.awake = true → ∃ t, exec (.keyInfo) s = .next t ∧ t.resp = .statusData 0
      (leBytes 8 ((s.slot n).attr + 2 ^ 32 * (s.slot n).gen)) ∧ t.head.slots = s.head.slots ∧ t =
      { s with regs := t.regs, eddy := t.eddy, head := t.head, hart := t.hart, irqs := t.irqs, resp := t.resp })
    ∧ (∀ (s : State) (e : Nat) (c : Call) (n : Nat), s.nextCall = some e → (s.ed (8 * e + 6)).words.headD 0 % 65536 = 17 →
      s.flag .HW_STAT_READY = true → s.head.halted = false → s.flag .HW_STAT_KEYLESS = false → c = s.callOf e → s.useKey
      c (c.lo 0) (fun _ => true) = .inr n → 4 ≤ n → s.awake = true → ∃ t, exec (.keyDestroy) s = .next t ∧ t.slot n =
      { gen := ((s.slot n).gen + 1) % 2 ^ 24 } ∧ t.resp = .statusData 0 (leBytes 8 (s.revoke n).2) ∧ t =
      { s with regs := t.regs, eddy := t.eddy, head := t.head, hart := t.hart, dq := t.dq, irqs := t.irqs, free := t.free, resp := t.resp })
    ∧ (∀ (s : State) (e : Nat) (c : Call) (n m : Nat), s.nextCall = some e → (s.ed (8 * e + 6)).words.headD 0 % 65536 = 16 →
      s.flag .HW_STAT_READY = true → s.head.halted = false → s.flag .HW_STAT_KEYLESS = false → c = s.callOf e →
      attrRange (c.hi 0) = true → s.useKey c (c.lo 0) (fun k => bit k.attr 5) = .inr n → attrOwn c (c.hi 0) = true →
      (bit (c.hi 0) 0 = false ∨ bit (s.slot n).attr 0 = true) → (s.flag .HW_STAT_TRNGFAIL = false ∨ (bits (c.hi 0) 7 3 ≠
      3 ∧ bits (c.hi 0) 7 3 ≠ 4)) → s.freeSlot = some m → s.awake = true → ∃ t, exec (.keyDerive) s = .next t ∧ (t.slot
      m).attr = attrParent (c.hi 0) n ∧ (t.slot m).key = padTo (keyBytes (bits (c.hi 0) 7 3)) (Config.kdf (s.slot n).key
      (leBytes 8 (c.arg.getD 1 0) ++ leBytes 8 (c.arg.getD 2 0)) (attrParent (c.hi 0) n) (s.slot n).gen (keyBytes (bits
      (c.hi 0) 7 3))) ∧ t.resp = .statusData 0 (leBytes 8 (m + 256 * (s.slot m).gen)) ∧ (∀ x, x ≠ m → t.slot x = s.slot
      x) ∧ t =
      { s with regs := t.regs, eddy := t.eddy, head := t.head, hart := t.hart, irqs := t.irqs, free := t.free, resp := t.resp })
    ∧ (∀ (s : State) (e : Nat) (c : Call) (n w : Nat), s.nextCall = some e → (s.ed (8 * e + 6)).words.headD 0 % 65536 = 19 →
      s.flag .HW_STAT_READY = true → s.head.halted = false → s.flag .HW_STAT_KEYLESS = false → c = s.callOf e → s.useKey
      c (c.lo 0) (fun k => bit k.attr 0) = .inr n → s.useKey c (c.hi 0) wraps = .inr w → (s.slot n).world = (s.slot
      w).world → s.bufOk c (cut 40 (c.arg.getD 1 0)) 64 .write = true → s.awake = true → ∃ t, exec (.keyExport) s =
      .next t ∧ t.resp = .statusData 0 (leBytes 8 (blobLen (keyBytes (s.slot n).type))) ∧ storesAt s t (cut 40
      (c.arg.getD 1 0)) (blobLen (keyBytes (s.slot n).type)) ∧ t.head.slots = s.head.slots ∧ t =
      { s with regs := t.regs, mem := t.mem, eddy := t.eddy, head := t.head, hart := t.hart, irqs := t.irqs, resp := t.resp })
    ∧ (∀ (s : State) (e : Nat) (c : Call) (w m : Nat), s.nextCall = some e → (s.ed (8 * e + 6)).words.headD 0 % 65536 = 20 →
      s.flag .HW_STAT_READY = true → s.head.halted = false → s.flag .HW_STAT_KEYLESS = false → c = s.callOf e →
      attrRange (c.hi 0) = true → s.useKey c (c.lo 0) wraps = .inr w → attrOwn c (c.hi 0) = true → World.ofCode (bits
      (c.hi 0) 10 2) = (s.slot w).world → s.bufOk c (cut 40 (c.arg.getD 1 0)) (blobLen (keyBytes (bits (c.hi 0) 7 3)))
      .read = true → s.freeSlot = some m → s.awake = true → ∃ t, exec (.keyImport) s = .next t ∧ (Config.kwpUnwrap
      (s.slot w).key (s.loadBytes (cut 40 (c.arg.getD 1 0)) (blobLen (keyBytes (bits (c.hi 0) 7 3)))) = none → t.resp =
      .statusData 6 (leBytes 8 0) ∧ t.head.slots = s.head.slots) ∧ (∀ p, Config.kwpUnwrap (s.slot w).key (s.loadBytes
      (cut 40 (c.arg.getD 1 0)) (blobLen (keyBytes (bits (c.hi 0) 7 3)))) = some p → (if leVal (p.take 4) % 2 ^ 17 =
      c.hi 0 % 2 ^ 17 then t.resp = .statusData 0 (leBytes 8 (m + 256 * (s.slot m).gen)) ∧ (t.slot m).attr = attrParent
      (c.hi 0) m else t.resp = .statusData 6 (leBytes 8 0) ∧ t.head.slots = s.head.slots)) ∧ t =
      { s with regs := t.regs, eddy := t.eddy, head := t.head, hart := t.hart, irqs := t.irqs, free := t.free, resp := t.resp })
    ∧ (∀ (s : State) (e : Nat) (c : Call) (n : Nat), s.nextCall = some e → (s.ed (8 * e + 6)).words.headD 0 % 65536 = 21 →
      s.flag .HW_STAT_READY = true → s.head.halted = false → s.flag .HW_STAT_KEYLESS = false → c = s.callOf e → s.useKey
      c (c.lo 0) (fun k => k.type = 3 || k.type = 4) = .inr n → s.bufOk c (cut 40 (c.arg.getD 1 0)) 96 .write = true →
      s.awake = true → ∃ t, exec (.keyPublic) s = .next t ∧ t.resp = .statusData 0 (leBytes 8 (curveBytes ((s.slot
      n).type - 2))) ∧ storesAt s t (cut 40 (c.arg.getD 1 0)) (curveBytes ((s.slot n).type - 2)) ∧ t.head.slots =
      s.head.slots ∧ t =
      { s with regs := t.regs, mem := t.mem, eddy := t.eddy, head := t.head, hart := t.hart, irqs := t.irqs, resp := t.resp })

/-- R336, R380, R389, R391, R392, R398, R399, R402, R403, R404, R406, R442: DEBUG_CHALLENGE under class S at an open service
port, with the right, keeps a new challenge; DEBUG_TOKEN under class S whose signature over an open challenge holds sets
the enables it names (the extended ones where the image permits debug) beside those set, and one that is not valid
aborts, is recorded and changes nothing else; without the right it aborts for rights; a restart alone clears every slot
from 4 up and ends with READY, where the boot ROM is the one that the private ROM knows; REMASK_ROUND keeps every key;
TRNG health sets and clears TRNGFAIL; TAMPER_RAISE of an enabled source latches it, and class 2 and 3 run keyless with
slots 1 to 255 cleared; attestation, ZEROISE_CLEAR, LOST_BLOCK, WORLD_ASSIGN and TAP_DEBUG_ACCESS act as R406, R402,
R404, R380 and R442 say. (The unit is awake where the command needs its clock, and the master that sends a command runs:
R334.) -/
def Obligations.HeadwaterGuardsAndRestarts : Prop :=
  (∀ (s : State), s.pw.key = true → s.overridden 2 0x2A04 false = false → s.flag .HW_STAT_TRNGFAIL = false → s.awake =
      true → ∃ t, exec (.debugChallenge 2) s = .next t ∧ (∃ l, l.length = 32 ∧ t.head.challenge = some (s.now, l) ∧
      t.resp = .data l) ∧ t = { s with head := t.head, free := t.free, resp := t.resp })
    ∧ (∀ (s : State) (l c : List Nat) (t0 : Nat), s.pw.key = true → s.overridden 2 0x2A05 true = false → l.length = 104 →
      s.head.challenge = some (t0, c) → s.now ≤ t0 + 6000000000 → leVal (l.take 8) < 64 → s.locked 2 = false → s.awake =
      true → ∃ t, exec (.debugToken 2 l) s = .next t ∧ (Config.ecdsaVerify 2 (Config.debugKey (s.partBytes (s.rd
      .UPD_STAT_BANK) (mftFind (s.manifest (s.rd .UPD_STAT_BANK)) 3))) (sha384 (c ++ leBytes 4 s.factory.serial ++
      l.take 8)) (l.drop 8) = true → t.resp = .abort 0 ∧ t.head =
      { s.head with token := s.head.token ||| leVal (l.take 8) } ∧ t.rd .HW_DBG_NNID = b2n (bit (s.dbg ||| leVal (l.take
      8)) 0) ∧ t.rd .HW_DBG_NID = b2n (bit (s.dbg ||| leVal (l.take 8)) 1) ∧ t.rd .HW_DBG_SNID = b2n (bit (s.dbg |||
      leVal (l.take 8)) 2) ∧ t.rd .HW_DBG_SID = b2n (bit (s.dbg ||| leVal (l.take 8)) 3) ∧ t.rd .HW_DBG_XNID = b2n (bit
      (s.dbg ||| leVal (l.take 8)) 4 && s.head.debugOk) ∧ t.rd .HW_DBG_XID = b2n (bit (s.dbg ||| leVal (l.take 8)) 5 &&
      s.head.debugOk)) ∧ (Config.ecdsaVerify 2 (Config.debugKey (s.partBytes (s.rd .UPD_STAT_BANK) (mftFind (s.manifest
      (s.rd .UPD_STAT_BANK)) 3))) (sha384 (c ++ leBytes 4 s.factory.serial ++ l.take 8)) (l.drop 8) = false → t.resp =
      .abort abortValue ∧ t.head = s.head ∧ t.regs = s.regs) ∧ changesOnly s t [(.HW_DBG_NNID, 0), (.HW_DBG_NID, 0),
      (.HW_DBG_SNID, 0), (.HW_DBG_SID, 0), (.HW_DBG_XNID, 0), (.HW_DBG_XID, 0)] ∧ t =
      { s with regs := t.regs, head := t.head, eseq := t.eseq, elog := t.elog, resp := t.resp })
    ∧ (∀ (s : State) (l : List Nat), s.pw.key = true → s.overridden 2 0x2A05 true = false → l.length = 104 → s.tokenOk l =
      false → s.awake = true → ∃ t, exec (.debugToken 2 l) s = .next t ∧ t.resp = .abort abortValue ∧ t.head = s.head ∧
      t = { s with eseq := t.eseq, elog := t.elog, resp := t.resp })
    ∧ (∀ (s : State) (c : Nat) (l : List Nat), (c ≠ 2 ∨ s.pw.key = false) → s.awake = true → ∃ t, exec (.debugToken c l) s =
      .next t ∧ t.resp = .abort abortRights ∧ t = { s with resp := t.resp })
    ∧ (∀ (s : State) (who : Initiator), s.worldOf who ≠ .normal → s.masterRuns who = true → ∃ t, exec (.headwaterRestart who)
      s = .next t ∧ t.rd .HW_STAT_READY = b2n s.factory.romOk ∧ t.head.challenge = none ∧ t.head.quoteWait = none ∧ (∀
      n, 4 ≤ n → n < 256 → (t.slot n).used = false))
    ∧ (∀ (s : State), s.awake = true → ∃ t, exec (.headwaterWatchdogExpire) s = .next t ∧ t.rd .HW_STAT_READY = b2n
      s.factory.romOk ∧ t.head.challenge = none ∧ (∀ n, 4 ≤ n → n < 256 → (t.slot n).used = false))
    ∧ (∀ (s : State), s.awake = true → ∃ t, exec (.remaskRound) s = .next t ∧ (∀ n, (t.slot n).key = (s.slot n).key ∧ (t.slot
      n).attr = (s.slot n).attr ∧ (t.slot n).gen = (s.slot n).gen) ∧ t = { s with head := t.head, free := t.free })
    ∧ (∀ (s : State), s.awake = true → ∃ t, exec (.trngHealthFail) s = .next t ∧ t.rd .HW_STAT_TRNGFAIL = 1 ∧ changesOnly s t
      [(.HW_STAT_TRNGFAIL, 0)] ∧ t = { s with regs := t.regs })
    ∧ (∀ (s : State), s.awake = true → ∃ t, exec (.trngHealthRecover) s = .next t ∧ t.rd .HW_STAT_TRNGFAIL = 0 ∧ changesOnly s
      t [(.HW_STAT_TRNGFAIL, 0)] ∧ t = { s with regs := t.regs })
    ∧ (∀ (s : State) (n : Nat) (b : Bool), n < 8 → s.unpowered = false → bit (s.rd .TP_CFG) (4 * n) = true → s.rd
      .SYS_PWR_STAT_STATE < 3 → 2 ≤ bits (s.rd .TP_CFG) (4 * n + 1) 2 → ∃ t, exec (.tamperRaise n b) s = .next t ∧ bit
      (t.rd .TP_STAT_LATCH) n = true ∧ bit (t.rd .TP_STAT_LIVE) n = b ∧ t.rd .HW_STAT_KEYLESS = 1 ∧ (∀ x, 1 ≤ x → x <
      256 → (t.slot x).used = false))
    ∧ (∀ (s : State), s.pw.key = true → s.overridden 2 0x2A32 true = false → s.awake = true → ∃ t, exec (.zeroiseClear 2) s =
      .next t ∧ t.head = { s.head with fuses := min 31 (s.head.fuses + 1) } ∧ t.resp = .abort 0 ∧ t =
      { s with head := t.head, resp := t.resp })
    ∧ (∀ (s : State) (l : List Nat), l.length = 32 → s.awake = true → ∃ t, exec (.attestationNonce l) s = .next t ∧
      t.head.quoteWait = some (l.map (· % 256)) ∧ t.resp = .abort 0 ∧ t = { s with head := t.head, resp := t.resp })
    ∧ (∀ (s : State) (l : List Nat), s.head.quoteWait = some l → s.flag .HW_STAT_KEYLESS = false → s.awake = true → ∃ t, exec
      (.attestationQuoteReady) s = .next t ∧ t.head.quoteWait = none ∧ t.head.quote = s.quoteBody l ++ padTo 96
      (Config.ecdsaSign 2 (s.slot 3).key (sha384 (s.quoteBody l))) ∧ t = { s with head := t.head })
    ∧ (∀ (s : State) (b : Nat), b < 7 → b ≠ 5 → bit s.inUse b = true → s.awake = true → ∃ t, exec (.lostBlock b) s = .next t ∧
      t.rd .HW_STAT_LOSTBLK = 1 ∧ bit (t.rd .HW_USE) b = false ∧ (b ≠ 6 ∨ (t.rd .HW_STAT_KEYLESS = 1 ∧ ((List.range
      256).all fun x => !(t.slot x).used) = true)) ∧ changesOnly s t [(.HW_STAT_LOSTBLK, 0), (.HW_USE, 0),
      (.HW_STAT_KEYLESS, 0)] ∧ t = { s with regs := t.regs, dq := t.dq, head := t.head, free := t.free })
    ∧ (∀ (s : State) (who : Initiator) (r v i : Nat), r < 8 → s.worldOf who = .secure → s.frozen who 0 = false → (waCount
      r).filter (fun j => bits v (2 * j) 2 ≠ bits (s.rd (waFld r).1 (waFld r).2) (2 * j) 2) = [i] → bits v (2 * i) 2 ≠ 3
      → s.waActive r i = false → s.masterRuns who = true → ∃ t, exec (.worldAssign who r v) s = .next t ∧ bits (t.rd
      (waFld r).1 (waFld r).2) (2 * i) 2 = bits v (2 * i) 2 ∧ (∀ j, j ∈ waCount r → j ≠ i → bits (t.rd (waFld r).1
      (waFld r).2) (2 * j) 2 = bits (s.rd (waFld r).1 (waFld r).2) (2 * j) 2))
    ∧ (∀ (s : State) (who : Initiator) (r v : Nat), r < 8 → s.worldOf who ≠ .secure → (waCount r).filter (fun j => bits v (2 *
      j) 2 ≠ bits (s.rd (waFld r).1 (waFld r).2) (2 * j) 2) ≠ [] → s.masterRuns who = true → ∃ t, exec (.worldAssign who
      r v) s = .next t ∧ t.rd .HW_STAT_REFUSED = 1 ∧ changesOnly s t [(.HW_STAT_REFUSED, 0)] ∧ t =
      { s with regs := t.regs, resp := t.resp })
    ∧ (∀ (s : State) (h : Nat), h < 4 → s.unpowered = false → s.debugOpen = true → s.flag .HW_DBG_NID = true → s.rd
      .SYS_PWR_STAT_STATE ≠ 2 → ∃ t, exec (.tapDebugAccess (.haltCore h)) s = .next t ∧ (NMap.at {} t.hart h).halted =
      true ∧ (NMap.at {} t.hart h).x = (NMap.at {} s.hart h).x ∧ t = { s with hart := t.hart, resp := t.resp })
    ∧ (∀ (s : State) (op : TapOp), s.debugOpen = false → op ≠ .idcode → ∃ t, exec (.tapDebugAccess op) s = .next t ∧ t =
      { s with resp := t.resp })

/-- R413, R414, R416, R421, R425, R430, R432: On a unit in single mode with SVC = 1, with no request of a port, a control
channel or Eddy waiting before it, for a whole DOP message to the service port's address: DOP_READ and DOP_WRITE serve
the request that it carries; a DOP_WRITE_PART that is not the last is staged; PART_STAGING_TIMEOUT empties the staging
buffer of the source. An ARP request and an echo request for that address are answered. WSN_EXPIRE forgets the number
given on a path; SOUNDING of 1 by a class that may write gathers a summary on that path, any other value aborts. (The
unit is awake: R334.) -/
def Obligations.DopRequestsAreServed : Prop :=
  (∀ (s : State) (b : List Nat), s.brState ≠ 5 → s.odTurn 8 = true → isIp b = true → s.dopOn 8 = true → be b 30 4 = s.ipOf
      8 0 → ipOdd b = false → isDop b = true → dopWhole (b.drop 42) = true → b.getD 45 0 = 1 → s.odDepth 2 < 16 →
      (s.dopReq 8 b).value.length = leVal ((b.drop 62).take 2) → (s.dopReq 8 b).value.length ≤ 1440 → s.awake = true →
      exec (.dopRead 8 b) s = .next (((s.answer .none).odServe { s.dopReq 8 b with alone := true })))
    ∧ (∀ (s : State) (b : List Nat), s.brState < 4 → s.pairMode = false → s.odTurn 8 = true → isIp b = true → s.dopOn 8 = true
      → be b 30 4 = s.ipOf 8 0 → ipOdd b = false → isDop b = true → dopWhole (b.drop 42) = true → b.getD 45 0 = 2 →
      s.odDepth 2 < 16 → (s.dopReq 8 b).value.length = leVal ((b.drop 62).take 2) → (s.dopReq 8 b).value.length ≤ 1440 →
      s.awake = true → exec (.dopWrite 8 b) s = .next (((s.answer .none).odServe { s.dopReq 8 b with alone := true })))
    ∧ (∀ (s : State) (b : List Nat) (r : OdReq), s.pairMode = false → r = s.dopReq 8 b → s.odTurn 8 = true → isIp b = true →
      s.dopOn 8 = true → be b 30 4 = s.ipOf 8 0 → ipOdd b = false → isDop b = true → dopWhole (b.drop 42) = true →
      b.getD 45 0 = 3 → s.odDepth 2 < 16 → (s.dopReq 8 b).value.length = leVal ((b.drop 62).take 2) → (s.dopReq 8
      b).value.length ≤ 1440 → bit (b.getD 57 0) 0 = false → r.offset + r.value.length ≤ 131072 → s.awake = true → ∃ t,
      exec (.dopWritePart 8 b) s = .next t ∧ (t.path r.path).stage.map (fun g => (g.index, g.sub, g.at')) = some
      (r.index, r.sub, s.now) ∧ (t.path r.path).stage.bind (fun g => g.parts.head?) = some (r.offset, r.value) ∧ t.resp
      = .abort 0 ∧ t.mem = s.mem)
    ∧ (∀ (s : State) (a : Nat), s.awake = true → ∃ t, exec (.partStagingTimeout a) s = .next t ∧ t.path (0x100 + a) =
      { s.path (0x100 + a) with stage := none } ∧ t = { s with od := t.od })
    ∧ (∀ (s : State) (b : List Nat), ethType b = 0x0806 → (b.drop 14).take 8 = [0, 1, 8, 0, 6, 4, 0, 1] → s.dopOn 8 = true →
      be b 38 4 = s.ipOf 8 0 → s.awake = true → ∃ t, exec (.arpRequest 8 b) s = .next t ∧ t.resp = .data ((b.drop
      22).take 6 ++ beBytes 6 (s.portMac 8) ++ [0x08, 0x06, 0, 1, 8, 0, 6, 4, 0, 2] ++ beBytes 6 (s.portMac 8) ++
      beBytes 4 (s.ipOf 8 0) ++ (b.drop 22).take 6 ++ (b.drop 28).take 4) ∧ t.od.service.head?.map (fun x => .data x) =
      some t.resp ∧ t = { s with od := t.od, resp := t.resp })
    ∧ (∀ (s : State) (b : List Nat), isIp b = true → s.dopOn 8 = true → be b 30 4 = s.ipOf 8 0 → ipOdd b = false → b.getD 23 0
      = 1 → (b.drop 34).take 2 = [8, 0] → s.reaches 8 ((b.drop 26).take 4) = true → s.awake = true → ∃ t, exec
      (.icmpEcho 8 b) s = .next t ∧ t.od.service.head?.map (fun x => .data x) = some t.resp ∧ t.od.service.head?.map
      (fun x => (x.take 6, (x.drop 34).take 2, x.drop 38)) = some ((b.drop 6).take 6, [0, 0], ((b.drop 34).take (be b 16
      2 - 20)).drop 4) ∧ t = { s with od := t.od, resp := t.resp })
    ∧ (∀ (s : State) (p : Nat), s.awake = true → ∃ t, exec (.wsnExpire p) s = .next t ∧ t.path p =
      { s.path p with wsn := none } ∧ t = { s with od := t.od })
    ∧ (∀ (s : State) (c p : Nat), c < 5 → s.rescue = false → s.overridden c 0x2001 true = false → s.awake = true → ∃ t, exec
      (.sounding c p 1) s = .next t ∧ t.od.soundings = min 65535 (s.od.soundings + 1) ∧ t.resp = .abort 0 ∧ t.mem =
      s.mem)
    ∧ (∀ (s : State) (c p v : Nat), c < 5 → s.rescue = false → s.overridden c 0x2001 true = false → v % 256 ≠ 1 → s.awake =
      true → ∃ t, exec (.sounding c p v) s = .next t ∧ t.od.soundings = s.od.soundings ∧ t.resp = .abort abortValue)

/-- R233, R408, R412, R418, R419, R421: For the oldest SDO request handed over on a control channel with no transfer
running: an upload initiate and an expedited download of known length are served as the requests that they spell; a
segmented download that passes the tests of R408 opens a transfer. A download segment with the expected toggle that is
not the last appends its bytes; an upload segment takes the next seven; SDO_TIMEOUT aborts the transfer. OD_EDDY_READ
and OD_EDDY_WRITE on a unit that is neither ACTIVE nor STANDBY serve the request of the oldest message, where no request
that arrived earlier waits. (The unit is awake: R334.) -/
def Obligations.SdoAndMailboxRequestsAreServed : Prop :=
  (∀ (s : State) (k i : Nat) (b : List Nat), k < 16 → s.flag .OD_CTL_SDO = true → s.rescue = false → s.handed.find? (fun x
      => x.1 == 0x200 + k) = some (i, b) → b.getD 0 0 / 32 = 2 → (s.path k).xfer = none → s.awake = true → exec
      (.sdoUploadInitiate k) s = .next ((((((s.answer .none).taken (0x200 + k)).takeWsn k).2).odServe (sdoReq k b false
      [] 0))))
    ∧ (∀ (s : State) (k i : Nat) (b : List Nat), k < 16 → s.flag .OD_CTL_SDO = true → s.rescue = false → s.handed.find? (fun x
      => x.1 == 0x200 + k) = some (i, b) → b.getD 0 0 / 32 = 1 → bit (b.getD 0 0) 1 = true → bit (b.getD 0 0) 0 = true →
      (s.path k).xfer = none → s.awake = true → exec (.sdoDownloadInitiate k) s = .next ((((((s.answer .none).taken
      (0x200 + k)).takeWsn k).2).odServe (sdoReq k b true ((b.drop 4).take (4 - bits (b.getD 0 0) 2 2)) (((s.answer
      .none).taken (0x200 + k)).takeWsn k).1))))
    ∧ (∀ (s : State) (k i : Nat) (b : List Nat), k < 16 → s.flag .OD_CTL_SDO = true → s.rescue = false → s.handed.find? (fun x
      => x.1 == 0x200 + k) = some (i, b) → b.getD 0 0 / 32 = 1 → bit (b.getD 0 0) 1 = false → bit (b.getD 0 0) 0 = false
      → (s.path k).xfer = none → s.odPre (sdoReq k b true [] 0) none = 0 → s.awake = true → ∃ t, exec
      (.sdoDownloadInitiate k) s = .next t ∧ (t.path k).xfer.map (fun x => (x.download, x.index, x.sub)) = some (true,
      leVal ((b.drop 1).take 2), b.getD 3 0) ∧ (t.path k).xfer.map (fun x => (x.data, x.size, x.toggle)) = some ([],
      none, false))
    ∧ (∀ (s : State) (k i : Nat) (b : List Nat) (x : SdoXfer), k < 16 → s.flag .OD_CTL_SDO = true → s.rescue = false →
      s.handed.find? (fun x => x.1 == 0x200 + k) = some (i, b) → b.getD 0 0 / 32 = 0 → bit (b.getD 0 0) 0 = false →
      (s.path k).xfer = some x → x.download = true → bit (b.getD 0 0) 4 = x.toggle → s.awake = true → ∃ t, exec
      (.sdoDownloadSegment k) s = .next t ∧ (t.path k).xfer = some
      { x with data := x.data ++ (b.drop 1).take (7 - bits (b.getD 0 0) 1 3), toggle := !x.toggle, at' := s.now })
    ∧ (∀ (s : State) (k i : Nat) (b : List Nat) (x : SdoXfer), k < 16 → s.flag .OD_CTL_SDO = true → s.rescue = false →
      s.handed.find? (fun x => x.1 == 0x200 + k) = some (i, b) → b.getD 0 0 / 32 = 3 → (s.path k).xfer = some x →
      x.download = false → bit (b.getD 0 0) 4 = x.toggle → 7 < x.data.length → s.awake = true → ∃ t, exec
      (.sdoUploadSegment k) s = .next t ∧ (t.path k).xfer = some
      { x with data := x.data.drop 7, toggle := !x.toggle, at' := s.now })
    ∧ (∀ (s : State) (k : Nat) (x : SdoXfer), k < 16 → (s.path k).xfer = some x → s.awake = true → ∃ t, exec (.sdoTimeout k) s
      = .next t ∧ (t.path k).xfer = none ∧ t.resp = .abort abortTimeout ∧ t.rd .OD_CNT_ABORT = min (s.rd .OD_CNT_ABORT +
      1) (2 ^ (Fld.info .OD_CNT_ABORT).width - 1))
    ∧ (∀ (s : State) (e a b d : Nat) (l : List Nat), e < 7 → (s.ed (8 * e + 7)).words = a :: b :: d :: l → bits a 24 2 = 1 →
      s.rescue = false → s.standby = false → s.brState ≠ 5 → s.odTurn (0x300 + e) = true → s.awake = true → exec
      (.odEddyRead e) s = .next (((((s.answer .none).eddyTake e 7 3).taken (0x300 + e)).odServe
      { route := .eddy e (b % 2 ^ 40) (d % 2 ^ 24), cls := 4, path := 0x20 + e, world := endpointWorld e, index := bits a 0 16, sub := bits a 16 8, write := false, wsn := a / 2 ^ 32 })))
    ∧ (∀ (s : State) (e a b d : Nat) (l : List Nat) (r : OdReq), e < 7 → (s.ed (8 * e + 7)).words = a :: b :: d :: l → bits a
      24 2 = 2 → s.rescue = false → s.standby = false → s.brState ≠ 5 → s.odTurn (0x300 + e) = true → r =
      { route := .eddy e (b % 2 ^ 40) (d % 2 ^ 24), cls := 4, path := 0x20 + e, world := endpointWorld e, index := bits a 0 16, sub := bits a 16 8, write := true, wsn := a / 2 ^ 32 }
      → s.odPre r (some (d % 2 ^ 24)) = 0 → s.rangeOk 0x12 (World.ofCode r.world) (b % 2 ^ 40) (d % 2 ^ 24) .read = true
      → s.awake = true → exec (.odEddyWrite e) s = .next (((((s.answer .none).eddyTake e 7 3).taken (0x300 + e)).odServe
      { r with value := (((s.answer .none).eddyTake e 7 3).taken (0x300 + e)).dataAt (b % 2 ^ 40) (d % 2 ^ 24) })))

/-- R435, R436, R437, R438: In single mode a request that no condition of R437 refuses acts at once: Run during START ends
START, records the time, and the transceivers take the modes of their segments; Run from Trim resets the application
cores; Trim stands at once; Standby and Sleep set PENDING, and Sleep asks the segments that have channels. In a pair an
accepted request waits for the next turn boundary; one that only HW_USE holds back waits up to 10 ms where it comes from
the safety or secure world. A request that a condition other than HW_USE refuses sets REFUSED and WHY and changes
nothing else. (The master that sends a command runs: R334.) -/
def Obligations.PowerRequestsAreAcceptedOrRefused : Prop :=
  (∀ (s : State) (who : Initiator), s.pairMode = false → s.powerWhy (s.worldOf who) 1 (s.fromPartner who) = 0 → s.rd
      .SYS_PWR_STAT_STATE = 0 → s.pw.wokenSegs = [] → s.masterRuns who = true → ∃ t, exec (.powerRequestRun who) s =
      .next t ∧ t.rd .SYS_PWR_STAT_STATE = 1 ∧ t.rd .SYS_T_FULL = min 0xFFFF s.sinceStart ∧ t.pw.wokenSegs = [] ∧
      ((List.range 16).all fun k => t.rd .XCVR_STAT_MODE k == segMode (s.rd .WE_SLP_STAT_STATE (s.segOf k))) = true ∧
      changesOnly s t [(.SYS_PWR_STAT_STATE, 0), (.SYS_T_FULL, 0), (.XCVR_STAT_MODE, 0), (.XCVR_STAT_MODE, 1),
      (.XCVR_STAT_MODE, 2), (.XCVR_STAT_MODE, 3), (.XCVR_STAT_MODE, 4), (.XCVR_STAT_MODE, 5), (.XCVR_STAT_MODE, 6),
      (.XCVR_STAT_MODE, 7), (.XCVR_STAT_MODE, 8), (.XCVR_STAT_MODE, 9), (.XCVR_STAT_MODE, 10), (.XCVR_STAT_MODE, 11),
      (.XCVR_STAT_MODE, 12), (.XCVR_STAT_MODE, 13), (.XCVR_STAT_MODE, 14), (.XCVR_STAT_MODE, 15), (.XCVR_STAT_INH, 0),
      (.XCVR_STAT_INH, 1), (.XCVR_STAT_INH, 2), (.XCVR_STAT_INH, 3), (.XCVR_STAT_INH, 4), (.XCVR_STAT_INH, 5),
      (.XCVR_STAT_INH, 6), (.XCVR_STAT_INH, 7), (.XCVR_STAT_INH, 8), (.XCVR_STAT_INH, 9), (.XCVR_STAT_INH, 10),
      (.XCVR_STAT_INH, 11), (.XCVR_STAT_INH, 12), (.XCVR_STAT_INH, 13), (.XCVR_STAT_INH, 14), (.XCVR_STAT_INH, 15)] ∧ t
      = { s with regs := t.regs, resp := t.resp })
    ∧ (∀ (s : State) (who : Initiator), s.pairMode = false → s.powerWhy (s.worldOf who) 1 (s.fromPartner who) = 0 → s.rd
      .SYS_PWR_STAT_STATE = 2 → s.masterRuns who = true → ∃ t, exec (.powerRequestRun who) s = .next t ∧ t.rd
      .SYS_PWR_STAT_STATE = 1 ∧ t.hart = [] ∧ t.mem = s.mem)
    ∧ (∀ (s : State) (who : Initiator), s.pairMode = false → s.powerWhy (s.worldOf who) 2 (s.fromPartner who) = 0 →
      s.masterRuns who = true → ∃ t, exec (.powerRequestTrim who) s = .next t ∧ t.rd .SYS_PWR_STAT_STATE = 2 ∧
      changesOnly s t [(.SYS_PWR_STAT_STATE, 0)] ∧ t = { s with regs := t.regs, resp := t.resp })
    ∧ (∀ (s : State) (who : Initiator), s.pairMode = false → s.powerWhy (s.worldOf who) 3 (s.fromPartner who) = 0 →
      s.masterRuns who = true → ∃ t, exec (.powerRequestStandby who) s = .next t ∧ t.rd .SYS_PWR_STAT_PENDING = 1 ∧
      t.pw.target = 3 ∧ t.pw.world = (s.worldOf who).code ∧ changesOnly s t [(.SYS_PWR_STAT_PENDING, 0)] ∧ t =
      { s with regs := t.regs, pw := t.pw, resp := t.resp })
    ∧ (∀ (s : State) (who : Initiator), s.pairMode = false → s.powerWhy (s.worldOf who) 4 (s.fromPartner who) = 0 →
      s.masterRuns who = true → ∃ t, exec (.powerRequestSleep who) s = .next t ∧ t.rd .SYS_PWR_STAT_PENDING = 1 ∧
      t.pw.target = 4 ∧ t.rd .SYS_PWR_STAT_STATE = s.rd .SYS_PWR_STAT_STATE)
    ∧ (∀ (s : State) (who : Initiator), s.pairMode = true → s.rd .SYS_PWR_STAT_STATE ≠ 0 → s.powerWhy (s.worldOf who) 3
      (s.fromPartner who) = 0 → s.masterRuns who = true → ∃ t, exec (.powerRequestStandby who) s = .next t ∧ t.pw.atTurn
      = some (3, (s.worldOf who).code) ∧ t.rd .SYS_PWR_STAT_STATE = s.rd .SYS_PWR_STAT_STATE ∧ t.rd
      .SYS_PWR_STAT_PENDING = 0 ∧ t = { s with regs := t.regs, braid := t.braid, pw := t.pw, resp := t.resp })
    ∧ (∀ (s : State) (who : Initiator), s.worldOf who ≠ .normal → s.powerWhy (s.worldOf who) 3 (s.fromPartner who) = 2 →
      s.masterRuns who = true → ∃ t, exec (.powerRequestStandby who) s = .next t ∧ t.pw.waitUse = some (3, (s.worldOf
      who).code, s.now + 1000000) ∧ t = { s with pw := t.pw, resp := t.resp })
    ∧ (∀ (s : State) (who : Initiator) (y : Nat), s.powerWhy (s.worldOf who) 4 (s.fromPartner who) = y → 0 < y → y ≠ 2 → y <
      16 → s.masterRuns who = true → ∃ t, exec (.powerRequestSleep who) s = .next t ∧ t.rd .SYS_PWR_STAT_REFUSED = 1 ∧
      t.rd .SYS_PWR_STAT_WHY = y ∧ changesOnly s t [(.SYS_PWR_STAT_REFUSED, 0), (.SYS_PWR_STAT_WHY, 0)] ∧ t =
      { s with regs := t.regs, resp := t.resp })

/-- R433, R436, R437, R438, R439: POWER_ENTRY_CONTINUE with an entry into Standby under way, every served die in fail-safe
mode and no condition of R437 left: STATE reads Standby, PENDING is clear, and the always-on domain holds its copies.
SLEEP_ENTRY_TIMEOUT with a segment not asleep ends the entry with WHY 5. A wake source in Standby or Sleep runs the
start sequence with the restore window. WAKE_CHECK in that window compares and gives RESULT; only a match closes the
window, a difference orders a full reset with cause 5. (The unit is awake where the command needs its clock, and the
master that sends a command runs: R334.) -/
def Obligations.EntryAndWake : Prop :=
  (∀ (s : State), s.pw.waitUse = none → s.pw.target = 3 → s.allFailsafe = true → (s.clrF .SYS_PWR_STAT_PENDING).powerWhy
      (World.ofCode s.pw.world) 3 (s.brState != 5) = 0 → s.awake = true → ∃ t, exec (.powerEntryContinue) s = .next t ∧
      t.rd .SYS_PWR_STAT_STATE = 3 ∧ t.rd .SYS_PWR_STAT_PENDING = 0 ∧ t.pw.target = 0 ∧ t.pw.held.map (fun h =>
      (h.confgen, h.epoch)) = some (s.rd .BR_CONFGEN, s.rd .BR_EPOCH))
    ∧ (∀ (s : State), s.pw.target = 4 → s.segsUsed.any (fun n => s.rd .WE_SLP_STAT_STATE n != 3) = true → s.awake = true → ∃
      t, exec (.sleepEntryTimeout) s = .next t ∧ t.rd .SYS_PWR_STAT_PENDING = 0 ∧ t.rd .SYS_PWR_STAT_REFUSED = 1 ∧ t.rd
      .SYS_PWR_STAT_WHY = 5 ∧ t.pw.target = 0 ∧ changesOnly s t [(.SYS_PWR_STAT_PENDING, 0), (.SYS_PWR_STAT_REFUSED, 0),
      (.SYS_PWR_STAT_WHY, 0)] ∧ t = { s with regs := t.regs, pw := t.pw })
    ∧ (∀ (s : State), s.rd .SYS_PWR_STAT_STATE = 3 → s.pw.woken = true → ∃ t, exec (.wakeFromStandby) s = .next t ∧ t.rd
      .SYS_WAKE_RESTORE = 1 ∧ t.rd .SYS_PWR_STAT_STATE = 0 ∧ t.pending = s.pending ∧ t.chan = s.chan)
    ∧ (∀ (s : State), s.rd .SYS_PWR_STAT_STATE = 4 → s.pw.woken = true → ∃ t, exec (.wakeFromSleep) s = .next t ∧ t.rd
      .SYS_WAKE_RESTORE = 1 ∧ t.rd .SYS_PWR_STAT_STATE = 0 ∧ t.pending = s.pending ∧ t.chan = s.chan)
    ∧ (∀ (s : State) (who : Initiator) (h : Held) (r : Nat), s.worldOf who ≠ .normal → s.flag .SYS_WAKE_RESTORE = true →
      s.pw.held = some h → r = s.formConfsum.checkResult h → s.masterRuns who = true → ∃ t, exec (.wakeCheck who) s =
      .next t ∧ t.rd .SYS_WAKE_RESULT = r ∧ t.rd .SYS_WAKE_RESTORE = (if r = 1 then 0 else s.rd .SYS_WAKE_RESTORE) ∧
      t.pw.due = (if r = 1 then s.pw.due else 5) ∧ changesOnly s t [(.SYS_WAKE_RESULT, 0), (.SYS_WAKE_RESTORE, 0),
      (.BR_CONFSUM, 0)] ∧ t = { s with regs := t.regs, pw := t.pw, resp := t.resp })
    ∧ (∀ (s : State), s.flag .SYS_WAKE_RESTORE = true → s.awake = true → exec (.wakeCheckTimeout) s = .next ((s.coldStart 5)))

/-- R26, R41, R42, R45, R427, R433, R435, R440, R443, R444: POWER_ON_RESET starts the module with cause 1 and its supply
back. FULL_RESET of the safety or secure world starts it with cause 2; of the normal world it sets REFUSED and nothing
else. START_LATE during START leads to Run with LATE set. LOCK_SET of one lock by a world that may set it sets it.
LOGIC_SUPPLY_LOSS, LOGIC_INPUT_CHANGE, SERVICE_KEY_CHANGE and BRAID_ID_CHANGE leave the pins as they then are; without
logic supply no claim shows, terminations are open and transceivers off; a change of the key is recorded. (The unit is
awake where the command needs its clock, and the master that sends a command runs: R334.) -/
def Obligations.ResetsPinsAndLocks : Prop :=
  (∀ (s : State), exec (.powerOnReset) s = .next ((let s' := (s.answer .none).coldStart 1;
      { s' with pw := { s'.pw with off := false, logicIn := s'.pw.logicIn || !s'.pw.logicAlt } })))
    ∧ (∀ (s : State) (who : Initiator), who.master ≠ 0xFF → s.worldOf who ≠ .normal → s.masterRuns who = true → exec
      (.fullReset who) s = .next (((s.answer .none).coldStart 2)))
    ∧ (∀ (s : State) (who : Initiator), who.master ≠ 0xFF → s.worldOf who = .normal → s.masterRuns who = true → ∃ t, exec
      (.fullReset who) s = .next t ∧ t.rd .SYS_PWR_STAT_REFUSED = 1 ∧ changesOnly s t [(.SYS_PWR_STAT_REFUSED, 0)] ∧ t =
      { s with regs := t.regs, resp := t.resp })
    ∧ (∀ (s : State), s.rd .SYS_PWR_STAT_STATE = 0 → s.pw.wokenSegs = [] → s.awake = true → ∃ t, exec (.startLate) s = .next t
      ∧ t.rd .SYS_PWR_STAT_STATE = 1 ∧ t.rd .SYS_START_LATE = 1 ∧ t.rd .SYS_T_FULL = min 0xFFFF s.sinceStart ∧
      t.pw.wokenSegs = [] ∧ ((List.range 16).all fun k => t.rd .XCVR_STAT_MODE k == segMode (s.rd .WE_SLP_STAT_STATE
      (s.segOf k))) = true ∧ changesOnly s t [(.SYS_PWR_STAT_STATE, 0), (.SYS_T_FULL, 0), (.SYS_START_LATE, 0),
      (.XCVR_STAT_MODE, 0), (.XCVR_STAT_MODE, 1), (.XCVR_STAT_MODE, 2), (.XCVR_STAT_MODE, 3), (.XCVR_STAT_MODE, 4),
      (.XCVR_STAT_MODE, 5), (.XCVR_STAT_MODE, 6), (.XCVR_STAT_MODE, 7), (.XCVR_STAT_MODE, 8), (.XCVR_STAT_MODE, 9),
      (.XCVR_STAT_MODE, 10), (.XCVR_STAT_MODE, 11), (.XCVR_STAT_MODE, 12), (.XCVR_STAT_MODE, 13), (.XCVR_STAT_MODE, 14),
      (.XCVR_STAT_MODE, 15), (.XCVR_STAT_INH, 0), (.XCVR_STAT_INH, 1), (.XCVR_STAT_INH, 2), (.XCVR_STAT_INH, 3),
      (.XCVR_STAT_INH, 4), (.XCVR_STAT_INH, 5), (.XCVR_STAT_INH, 6), (.XCVR_STAT_INH, 7), (.XCVR_STAT_INH, 8),
      (.XCVR_STAT_INH, 9), (.XCVR_STAT_INH, 10), (.XCVR_STAT_INH, 11), (.XCVR_STAT_INH, 12), (.XCVR_STAT_INH, 13),
      (.XCVR_STAT_INH, 14), (.XCVR_STAT_INH, 15)] ∧ t = { s with regs := t.regs })
    ∧ (∀ (s : State) (who : Initiator) (n : Nat), n < 5 → lockSetter n (s.worldOf who) = true → s.masterRuns who = true → ∃ t,
      exec (.lockSet who (2 ^ n)) s = .next t ∧ bit (t.rd .LK_STAT_LOCKS) n = true ∧ (∀ m, m < 5 → (m ≠ n → bit (t.rd
      .LK_STAT_LOCKS) m = bit (s.rd .LK_STAT_LOCKS) m)) ∧ changesOnly s t [(.LK_STAT_LOCKS, 0)] ∧ t =
      { s with regs := t.regs, die := t.die, resp := t.resp })
    ∧ (∀ (s : State) (who : Initiator) (n : Nat), n < 5 → lockSetter n (s.worldOf who) = false → s.masterRuns who = true → ∃
      t, exec (.lockSet who (2 ^ n)) s = .next t ∧ t.rd .LK_STAT_REFUSED = 1 ∧ t.rd .LK_STAT_LOCKS = s.rd .LK_STAT_LOCKS
      ∧ changesOnly s t [(.LK_STAT_REFUSED, 0)] ∧ t = { s with regs := t.regs, resp := t.resp })
    ∧ (∀ (s : State) (k : Nat), k < 16 → ∃ t, exec (.logicSupplyLoss) s = .next t ∧ t.pw =
      { t0 := s.now, strap := s.pw.strap, key := s.pw.key, off := true, logicIn := false, logicAlt := false } ∧ t.chan =
      s.chan ∧ t.io = s.io ∧ t.die = s.die ∧ t.can = [] ∧ t.braid.latch = false ∧ t.rd .CAN_CTL_TERM k = 0 ∧ t.rd
      .XCVR_STAT_MODE k = 2 ∧ t.rd .BR_STAT_CLAIM = 0)
    ∧ (∀ (s : State) (a b : Bool), ∃ t, exec (.logicInputChange a b) s = .next t ∧ t.pw =
      { s.pw with logicIn := a, logicAlt := b } ∧ t = { s with pw := t.pw })
    ∧ (∀ (s : State) (b : Bool), ∃ t, exec (.serviceKeyChange b) s = .next t ∧ t.pw.key = b ∧ t.pw.strap = s.pw.strap)
    ∧ (∀ (s : State) (b : Bool), s.pw.key ≠ b → s.unpowered = false → s.rd .SYS_PWR_STAT_STATE < 3 → ∃ t, exec
      (.serviceKeyChange b) s = .next t ∧ t.elog.head?.map (fun e => (e.src, e.evt, e.data)) = some (0x01, 0x03, [b2n
      b]) ∧ t = { s with pw := t.pw, eseq := t.eseq, elog := t.elog })
    ∧ (∀ (s : State) (b : Bool), ∃ t, exec (.braidIdChange b) s = .next t ∧ t.pw.strap = b2n b ∧ t.pw.key = s.pw.key)

/-- R47, R453, R454, R455, R456, R458, R463: For a command of a world that may give it, to this unit in single mode.
UPDATE_COPY that passes every check starts the copy; UPDATE_ABORT stops a copy under way; COPY_DONE with every page read
back leaves STATE 4, and otherwise STATE 5 with CODE 7 for a card error and CODE 8 for a flash error. UPDATE_ACTIVATE
and UPDATE_ACTIVATE_RESET that no condition of R456 refuses write the trial record for the other bank, the latter with a
full reset behind it; UPDATE_CONFIRM of a trial writes the record without it. CONFIRM_TIMEOUT of a trial orders a full
reset. Inserting and removing a card are seen. (The unit is awake where the command needs its clock, and the master that
sends a command runs: R334.) -/
def Obligations.FieldUpdateRuns : Prop :=
  (∀ (s : State) (who : Initiator) (u : Nat) (m : List Nat), s.worldOf who ≠ .normal → s.pairMode = false → (u = 0 ∨ u =
      s.rd .BR_STAT_UNIT + 1) → u < 3 → s.copyError true = 0 → s.upd.card.bind (·.mft) = some m → s.masterRuns who =
      true → ∃ t, exec (.updateCopy who u) s = .next t ∧ t.rd .UPD_STAT_STATE = 2 ∧ t.rd .UPD_PROGRESS = 0 ∧ t.rd
      .UPD_RESULT_CODE = 0 ∧ t.upd.copying = some m)
    ∧ (∀ (s : State) (who : Initiator) (u : Nat), s.worldOf who ≠ .normal → s.pairMode = false → (u = 0 ∨ u = s.rd
      .BR_STAT_UNIT + 1) → u < 3 → s.upd.copying = none → s.masterRuns who = true → ∃ t, exec (.updateAbort who u) s =
      .next t ∧ t.rd .UPD_RESULT_CODE = 0 ∧ t.rd .UPD_STAT_STATE = s.rd .UPD_STAT_STATE ∧ t.mem = s.mem ∧ t =
      { s with regs := t.regs, resp := t.resp })
    ∧ (∀ (s : State) (who : Initiator) (u : Nat), s.worldOf who ≠ .normal → s.pairMode = false → (u = 0 ∨ u = s.rd
      .BR_STAT_UNIT + 1) → u < 3 → s.upd.copying.isSome = true → s.masterRuns who = true → ∃ t, exec (.updateAbort who
      u) s = .next t ∧ t.rd .UPD_RESULT_CODE = 0 ∧ t.rd .UPD_STAT_STATE = 5 ∧ t.upd.copying = none)
    ∧ (∀ (s : State) (m : List Nat), s.upd.copying = some m → s.awake = true → ∃ t, exec (.copyDone 0) s = .next t ∧ t.rd
      .UPD_RESULT_CODE = 0 ∧ t.rd .UPD_STAT_STATE = 4 ∧ t.upd.copying = none)
    ∧ (∀ (s : State) (m : List Nat) (c : Nat), s.upd.copying = some m → c ≠ 0 → s.awake = true → ∃ t, exec (.copyDone c) s =
      .next t ∧ t.rd .UPD_RESULT_CODE = (if c = 7 then 7 else 8) ∧ t.rd .UPD_STAT_STATE = 5 ∧ t.upd.copying = none)
    ∧ (∀ (s : State) (who : Initiator) (u : Nat), s.worldOf who ≠ .normal → s.pairMode = false → (u = 0 ∨ u = s.rd
      .BR_STAT_UNIT + 1) → u < 3 → s.activateError = 0 → s.masterRuns who = true → ∃ t, exec (.updateActivate who u) s =
      .next t ∧ t.rd .UPD_RESULT_CODE = 0 ∧ t.bytesAt (recAddr (if s.recCopy = some 0 then 1 else 0)) 64 =
      ({ s.record with bank := 1 - s.record.bank, trial := true, returned := false, fallback := false, confirm := mftConfirm (s.manifest (1 - s.record.bank)), rseq := (s.record.rseq + 1) % 2 ^ 32 }
      : ActRec).bytes ∧ storesAt s t (recAddr (if s.recCopy = some 0 then 1 else 0)) 0x10000 ∧ t.pw = s.pw)
    ∧ (∀ (s : State) (who : Initiator) (u : Nat), s.worldOf who ≠ .normal → s.pairMode = false → (u = 0 ∨ u = s.rd
      .BR_STAT_UNIT + 1) → u < 3 → s.activateError = 0 → s.masterRuns who = true → ∃ t, exec (.updateActivateReset who
      u) s = .next t ∧ t.rd .UPD_RESULT_CODE = 0 ∧ t.bytesAt (recAddr (if s.recCopy = some 0 then 1 else 0)) 64 =
      ({ s.record with bank := 1 - s.record.bank, trial := true, returned := false, fallback := false, confirm := mftConfirm (s.manifest (1 - s.record.bank)), rseq := (s.record.rseq + 1) % 2 ^ 32 }
      : ActRec).bytes ∧ storesAt s t (recAddr (if s.recCopy = some 0 then 1 else 0)) 0x10000 ∧ t.pw =
      { s.pw with due := 3 })
    ∧ (∀ (s : State) (who : Initiator) (u : Nat), s.worldOf who ≠ .normal → s.pairMode = false → (u = 0 ∨ u = s.rd
      .BR_STAT_UNIT + 1) → u < 3 → s.record.trial = true → s.masterRuns who = true → ∃ t, exec (.updateConfirm who u) s
      = .next t ∧ t.rd .UPD_RESULT_CODE = 0 ∧ t.bytesAt (recAddr (if s.recCopy = some 0 then 1 else 0)) 64 =
      ({ s.record with trial := false, rseq := (s.record.rseq + 1) % 2 ^ 32 } : ActRec).bytes ∧ storesAt s t (recAddr
      (if s.recCopy = some 0 then 1 else 0)) 0x10000 ∧ t.rd .UPD_CONFIRM_LEFT = 0 ∧ t.upd.confirmAt = none)
    ∧ (∀ (s : State), s.record.trial = true → s.upd.confirmAt.isSome = true → s.awake = true → ∃ t, exec (.confirmTimeout) s =
      .next t ∧ t.pw.due = 2 ∧ t = { s with pw := t.pw })
    ∧ (∀ (s : State), s.upd.copying = none → s.pairMode = false → ∃ t, exec (.cardRemoved) s = .next t ∧ t.upd.card = none ∧
      t.rd .UPD_STAT_CARD = 0 ∧ changesOnly s t [(.UPD_STAT_CARD, 0)] ∧ t = { s with regs := t.regs, upd := t.upd })
    ∧ (∀ (s : State) (d : Card), s.rd .UPD_STAT_STATE ≠ 6 → s.pairMode = false → ∃ t, exec (.cardInserted d) s = .next t ∧
      t.upd.card = some d ∧ t.rd .UPD_STAT_CARD = 1 ∧ changesOnly s t [(.UPD_STAT_CARD, 0)] ∧ t =
      { s with regs := t.regs, upd := t.upd })

/-- R3, R4, R79, R335, R382, R383, R445, R477: REGISTER_WRITE to memory that the world may write stores the word there and
nowhere else, and outside the event log changes no record; to SYS_SLPTO by a world other than normal, with a value of 1
to 255 that differs, it sets the field and advances BR_CONFGEN; by the normal world it sets REFUSED and leaves the
field. READ_CLEAR of memory answers the word; of GA_CNT_BAD it answers the count and leaves only what arrived in the
cycle of the read. A W1C bit holds its interrupt line: writing 1 to the last one set of MR_STAT clears it and the line
falls. An address that is no multiple of 4 gives an access fault with its record. (The master that sends a command runs:
R334.) -/
def Obligations.RegisterAccessStoresAndReads : Prop :=
  (∀ (s : State) (who : Initiator) (a v : Nat), a % 4 = 0 → v < 2 ^ 32 → s.memOk who.master (s.worldOf who) a 4 .write =
      true → s.masterRuns who = true → ∃ t, exec (.registerWrite who a v) s = .next t ∧ t.word a = v ∧ storesAt s t a 4
      ∧ (offLog a 4 = false ∨ t.elog = s.elog) ∧ t = { s with mem := t.mem, elog := t.elog, resp := t.resp })
    ∧ (∀ (s : State) (who : Initiator) (v : Nat), s.worldOf who ≠ .normal → 1 ≤ v → v ≤ 255 → v ≠ s.rd .SYS_SLPTO →
      s.masterRuns who = true → ∃ t, exec (.registerWrite who 0x40000008 v) s = .next t ∧ t.rd .SYS_SLPTO = v ∧ t.rd
      .BR_CONFGEN = (s.rd .BR_CONFGEN + 1) % 2 ^ 32 ∧ changesOnly s t [(.SYS_SLPTO, 0), (.BR_CONFGEN, 0)] ∧ t =
      { s with regs := t.regs, resp := t.resp })
    ∧ (∀ (s : State) (who : Initiator) (v : Nat), s.worldOf who = .normal → 1 ≤ v → v ≤ 255 → v ≠ s.rd .SYS_SLPTO →
      s.masterRuns who = true → ∃ t, exec (.registerWrite who 0x40000008 v) s = .next t ∧ t.rd .SYS_PWR_STAT_REFUSED = 1
      ∧ changesOnly s t [(.SYS_PWR_STAT_REFUSED, 0)] ∧ t = { s with regs := t.regs, resp := t.resp })
    ∧ (∀ (s : State) (who : Initiator) (a v : Nat), a % 4 ≠ 0 → s.masterRuns who = true → ∃ t, exec (.registerWrite who a v) s
      = .next t ∧ t.resp = .accessFault ∧ t.elog.head?.map (fun e => (e.src, e.evt, e.data)) = some (0x01, 0x01, leBytes
      5 a ++ [4]) ∧ t = { s with resp := t.resp, eseq := t.eseq, elog := t.elog })
    ∧ (∀ (s : State) (who : Initiator) (a : Nat) (l : List Nat), a % 4 = 0 → s.memOk who.master (s.worldOf who) a 4 .read =
      true → s.masterRuns who = true → ∃ t, exec (.readClear who a l) s = .next t ∧ t.resp = .value (s.load a) ∧ t =
      { s with resp := t.resp })
    ∧ (∀ (s : State) (who : Initiator), s.worldOf who ≠ .normal → s.flag .MR_STAT_LOSS = true → s.flag .MR_STAT_FRANGE = false
      → s.flag .MR_STAT_REFUSED = false → s.flag .MR_STAT_REFLATE = false → s.irqs.contains 17 = false → s.masterRuns
      who = true → ∃ t, exec (.registerWrite who 0x40020004 (2 ^ 11)) s = .next t ∧ s.irqLine 17 = true ∧ t.rd
      .MR_STAT_LOSS = 0 ∧ t.irqLine 17 = false ∧ changesOnly s t [(.MR_STAT_LOSS, 0)] ∧ t =
      { s with regs := t.regs, resp := t.resp })
    ∧ (∀ (s : State) (who : Initiator) (n : Nat), s.masterRuns who = true → ∃ t, exec (.readClear who 0x40030020 [n]) s =
      .next t ∧ t.resp = .value (s.rd .GA_CNT_BAD) ∧ t.rd .GA_CNT_BAD = min n (2 ^ 32 - 1) ∧ changesFields s t
      [.GA_CNT_BAD, .HW_USE, .TP_STAT_LIVE, .UPD_STAT_STATE, .UPD_PROGRESS, .MR_FREE, .MR_FREE_WRAP, .UPD_CONFIRM_LEFT,
      .BR_HEALTH, .OD_QDEPTH_P, .OD_QDEPTH_E, .OD_QDEPTH_S, .OD_QDEPTH_B, .OD_QDEPTH_I, .LK_SET, .LK_STAT_RESTORE] ∧ t =
      { s with regs := t.regs, resp := t.resp, free := t.free })

/-- R155: R155. On a reachable die, for a channel that is no follower and that no other reason of R138 stops: with ADMIT = 1
and the sum of the feed (LSB 1 mA) plus the nominal current of the channel (LSB 20 mA) above the limit (LSB 20 mA), a
command that would turn the channel on is refused with WHY = BUDGET and leaves the channel. An off-command and a duty
change of a channel in PWM complete whatever ADMIT, the sum, the nominal current and the limit are. The master that
sends the command runs. -/
def Obligations.AdmissionRefusesTurnOnOnly : Prop :=
  (∀ (s : State) (who : Initiator) (k a d : Nat) (c : Instr), k < 32 → s.dieReach (dieOf k) = true → owns (s.worldOf who)
      (s.chanWorld k) = true → s.isFollow k = false → s.rd .SL_CFG_MODE k ≠ 3 → s.flag .SL_WD_STAT_FAILSAFE (dieOf k) =
      false → s.rd .SL_PROT_STAT_CAUSE k = 0 → s.flag .SL_PROT_STAT_SPLOCK k = false → s.flag .SL_WD_STAT_SERVED (dieOf
      k) = true → (c, a, d) ∈ [(Instr.channelOn who k, 1, 0), (.channelOnHard who k, 2, 0), (.channelPwm who k d, 3, d)]
      → s.masterRuns who = true → d ≤ 1000 → (s.rd .SL_STAT_STATE k = 0 ∨ s.rd .SL_STAT_STATE k = 4) → s.flag
      .SL_UV_STAT_UVOFF (dieOf k) = false → s.flag .SL_FEED_CFG_ADMIT (dieOf k) = true → 20 * (s.rd .SL_FEED_LIM (dieOf
      k) : Int) < s.rdI .SL_FEED_SUM (dieOf k) + 20 * (s.rd .SL_BUDGET_NOM k : Int) → ∃ t, exec c s = .next t ∧ t.rd
      .SL_STAT_REFUSED k = 1 ∧ t.rd .SL_STAT_WHY k = 1 ∧ t.ch k = s.ch k ∧ t.rd .SL_STAT_STATE k = s.rd .SL_STAT_STATE
      k)
    ∧ (∀ (s : State) (who : Initiator) (k : Nat), k < 32 → s.dieReach (dieOf k) = true → owns (s.worldOf who) (s.chanWorld k)
      = true → s.isFollow k = false → s.rd .SL_CFG_MODE k ≠ 3 → s.flag .SL_WD_STAT_FAILSAFE (dieOf k) = false →
      s.masterRuns who = true → ∃ t, exec (.channelOff who k) s = .next t ∧ (t.ch k).cmdOn = false ∧ t.rd .SL_STAT_WHY k
      = s.rd .SL_STAT_WHY k ∧ t.rd .SL_STAT_REFUSED k = s.rd .SL_STAT_REFUSED k)
    ∧ (∀ (s : State) (who : Initiator) (k d : Nat), k < 32 → s.dieReach (dieOf k) = true → owns (s.worldOf who) (s.chanWorld
      k) = true → s.isFollow k = false → s.rd .SL_CFG_MODE k ≠ 3 → s.flag .SL_WD_STAT_FAILSAFE (dieOf k) = false → s.rd
      .SL_PROT_STAT_CAUSE k = 0 → s.flag .SL_PROT_STAT_SPLOCK k = false → s.flag .SL_WD_STAT_SERVED (dieOf k) = true → d
      ≤ 1000 → s.rd .SL_STAT_STATE k = 3 → s.masterRuns who = true → ∃ t, exec (.channelPwm who k d) s = .next t ∧ (t.ch
      k).nextDuty = some d ∧ (t.ch k).onDuty = d ∧ t.rd .SL_STAT_WHY k = s.rd .SL_STAT_WHY k ∧ t.rd .SL_STAT_REFUSED k =
      s.rd .SL_STAT_REFUSED k)

/-- R166: R166. On a reachable die, for a channel that is no follower of a pair. With a cause, no thermal latch, and the
safety world for REFLEX or a world that owns the channel for another cause, CLEAR clears the cause, the retries and the
commanded state; the channel reads OFF, or LOCKED where SPLOCK is set, and SPLOCK stays. Otherwise CLEAR is refused with
PWHY STATE (4) without a cause, TLATCH (1) under the latch, WORLD (2) for a world that may not, in that order, and
leaves CAUSE, SPLOCK and the channel. The master that sends the command runs. -/
def Obligations.ClearLeavesFaultForItsWorld : Prop :=
  (∀ (s : State) (who : Initiator) (k : Nat), k < 32 → s.dieReach (dieOf k) = true → s.isFollow k = false → 0 < s.rd
      .SL_PROT_STAT_CAUSE k → s.flag .SL_PROT_STAT_TLATCH k = false → s.flag .SL_PROT_STAT_SPLOCK k = false → (s.rd
      .SL_PROT_STAT_CAUSE k = 4 ∧ s.worldOf who = .safety ∨ s.rd .SL_PROT_STAT_CAUSE k ≠ 4 ∧ owns (s.worldOf who)
      (s.chanWorld k) = true) → s.masterRuns who = true → ∃ t, exec (.protectionClear who k) s = .next t ∧ t.rd
      .SL_PROT_STAT_CAUSE k = 0 ∧ t.rd .SL_PROT_STAT_RETRIES k = 0 ∧ (t.ch k).cmdOn = false ∧ t.rd .SL_PROT_STAT_SPLOCK
      k = s.rd .SL_PROT_STAT_SPLOCK k ∧ t.rd .SL_STAT_STATE k = 0 ∧ t =
      { s with regs := t.regs, chan := t.chan, irqs := t.irqs, eseq := t.eseq, elog := t.elog, braid := t.braid, resp := t.resp, ferry := t.ferry })
    ∧ (∀ (s : State) (who : Initiator) (k : Nat), k < 32 → s.dieReach (dieOf k) = true → s.isFollow k = false → 0 < s.rd
      .SL_PROT_STAT_CAUSE k → s.flag .SL_PROT_STAT_TLATCH k = false → s.flag .SL_PROT_STAT_SPLOCK k = true → (s.rd
      .SL_PROT_STAT_CAUSE k = 4 ∧ s.worldOf who = .safety ∨ s.rd .SL_PROT_STAT_CAUSE k ≠ 4 ∧ owns (s.worldOf who)
      (s.chanWorld k) = true) → s.masterRuns who = true → ∃ t, exec (.protectionClear who k) s = .next t ∧ t.rd
      .SL_PROT_STAT_CAUSE k = 0 ∧ t.rd .SL_PROT_STAT_RETRIES k = 0 ∧ (t.ch k).cmdOn = false ∧ t.rd .SL_PROT_STAT_SPLOCK
      k = s.rd .SL_PROT_STAT_SPLOCK k ∧ t.rd .SL_STAT_STATE k = 6 ∧ t =
      { s with regs := t.regs, chan := t.chan, irqs := t.irqs, eseq := t.eseq, elog := t.elog, braid := t.braid, resp := t.resp, ferry := t.ferry })
    ∧ (∀ (s : State) (who : Initiator) (k : Nat), k < 32 → s.dieReach (dieOf k) = true → s.isFollow k = false → s.rd
      .SL_PROT_STAT_CAUSE k = 0 → s.masterRuns who = true → ∃ t, exec (.protectionClear who k) s = .next t ∧ t.rd
      .SL_PROT_STAT_REFUSED k = 1 ∧ t.rd .SL_PROT_STAT_PWHY k = 4 ∧ changesOnly s t [(.SL_PROT_STAT_REFUSED, k),
      (.SL_PROT_STAT_PWHY, k), (.SL_DIE_STAT_REFUSED, dieOf k)] ∧ t =
      { s with regs := t.regs, resp := t.resp, ferry := t.ferry })
    ∧ (∀ (s : State) (who : Initiator) (k : Nat), k < 32 → s.dieReach (dieOf k) = true → s.isFollow k = false → 0 < s.rd
      .SL_PROT_STAT_CAUSE k → s.flag .SL_PROT_STAT_TLATCH k = true → s.masterRuns who = true → ∃ t, exec
      (.protectionClear who k) s = .next t ∧ t.rd .SL_PROT_STAT_REFUSED k = 1 ∧ t.rd .SL_PROT_STAT_PWHY k = 1 ∧
      changesOnly s t [(.SL_PROT_STAT_REFUSED, k), (.SL_PROT_STAT_PWHY, k), (.SL_DIE_STAT_REFUSED, dieOf k)] ∧ t =
      { s with regs := t.regs, resp := t.resp, ferry := t.ferry })
    ∧ (∀ (s : State) (who : Initiator) (k : Nat), k < 32 → s.dieReach (dieOf k) = true → s.isFollow k = false → 0 < s.rd
      .SL_PROT_STAT_CAUSE k → s.flag .SL_PROT_STAT_TLATCH k = false → (¬(s.rd .SL_PROT_STAT_CAUSE k = 4 ∧ s.worldOf who
      = .safety ∨ s.rd .SL_PROT_STAT_CAUSE k ≠ 4 ∧ owns (s.worldOf who) (s.chanWorld k) = true)) → s.masterRuns who =
      true → ∃ t, exec (.protectionClear who k) s = .next t ∧ t.rd .SL_PROT_STAT_REFUSED k = 1 ∧ t.rd .SL_PROT_STAT_PWHY
      k = 2 ∧ changesOnly s t [(.SL_PROT_STAT_REFUSED, k), (.SL_PROT_STAT_PWHY, k), (.SL_DIE_STAT_REFUSED, dieOf k)] ∧ t
      = { s with regs := t.regs, resp := t.resp, ferry := t.ferry })

/-- R331, R334, R336, R335, R477, opcode_table.json: Whatever the command, its operands and the state: exec answers a next
state. The manual gives every command an effect, a refused or unknown one too (a refused flag, a code, an access fault
answered, a record), and no meaning faults or refuses. A command changes nothing where the unit is without the clock and
power that it needs (Standby, Sleep, or no logic supply), but for those of the dies, the pins and the always-on domain;
nor does a command of a master that does not run: an application core in Trim, a frozen pair, a processor that the boot
ROM does not release. That these commands then do nothing is the reading of the model (log entry 25). What each command
does otherwise is stated by the other statements. -/
def Obligations.EveryCommandAnswersANextState : Prop :=
  (∀ (s : State) (i : Instr), ∃ t, exec i s = .next t)
    ∧ (∀ (s : State) (i : Instr), actsUnpowered i = false → s.awake = false → exec i s = .next s)
    ∧ (∀ (s : State) (i : Instr) (who : Initiator), sentBy i = some who → s.masterRuns who = false → exec i s = .next s)
end

