-- ==== Sys2Proof/Laws/Map.lean ====
section
/-!
SUPPORT. Laws of the association maps and of memory: what is read after a write, and that every memory operation keeps the
canonical form.
-/
namespace Sys2Proof.Machine

namespace AMap
variable {κ α : Type} [DecidableEq κ]

@[simp] theorem get_nil (d : α) (k : κ) : get d [] k = d := rfl

theorem get_erase_same (d : α) (m : AMap κ α) (k : κ) : get d (erase m k) k = d := by
  induction m with
  | nil => rfl
  | cons e r ih =>
    obtain ⟨k', v⟩ := e
    simp only [erase]
    split
    · exact ih
    · rename_i h; simp [get, h, ih]

theorem get_erase_ne (d : α) (m : AMap κ α) {k k' : κ} (h : k' ≠ k) : get d (erase m k) k' = get d m k' := by
  induction m with
  | nil => rfl
  | cons e r ih =>
    obtain ⟨j, v⟩ := e
    simp only [erase]
    split
    · rename_i hj; subst hj; simp [get, ih, Ne.symm h]
    · simp [get, ih]

theorem get_place_same (d : α) (ord : κ → Nat) (m : AMap κ α) (k : κ) (v : α) (h : get d m k = d)
    (hk : ∀ e ∈ m, e.1 ≠ k) : get d (place ord k v m) k = v := by
  induction m with
  | nil => simp [place, get]
  | cons e r ih =>
    obtain ⟨j, w⟩ := e
    have hj : j ≠ k := hk (j, w) (by simp)
    simp only [place]
    split
    · simp [get]
    · simp only [get, if_neg hj] at h ⊢
      exact ih h fun e he => hk e (by simp [he])

theorem get_place_ne (d : α) (ord : κ → Nat) (m : AMap κ α) {k k' : κ} (v : α) (h : k' ≠ k) :
    get d (place ord k v m) k' = get d m k' := by
  induction m with
  | nil => simp [place, get, Ne.symm h]
  | cons e r ih =>
    obtain ⟨j, w⟩ := e
    simp only [place]
    split
    · simp [get, Ne.symm h]
    · simp [get, ih]

theorem not_mem_erase (m : AMap κ α) (k : κ) : ∀ e ∈ erase m k, e.1 ≠ k := by
  induction m with
  | nil => simp [erase]
  | cons e r ih =>
    obtain ⟨j, w⟩ := e
    simp only [erase]
    split
    · exact ih
    · rename_i h
      intro e he
      rcases List.mem_cons.mp he with rfl | he
      · exact h
      · exact ih e he

/-- The value just set is the value read. -/
theorem get_set_same [DecidableEq α] (ord : κ → Nat) (d : α) (m : AMap κ α) (k : κ) (v : α) : get d (set ord d m k v) k = v := by
  unfold set
  split
  · rename_i h; rw [get_erase_same, h]
  · exact get_place_same d ord _ k v (get_erase_same d m k) (not_mem_erase m k)

/-- A set leaves every other key. -/
theorem get_set_ne [DecidableEq α] (ord : κ → Nat) (d d' : α) (m : AMap κ α) {k k' : κ} (v : α) (h : k' ≠ k) :
    get d' (set ord d m k v) k' = get d' m k' := by
  unfold set
  split
  · exact get_erase_ne d' m h
  · rw [get_place_ne d' ord _ v h, get_erase_ne d' m h]

/-! ### The canonical form -/

omit [DecidableEq κ] in
/-- The canonical form, entry by entry. -/
theorem wf_iff [DecidableEq α] (ord : κ → Nat) (d : κ → α) (m : AMap κ α) :
    wf ord d m = true ↔ m.Pairwise (fun a b => ord a.1 < ord b.1) ∧ ∀ e ∈ m, e.2 ≠ d e.1 := by
  induction m with
  | nil => simp [wf]
  | cons e r ih =>
    obtain ⟨k, v⟩ := e
    cases r with
    | nil => simp [wf]
    | cons e' r' =>
      obtain ⟨k', v'⟩ := e'
      simp only [wf, Bool.and_eq_true, decide_eq_true_eq, ih]
      constructor
      · rintro ⟨⟨hv, hk⟩, hp, hd⟩
        refine ⟨List.pairwise_cons.mpr ⟨?_, hp⟩, ?_⟩
        · intro b hb
          rcases List.mem_cons.mp hb with rfl | hb
          · exact hk
          · exact Nat.lt_trans hk ((List.pairwise_cons.mp hp).1 b hb)
        · intro b hb
          rcases List.mem_cons.mp hb with rfl | hb
          · exact hv
          · exact hd b hb
      · rintro ⟨hp, hd⟩
        have h1 := List.pairwise_cons.mp hp
        exact ⟨⟨hd (k, v) (by simp), h1.1 (k', v') (by simp)⟩, h1.2, fun b hb => hd b (by simp [hb])⟩

end AMap

namespace Memory

theorem wf_iff (m : Memory) :
    wf m = true ↔ m.Pairwise (fun a b => a.1 < b.1) ∧ ∀ e ∈ m, e.2 ≠ base e.1 := AMap.wf_iff id base m

/-- Cells left out keep the canonical form. -/
theorem wf_filter (m : Memory) (p : Host.Cell → Bool) (h : wf m = true) : wf (m.filter p) = true := by
  rw [wf_iff] at h ⊢
  exact ⟨h.1.filter p, fun e he => h.2 e (List.mem_filter.mp he).1⟩

/-- The cells of a block: addresses of the block, rising, none at its unlisted value. -/
theorem cells_spec (l : List Nat) : ∀ a : Nat,
    (cells a l).Pairwise (fun x y => x.1 < y.1) ∧ ∀ e ∈ cells a l, a ≤ e.1 ∧ e.1 < a + l.length ∧ e.2 ≠ base e.1 := by
  induction l with
  | nil => intro a; simp [cells]
  | cons b r ih =>
    intro a
    obtain ⟨hp, hb⟩ := ih (a + 1)
    have hr : ∀ e ∈ cells (a + 1) r, a ≤ e.1 ∧ e.1 < a + (b :: r).length ∧ e.2 ≠ base e.1 := by
      intro e he
      have := hb e he
      refine ⟨by omega, ?_, this.2.2⟩
      simp only [List.length_cons]; omega
    simp only [cells]
    split
    · exact ⟨hp, hr⟩
    · rename_i hv
      refine ⟨List.pairwise_cons.mpr ⟨fun e he => ?_, hp⟩, ?_⟩
      · have := (hb e he).1; show a < e.1; omega
      · intro e he
        rcases List.mem_cons.mp he with rfl | he
        · exact ⟨Nat.le_refl _, by simp, hv⟩
        · exact hr e he

/-- A block written keeps the canonical form. -/
theorem wf_wrBytes (m : Memory) (a : Nat) (l : List Nat) (h : wf m = true) : wf (wrBytes m a l) = true := by
  rw [wf_iff] at h ⊢
  obtain ⟨hp, hd⟩ := h
  obtain ⟨cp, cd⟩ := cells_spec l a
  constructor
  · refine List.pairwise_append.mpr ⟨hp.filter _, List.pairwise_append.mpr ⟨cp, hp.filter _, ?_⟩, ?_⟩
    · intro x hx y hy
      have h1 := (cd x hx).2.1
      have h2 := (List.mem_filter.mp hy).2
      simp only [decide_eq_true_eq] at h2; omega
    · intro x hx y hy
      have h1 := (List.mem_filter.mp hx).2
      simp only [decide_eq_true_eq] at h1
      rcases List.mem_append.mp hy with hy | hy
      · have := (cd y hy).1; omega
      · have h2 := (List.mem_filter.mp hy).2
        simp only [decide_eq_true_eq] at h2; omega
  · intro e he
    rcases List.mem_append.mp he with he | he
    · exact hd e (List.mem_filter.mp he).1
    · rcases List.mem_append.mp he with he | he
      · exact (cd e he).2.2
      · exact hd e (List.mem_filter.mp he).1

/-- A block wiped keeps the canonical form. -/
theorem wf_wipe (m : Memory) (a n : Nat) (h : wf m = true) : wf (wipe m a n) = true := wf_filter m _ h

/-- A word written keeps the canonical form. -/
theorem wf_wr32 (m : Memory) (a v : Nat) (h : wf m = true) : wf (wr32 m a v) = true := wf_wrBytes m a _ h

/-- Cells below an address do not matter to what is read at it or above. -/
theorem get_append_of_lt (d : Byte) (m n : Memory) (x : Nat) (h : ∀ e ∈ m, e.1 ≠ x) :
    AMap.get d (m ++ n) x = AMap.get d n x := by
  induction m with
  | nil => rfl
  | cons e r ih =>
    obtain ⟨k, v⟩ := e
    have hk : k ≠ x := h (k, v) (by simp)
    simp only [List.cons_append, AMap.get, if_neg hk]
    exact ih fun e he => h e (by simp [he])

theorem get_filter (d : Byte) (m : Memory) (p : Host.Cell → Bool) (x : Nat) (h : ∀ v, p (x, v) = true) :
    AMap.get d (m.filter p) x = AMap.get d m x := by
  induction m with
  | nil => rfl
  | cons e r ih =>
    obtain ⟨k, v⟩ := e
    by_cases hk : k = x
    · subst hk; simp [List.filter, h v, AMap.get]
    · cases hp : p (k, v) <;> simp [List.filter, hp, AMap.get, hk, ih]

theorem get_of_not_mem (d : Byte) (m : Memory) (x : Nat) (h : ∀ e ∈ m, e.1 ≠ x) : AMap.get d m x = d := by
  have := get_append_of_lt d m [] x h
  simpa using this

theorem get_append_left (d : Byte) (m n : Memory) (x : Nat) (h : ∀ e ∈ n, e.1 ≠ x) :
    AMap.get d (m ++ n) x = AMap.get d m x := by
  induction m with
  | nil => exact get_of_not_mem d n x h
  | cons e r ih =>
    obtain ⟨k, v⟩ := e
    by_cases hk : k = x
    · simp [AMap.get, hk]
    · simp only [List.cons_append, AMap.get, if_neg hk]; exact ih

/-- A block written leaves every byte outside it. -/
theorem rd8_wrBytes_out (m : Memory) (a : Nat) (l : List Nat) (x : Nat) (h : x < a ∨ a + l.length ≤ x) :
    rd8 (wrBytes m a l) x = rd8 m x := by
  have hc : ∀ e ∈ cells a l, e.1 ≠ x := fun e he => by have := (cells_spec l a).2 e he; omega
  unfold rd8 wrBytes
  congr 1
  rcases h with h | h
  · rw [get_append_left, get_filter]
    · intro v; simpa using h
    · intro e he
      rcases List.mem_append.mp he with he | he
      · exact hc e he
      · have := (List.mem_filter.mp he).2; simp only [decide_eq_true_eq] at this; omega
  · rw [get_append_of_lt, get_append_of_lt _ _ _ _ hc, get_filter]
    · intro v; simpa using h
    · intro e he
      have := (List.mem_filter.mp he).2; simp only [decide_eq_true_eq] at this; omega

theorem get_cells (l : List Nat) : ∀ (a i : Nat), i < l.length →
    AMap.get (base (a + i)) (cells a l) (a + i) = BitVec.ofNat 8 (l.getD i 0) := by
  induction l with
  | nil => intro a i h; simp at h
  | cons b r ih =>
    intro a i h
    cases i with
    | zero =>
      simp only [Nat.add_zero, cells, List.getD_cons_zero]
      split
      · rename_i hb
        rw [get_of_not_mem, hb]
        intro e he; have := ((cells_spec r (a + 1)).2 e he).1; omega
      · simp [AMap.get]
    | succ i =>
      have hi : i < r.length := by simpa using h
      have e1 : a + (i + 1) = a + 1 + i := by omega
      rw [e1]
      simp only [cells, List.getD_cons_succ]
      split
      · exact ih (a + 1) i hi
      · simp only [AMap.get]
        rw [if_neg (by omega)]
        exact ih (a + 1) i hi

/-- A byte of the block just written reads as written. -/
theorem rd8_wrBytes_in (m : Memory) (a : Nat) (l : List Nat) (i : Nat) (h : i < l.length) :
    rd8 (wrBytes m a l) (a + i) = l.getD i 0 % 256 := by
  unfold rd8 wrBytes
  have h1 : ∀ e ∈ m.filter (fun e => decide (e.1 < a)), e.1 ≠ a + i := by
    intro e he; have := (List.mem_filter.mp he).2; simp only [decide_eq_true_eq] at this; omega
  have h2 : ∀ e ∈ m.filter (fun e => decide (a + l.length ≤ e.1)), e.1 ≠ a + i := by
    intro e he; have := (List.mem_filter.mp he).2; simp only [decide_eq_true_eq] at this; omega
  rw [get_append_of_lt _ _ _ _ h1, get_append_left _ _ _ _ h2, get_cells l a i h]
  simp

/-- A wipe leaves every byte outside it. -/
theorem rd8_wipe_out (m : Memory) (a n x : Nat) (h : x < a ∨ a + n ≤ x) : rd8 (wipe m a n) x = rd8 m x := by
  unfold rd8 wipe
  rw [get_filter]
  intro v
  simpa using h

end Memory
end Sys2Proof.Machine
end

