-- ==== Sys2Proof/Laws/State.lean ====
section
/-!
SUPPORT. Laws of the operations over the state: what a register field reads after a write, and, field by field of the state,
what each operation leaves. The laws are meant for rewriting (simp, rw). A proof that leaves an equation of two states to
rfl makes the kernel unfold arithmetic such as turn * 2 ^ 24 step by step; State.eq_of_parts takes it apart instead.
-/
namespace Sys2Proof.Machine

/-! ## Register fields -/

/-- A field just written reads the value cut to its width. -/
@[simp] theorem State.rd_wr_same (s : State) (f : Fld) (v i : Nat) : (s.wr f v i).rd f i = v % 2 ^ f.info.width := by
  unfold State.rd State.wr
  exact AMap.get_set_same keyOrd _ _ _ _

/-- A write leaves every other field and instance. -/
theorem State.rd_wr_ne (s : State) {f g : Fld} (v : Nat) {i j : Nat} (h : (g, j) ≠ (f, i)) :
    (s.wr f v i).rd g j = s.rd g j := by
  unfold State.rd State.wr
  exact AMap.get_set_ne keyOrd _ _ _ _ h

/-- A write of one field leaves every other field. -/
@[simp] theorem State.rd_wr_field (s : State) {f g : Fld} (v i j : Nat) (h : g ≠ f) : (s.wr f v i).rd g j = s.rd g j :=
  s.rd_wr_ne v fun e => h (congrArg Prod.fst e)

/-- A write of one instance leaves every other instance. -/
theorem State.rd_wr_inst (s : State) (f : Fld) (v : Nat) {i j : Nat} (h : j ≠ i) : (s.wr f v i).rd f j = s.rd f j :=
  s.rd_wr_ne v fun e => h (congrArg Prod.snd e)

/-- States with the same register file read the same. -/
theorem State.rd_of_regs {s t : State} (h : t.regs = s.regs) (f : Fld) (i : Nat) : t.rd f i = s.rd f i := by
  unfold State.rd
  rw [h]

@[simp] theorem State.rd_with_shadow (s : State) (x) (f : Fld) (i : Nat) : ({ s with shadow := x } : State).rd f i = s.rd f i :=
  State.rd_of_regs (id rfl) f i
@[simp] theorem State.rd_with_mem (s : State) (x) (f : Fld) (i : Nat) : ({ s with mem := x } : State).rd f i = s.rd f i :=
  State.rd_of_regs (id rfl) f i
@[simp] theorem State.rd_with_now (s : State) (x) (f : Fld) (i : Nat) : ({ s with now := x } : State).rd f i = s.rd f i :=
  State.rd_of_regs (id rfl) f i
@[simp] theorem State.rd_with_release (s : State) (x) (f : Fld) (i : Nat) : ({ s with release := x } : State).rd f i = s.rd f i :=
  State.rd_of_regs (id rfl) f i
@[simp] theorem State.rd_with_resp (s : State) (x) (f : Fld) (i : Nat) : ({ s with resp := x } : State).rd f i = s.rd f i :=
  State.rd_of_regs (id rfl) f i
@[simp] theorem State.rd_with_irqs (s : State) (x) (f : Fld) (i : Nat) : ({ s with irqs := x } : State).rd f i = s.rd f i :=
  State.rd_of_regs (id rfl) f i
@[simp] theorem State.rd_with_eseq (s : State) (x) (f : Fld) (i : Nat) : ({ s with eseq := x } : State).rd f i = s.rd f i :=
  State.rd_of_regs (id rfl) f i
@[simp] theorem State.rd_with_elog (s : State) (x) (f : Fld) (i : Nat) : ({ s with elog := x } : State).rd f i = s.rd f i :=
  State.rd_of_regs (id rfl) f i
@[simp] theorem State.rd_with_free (s : State) (x) (f : Fld) (i : Nat) : ({ s with free := x } : State).rd f i = s.rd f i :=
  State.rd_of_regs (id rfl) f i
@[simp] theorem State.rd_with_mr (s : State) (x) (f : Fld) (i : Nat) : ({ s with mr := x } : State).rd f i = s.rd f i :=
  State.rd_of_regs (id rfl) f i
@[simp] theorem State.rd_with_evt (s : State) (x) (f : Fld) (i : Nat) : ({ s with evt := x } : State).rd f i = s.rd f i :=
  State.rd_of_regs (id rfl) f i
@[simp] theorem State.rd_with_gauge (s : State) (x) (f : Fld) (i : Nat) : ({ s with gauge := x } : State).rd f i = s.rd f i :=
  State.rd_of_regs (id rfl) f i
@[simp] theorem State.rd_with_chan (s : State) (x) (f : Fld) (i : Nat) : ({ s with chan := x } : State).rd f i = s.rd f i :=
  State.rd_of_regs (id rfl) f i
@[simp] theorem State.rd_with_die (s : State) (x) (f : Fld) (i : Nat) : ({ s with die := x } : State).rd f i = s.rd f i :=
  State.rd_of_regs (id rfl) f i
@[simp] theorem State.rd_with_io (s : State) (x) (f : Fld) (i : Nat) : ({ s with io := x } : State).rd f i = s.rd f i :=
  State.rd_of_regs (id rfl) f i
@[simp] theorem State.rd_with_gate (s : State) (x) (f : Fld) (i : Nat) : ({ s with gate := x } : State).rd f i = s.rd f i :=
  State.rd_of_regs (id rfl) f i
@[simp] theorem State.rd_with_can (s : State) (x) (f : Fld) (i : Nat) : ({ s with can := x } : State).rd f i = s.rd f i :=
  State.rd_of_regs (id rfl) f i
@[simp] theorem State.rd_with_route (s : State) (x) (f : Fld) (i : Nat) : ({ s with route := x } : State).rd f i = s.rd f i :=
  State.rd_of_regs (id rfl) f i
@[simp] theorem State.rd_with_stream (s : State) (x) (f : Fld) (i : Nat) : ({ s with stream := x } : State).rd f i = s.rd f i :=
  State.rd_of_regs (id rfl) f i
@[simp] theorem State.rd_with_seg (s : State) (x) (f : Fld) (i : Nat) : ({ s with seg := x } : State).rd f i = s.rd f i :=
  State.rd_of_regs (id rfl) f i
@[simp] theorem State.rd_with_conf (s : State) (x) (f : Fld) (i : Nat) : ({ s with conf := x } : State).rd f i = s.rd f i :=
  State.rd_of_regs (id rfl) f i
@[simp] theorem State.rd_with_port (s : State) (x) (f : Fld) (i : Nat) : ({ s with port := x } : State).rd f i = s.rd f i :=
  State.rd_of_regs (id rfl) f i
@[simp] theorem State.rd_with_handed (s : State) (x) (f : Fld) (i : Nat) : ({ s with handed := x } : State).rd f i = s.rd f i :=
  State.rd_of_regs (id rfl) f i
@[simp] theorem State.rd_with_braid (s : State) (x) (f : Fld) (i : Nat) : ({ s with braid := x } : State).rd f i = s.rd f i :=
  State.rd_of_regs (id rfl) f i
@[simp] theorem State.rd_with_factory (s : State) (x) (f : Fld) (i : Nat) : ({ s with factory := x } : State).rd f i = s.rd f i :=
  State.rd_of_regs (id rfl) f i
@[simp] theorem State.rd_with_ferry (s : State) (x) (f : Fld) (i : Nat) : ({ s with ferry := x } : State).rd f i = s.rd f i :=
  State.rd_of_regs (id rfl) f i
@[simp] theorem State.rd_with_errWorld (s : State) (x) (f : Fld) (i : Nat) : ({ s with errWorld := x } : State).rd f i = s.rd f i :=
  State.rd_of_regs (id rfl) f i
@[simp] theorem State.rd_with_eddy (s : State) (x) (f : Fld) (i : Nat) : ({ s with eddy := x } : State).rd f i = s.rd f i :=
  State.rd_of_regs (id rfl) f i
@[simp] theorem State.rd_with_locks (s : State) (x) (f : Fld) (i : Nat) : ({ s with locks := x } : State).rd f i = s.rd f i :=
  State.rd_of_regs (id rfl) f i
@[simp] theorem State.rd_with_emmc (s : State) (x) (f : Fld) (i : Nat) : ({ s with emmc := x } : State).rd f i = s.rd f i :=
  State.rd_of_regs (id rfl) f i
@[simp] theorem State.rd_with_dq (s : State) (x) (f : Fld) (i : Nat) : ({ s with dq := x } : State).rd f i = s.rd f i :=
  State.rd_of_regs (id rfl) f i
@[simp] theorem State.rd_with_delta (s : State) (x) (f : Fld) (i : Nat) : ({ s with delta := x } : State).rd f i = s.rd f i :=
  State.rd_of_regs (id rfl) f i
@[simp] theorem State.rd_with_head (s : State) (x) (f : Fld) (i : Nat) : ({ s with head := x } : State).rd f i = s.rd f i :=
  State.rd_of_regs (id rfl) f i
@[simp] theorem State.rd_with_hart (s : State) (x) (f : Fld) (i : Nat) : ({ s with hart := x } : State).rd f i = s.rd f i :=
  State.rd_of_regs (id rfl) f i
@[simp] theorem State.rd_with_upd (s : State) (x) (f : Fld) (i : Nat) : ({ s with upd := x } : State).rd f i = s.rd f i :=
  State.rd_of_regs (id rfl) f i
@[simp] theorem State.rd_with_pw (s : State) (x) (f : Fld) (i : Nat) : ({ s with pw := x } : State).rd f i = s.rd f i :=
  State.rd_of_regs (id rfl) f i
@[simp] theorem State.rd_with_od (s : State) (x) (f : Fld) (i : Nat) : ({ s with od := x } : State).rd f i = s.rd f i :=
  State.rd_of_regs (id rfl) f i
@[simp] theorem State.rd_with_pending (s : State) (x) (f : Fld) (i : Nat) : ({ s with pending := x } : State).rd f i = s.rd f i :=
  State.rd_of_regs (id rfl) f i

/-! ## Two states -/

/-- States whose parts are the same are the same. -/
theorem State.eq_of_parts {s t : State} (h_regs : s.regs = t.regs) (h_shadow : s.shadow = t.shadow) (h_mem : s.mem = t.mem) (h_now : s.now = t.now) (h_release : s.release = t.release) (h_resp : s.resp = t.resp) (h_irqs : s.irqs = t.irqs) (h_eseq : s.eseq = t.eseq) (h_elog : s.elog = t.elog) (h_free : s.free = t.free) (h_mr : s.mr = t.mr) (h_evt : s.evt = t.evt) (h_gauge : s.gauge = t.gauge) (h_chan : s.chan = t.chan) (h_die : s.die = t.die) (h_io : s.io = t.io) (h_gate : s.gate = t.gate) (h_can : s.can = t.can) (h_route : s.route = t.route) (h_stream : s.stream = t.stream) (h_seg : s.seg = t.seg) (h_conf : s.conf = t.conf) (h_port : s.port = t.port) (h_handed : s.handed = t.handed) (h_braid : s.braid = t.braid) (h_factory : s.factory = t.factory) (h_ferry : s.ferry = t.ferry) (h_errWorld : s.errWorld = t.errWorld) (h_eddy : s.eddy = t.eddy) (h_locks : s.locks = t.locks) (h_emmc : s.emmc = t.emmc) (h_dq : s.dq = t.dq) (h_delta : s.delta = t.delta) (h_head : s.head = t.head) (h_hart : s.hart = t.hart) (h_upd : s.upd = t.upd) (h_pw : s.pw = t.pw) (h_od : s.od = t.od) (h_pending : s.pending = t.pending) : s = t := by
  cases s
  cases t
  simp_all


/-! ## What each operation leaves -/

@[simp] theorem State.wr_shadow (s : State) (f : Fld) (v i : Nat) : (s.wr f v i).shadow = s.shadow := id rfl
@[simp] theorem State.wr_mem (s : State) (f : Fld) (v i : Nat) : (s.wr f v i).mem = s.mem := id rfl
@[simp] theorem State.wr_now (s : State) (f : Fld) (v i : Nat) : (s.wr f v i).now = s.now := id rfl
@[simp] theorem State.wr_release (s : State) (f : Fld) (v i : Nat) : (s.wr f v i).release = s.release := id rfl
@[simp] theorem State.wr_resp (s : State) (f : Fld) (v i : Nat) : (s.wr f v i).resp = s.resp := id rfl
@[simp] theorem State.wr_irqs (s : State) (f : Fld) (v i : Nat) : (s.wr f v i).irqs = s.irqs := id rfl
@[simp] theorem State.wr_eseq (s : State) (f : Fld) (v i : Nat) : (s.wr f v i).eseq = s.eseq := id rfl
@[simp] theorem State.wr_elog (s : State) (f : Fld) (v i : Nat) : (s.wr f v i).elog = s.elog := id rfl
@[simp] theorem State.wr_free (s : State) (f : Fld) (v i : Nat) : (s.wr f v i).free = s.free := id rfl
@[simp] theorem State.wr_mr (s : State) (f : Fld) (v i : Nat) : (s.wr f v i).mr = s.mr := id rfl
@[simp] theorem State.wr_evt (s : State) (f : Fld) (v i : Nat) : (s.wr f v i).evt = s.evt := id rfl
@[simp] theorem State.wr_gauge (s : State) (f : Fld) (v i : Nat) : (s.wr f v i).gauge = s.gauge := id rfl
@[simp] theorem State.wr_chan (s : State) (f : Fld) (v i : Nat) : (s.wr f v i).chan = s.chan := id rfl
@[simp] theorem State.wr_die (s : State) (f : Fld) (v i : Nat) : (s.wr f v i).die = s.die := id rfl
@[simp] theorem State.wr_io (s : State) (f : Fld) (v i : Nat) : (s.wr f v i).io = s.io := id rfl
@[simp] theorem State.wr_gate (s : State) (f : Fld) (v i : Nat) : (s.wr f v i).gate = s.gate := id rfl
@[simp] theorem State.wr_can (s : State) (f : Fld) (v i : Nat) : (s.wr f v i).can = s.can := id rfl
@[simp] theorem State.wr_route (s : State) (f : Fld) (v i : Nat) : (s.wr f v i).route = s.route := id rfl
@[simp] theorem State.wr_stream (s : State) (f : Fld) (v i : Nat) : (s.wr f v i).stream = s.stream := id rfl
@[simp] theorem State.wr_seg (s : State) (f : Fld) (v i : Nat) : (s.wr f v i).seg = s.seg := id rfl
@[simp] theorem State.wr_conf (s : State) (f : Fld) (v i : Nat) : (s.wr f v i).conf = s.conf := id rfl
@[simp] theorem State.wr_port (s : State) (f : Fld) (v i : Nat) : (s.wr f v i).port = s.port := id rfl
@[simp] theorem State.wr_handed (s : State) (f : Fld) (v i : Nat) : (s.wr f v i).handed = s.handed := id rfl
@[simp] theorem State.wr_braid (s : State) (f : Fld) (v i : Nat) : (s.wr f v i).braid = s.braid := id rfl
@[simp] theorem State.wr_factory (s : State) (f : Fld) (v i : Nat) : (s.wr f v i).factory = s.factory := id rfl
@[simp] theorem State.wr_ferry (s : State) (f : Fld) (v i : Nat) : (s.wr f v i).ferry = s.ferry := id rfl
@[simp] theorem State.wr_errWorld (s : State) (f : Fld) (v i : Nat) : (s.wr f v i).errWorld = s.errWorld := id rfl
@[simp] theorem State.wr_eddy (s : State) (f : Fld) (v i : Nat) : (s.wr f v i).eddy = s.eddy := id rfl
@[simp] theorem State.wr_locks (s : State) (f : Fld) (v i : Nat) : (s.wr f v i).locks = s.locks := id rfl
@[simp] theorem State.wr_emmc (s : State) (f : Fld) (v i : Nat) : (s.wr f v i).emmc = s.emmc := id rfl
@[simp] theorem State.wr_dq (s : State) (f : Fld) (v i : Nat) : (s.wr f v i).dq = s.dq := id rfl
@[simp] theorem State.wr_delta (s : State) (f : Fld) (v i : Nat) : (s.wr f v i).delta = s.delta := id rfl
@[simp] theorem State.wr_head (s : State) (f : Fld) (v i : Nat) : (s.wr f v i).head = s.head := id rfl
@[simp] theorem State.wr_hart (s : State) (f : Fld) (v i : Nat) : (s.wr f v i).hart = s.hart := id rfl
@[simp] theorem State.wr_upd (s : State) (f : Fld) (v i : Nat) : (s.wr f v i).upd = s.upd := id rfl
@[simp] theorem State.wr_pw (s : State) (f : Fld) (v i : Nat) : (s.wr f v i).pw = s.pw := id rfl
@[simp] theorem State.wr_od (s : State) (f : Fld) (v i : Nat) : (s.wr f v i).od = s.od := id rfl
@[simp] theorem State.wr_pending (s : State) (f : Fld) (v i : Nat) : (s.wr f v i).pending = s.pending := id rfl
@[simp] theorem State.inc_shadow (s : State) (f : Fld) (i n : Nat) : (s.inc f i n).shadow = s.shadow := id rfl
@[simp] theorem State.inc_mem (s : State) (f : Fld) (i n : Nat) : (s.inc f i n).mem = s.mem := id rfl
@[simp] theorem State.inc_now (s : State) (f : Fld) (i n : Nat) : (s.inc f i n).now = s.now := id rfl
@[simp] theorem State.inc_release (s : State) (f : Fld) (i n : Nat) : (s.inc f i n).release = s.release := id rfl
@[simp] theorem State.inc_resp (s : State) (f : Fld) (i n : Nat) : (s.inc f i n).resp = s.resp := id rfl
@[simp] theorem State.inc_irqs (s : State) (f : Fld) (i n : Nat) : (s.inc f i n).irqs = s.irqs := id rfl
@[simp] theorem State.inc_eseq (s : State) (f : Fld) (i n : Nat) : (s.inc f i n).eseq = s.eseq := id rfl
@[simp] theorem State.inc_elog (s : State) (f : Fld) (i n : Nat) : (s.inc f i n).elog = s.elog := id rfl
@[simp] theorem State.inc_free (s : State) (f : Fld) (i n : Nat) : (s.inc f i n).free = s.free := id rfl
@[simp] theorem State.inc_mr (s : State) (f : Fld) (i n : Nat) : (s.inc f i n).mr = s.mr := id rfl
@[simp] theorem State.inc_evt (s : State) (f : Fld) (i n : Nat) : (s.inc f i n).evt = s.evt := id rfl
@[simp] theorem State.inc_gauge (s : State) (f : Fld) (i n : Nat) : (s.inc f i n).gauge = s.gauge := id rfl
@[simp] theorem State.inc_chan (s : State) (f : Fld) (i n : Nat) : (s.inc f i n).chan = s.chan := id rfl
@[simp] theorem State.inc_die (s : State) (f : Fld) (i n : Nat) : (s.inc f i n).die = s.die := id rfl
@[simp] theorem State.inc_io (s : State) (f : Fld) (i n : Nat) : (s.inc f i n).io = s.io := id rfl
@[simp] theorem State.inc_gate (s : State) (f : Fld) (i n : Nat) : (s.inc f i n).gate = s.gate := id rfl
@[simp] theorem State.inc_can (s : State) (f : Fld) (i n : Nat) : (s.inc f i n).can = s.can := id rfl
@[simp] theorem State.inc_route (s : State) (f : Fld) (i n : Nat) : (s.inc f i n).route = s.route := id rfl
@[simp] theorem State.inc_stream (s : State) (f : Fld) (i n : Nat) : (s.inc f i n).stream = s.stream := id rfl
@[simp] theorem State.inc_seg (s : State) (f : Fld) (i n : Nat) : (s.inc f i n).seg = s.seg := id rfl
@[simp] theorem State.inc_conf (s : State) (f : Fld) (i n : Nat) : (s.inc f i n).conf = s.conf := id rfl
@[simp] theorem State.inc_port (s : State) (f : Fld) (i n : Nat) : (s.inc f i n).port = s.port := id rfl
@[simp] theorem State.inc_handed (s : State) (f : Fld) (i n : Nat) : (s.inc f i n).handed = s.handed := id rfl
@[simp] theorem State.inc_braid (s : State) (f : Fld) (i n : Nat) : (s.inc f i n).braid = s.braid := id rfl
@[simp] theorem State.inc_factory (s : State) (f : Fld) (i n : Nat) : (s.inc f i n).factory = s.factory := id rfl
@[simp] theorem State.inc_ferry (s : State) (f : Fld) (i n : Nat) : (s.inc f i n).ferry = s.ferry := id rfl
@[simp] theorem State.inc_errWorld (s : State) (f : Fld) (i n : Nat) : (s.inc f i n).errWorld = s.errWorld := id rfl
@[simp] theorem State.inc_eddy (s : State) (f : Fld) (i n : Nat) : (s.inc f i n).eddy = s.eddy := id rfl
@[simp] theorem State.inc_locks (s : State) (f : Fld) (i n : Nat) : (s.inc f i n).locks = s.locks := id rfl
@[simp] theorem State.inc_emmc (s : State) (f : Fld) (i n : Nat) : (s.inc f i n).emmc = s.emmc := id rfl
@[simp] theorem State.inc_dq (s : State) (f : Fld) (i n : Nat) : (s.inc f i n).dq = s.dq := id rfl
@[simp] theorem State.inc_delta (s : State) (f : Fld) (i n : Nat) : (s.inc f i n).delta = s.delta := id rfl
@[simp] theorem State.inc_head (s : State) (f : Fld) (i n : Nat) : (s.inc f i n).head = s.head := id rfl
@[simp] theorem State.inc_hart (s : State) (f : Fld) (i n : Nat) : (s.inc f i n).hart = s.hart := id rfl
@[simp] theorem State.inc_upd (s : State) (f : Fld) (i n : Nat) : (s.inc f i n).upd = s.upd := id rfl
@[simp] theorem State.inc_pw (s : State) (f : Fld) (i n : Nat) : (s.inc f i n).pw = s.pw := id rfl
@[simp] theorem State.inc_od (s : State) (f : Fld) (i n : Nat) : (s.inc f i n).od = s.od := id rfl
@[simp] theorem State.inc_pending (s : State) (f : Fld) (i n : Nat) : (s.inc f i n).pending = s.pending := id rfl
@[simp] theorem State.wrI_shadow (s : State) (f : Fld) (x : Int) (i : Nat) : (s.wrI f x i).shadow = s.shadow := id rfl
@[simp] theorem State.wrI_mem (s : State) (f : Fld) (x : Int) (i : Nat) : (s.wrI f x i).mem = s.mem := id rfl
@[simp] theorem State.wrI_now (s : State) (f : Fld) (x : Int) (i : Nat) : (s.wrI f x i).now = s.now := id rfl
@[simp] theorem State.wrI_release (s : State) (f : Fld) (x : Int) (i : Nat) : (s.wrI f x i).release = s.release := id rfl
@[simp] theorem State.wrI_resp (s : State) (f : Fld) (x : Int) (i : Nat) : (s.wrI f x i).resp = s.resp := id rfl
@[simp] theorem State.wrI_irqs (s : State) (f : Fld) (x : Int) (i : Nat) : (s.wrI f x i).irqs = s.irqs := id rfl
@[simp] theorem State.wrI_eseq (s : State) (f : Fld) (x : Int) (i : Nat) : (s.wrI f x i).eseq = s.eseq := id rfl
@[simp] theorem State.wrI_elog (s : State) (f : Fld) (x : Int) (i : Nat) : (s.wrI f x i).elog = s.elog := id rfl
@[simp] theorem State.wrI_free (s : State) (f : Fld) (x : Int) (i : Nat) : (s.wrI f x i).free = s.free := id rfl
@[simp] theorem State.wrI_mr (s : State) (f : Fld) (x : Int) (i : Nat) : (s.wrI f x i).mr = s.mr := id rfl
@[simp] theorem State.wrI_evt (s : State) (f : Fld) (x : Int) (i : Nat) : (s.wrI f x i).evt = s.evt := id rfl
@[simp] theorem State.wrI_gauge (s : State) (f : Fld) (x : Int) (i : Nat) : (s.wrI f x i).gauge = s.gauge := id rfl
@[simp] theorem State.wrI_chan (s : State) (f : Fld) (x : Int) (i : Nat) : (s.wrI f x i).chan = s.chan := id rfl
@[simp] theorem State.wrI_die (s : State) (f : Fld) (x : Int) (i : Nat) : (s.wrI f x i).die = s.die := id rfl
@[simp] theorem State.wrI_io (s : State) (f : Fld) (x : Int) (i : Nat) : (s.wrI f x i).io = s.io := id rfl
@[simp] theorem State.wrI_gate (s : State) (f : Fld) (x : Int) (i : Nat) : (s.wrI f x i).gate = s.gate := id rfl
@[simp] theorem State.wrI_can (s : State) (f : Fld) (x : Int) (i : Nat) : (s.wrI f x i).can = s.can := id rfl
@[simp] theorem State.wrI_route (s : State) (f : Fld) (x : Int) (i : Nat) : (s.wrI f x i).route = s.route := id rfl
@[simp] theorem State.wrI_stream (s : State) (f : Fld) (x : Int) (i : Nat) : (s.wrI f x i).stream = s.stream := id rfl
@[simp] theorem State.wrI_seg (s : State) (f : Fld) (x : Int) (i : Nat) : (s.wrI f x i).seg = s.seg := id rfl
@[simp] theorem State.wrI_conf (s : State) (f : Fld) (x : Int) (i : Nat) : (s.wrI f x i).conf = s.conf := id rfl
@[simp] theorem State.wrI_port (s : State) (f : Fld) (x : Int) (i : Nat) : (s.wrI f x i).port = s.port := id rfl
@[simp] theorem State.wrI_handed (s : State) (f : Fld) (x : Int) (i : Nat) : (s.wrI f x i).handed = s.handed := id rfl
@[simp] theorem State.wrI_braid (s : State) (f : Fld) (x : Int) (i : Nat) : (s.wrI f x i).braid = s.braid := id rfl
@[simp] theorem State.wrI_factory (s : State) (f : Fld) (x : Int) (i : Nat) : (s.wrI f x i).factory = s.factory := id rfl
@[simp] theorem State.wrI_ferry (s : State) (f : Fld) (x : Int) (i : Nat) : (s.wrI f x i).ferry = s.ferry := id rfl
@[simp] theorem State.wrI_errWorld (s : State) (f : Fld) (x : Int) (i : Nat) : (s.wrI f x i).errWorld = s.errWorld := id rfl
@[simp] theorem State.wrI_eddy (s : State) (f : Fld) (x : Int) (i : Nat) : (s.wrI f x i).eddy = s.eddy := id rfl
@[simp] theorem State.wrI_locks (s : State) (f : Fld) (x : Int) (i : Nat) : (s.wrI f x i).locks = s.locks := id rfl
@[simp] theorem State.wrI_emmc (s : State) (f : Fld) (x : Int) (i : Nat) : (s.wrI f x i).emmc = s.emmc := id rfl
@[simp] theorem State.wrI_dq (s : State) (f : Fld) (x : Int) (i : Nat) : (s.wrI f x i).dq = s.dq := id rfl
@[simp] theorem State.wrI_delta (s : State) (f : Fld) (x : Int) (i : Nat) : (s.wrI f x i).delta = s.delta := id rfl
@[simp] theorem State.wrI_head (s : State) (f : Fld) (x : Int) (i : Nat) : (s.wrI f x i).head = s.head := id rfl
@[simp] theorem State.wrI_hart (s : State) (f : Fld) (x : Int) (i : Nat) : (s.wrI f x i).hart = s.hart := id rfl
@[simp] theorem State.wrI_upd (s : State) (f : Fld) (x : Int) (i : Nat) : (s.wrI f x i).upd = s.upd := id rfl
@[simp] theorem State.wrI_pw (s : State) (f : Fld) (x : Int) (i : Nat) : (s.wrI f x i).pw = s.pw := id rfl
@[simp] theorem State.wrI_od (s : State) (f : Fld) (x : Int) (i : Nat) : (s.wrI f x i).od = s.od := id rfl
@[simp] theorem State.wrI_pending (s : State) (f : Fld) (x : Int) (i : Nat) : (s.wrI f x i).pending = s.pending := id rfl
@[simp] theorem State.advance_regs (s : State) (dt : Nat) : (s.advance dt).regs = s.regs := id rfl
@[simp] theorem State.advance_shadow (s : State) (dt : Nat) : (s.advance dt).shadow = s.shadow := id rfl
@[simp] theorem State.advance_mem (s : State) (dt : Nat) : (s.advance dt).mem = s.mem := id rfl
@[simp] theorem State.advance_release (s : State) (dt : Nat) : (s.advance dt).release = s.release := id rfl
@[simp] theorem State.advance_resp (s : State) (dt : Nat) : (s.advance dt).resp = s.resp := id rfl
@[simp] theorem State.advance_irqs (s : State) (dt : Nat) : (s.advance dt).irqs = s.irqs := id rfl
@[simp] theorem State.advance_eseq (s : State) (dt : Nat) : (s.advance dt).eseq = s.eseq := id rfl
@[simp] theorem State.advance_elog (s : State) (dt : Nat) : (s.advance dt).elog = s.elog := id rfl
@[simp] theorem State.advance_free (s : State) (dt : Nat) : (s.advance dt).free = s.free := id rfl
@[simp] theorem State.advance_mr (s : State) (dt : Nat) : (s.advance dt).mr = s.mr := id rfl
@[simp] theorem State.advance_evt (s : State) (dt : Nat) : (s.advance dt).evt = s.evt := id rfl
@[simp] theorem State.advance_gauge (s : State) (dt : Nat) : (s.advance dt).gauge = s.gauge := id rfl
@[simp] theorem State.advance_chan (s : State) (dt : Nat) : (s.advance dt).chan = s.chan := id rfl
@[simp] theorem State.advance_die (s : State) (dt : Nat) : (s.advance dt).die = s.die := id rfl
@[simp] theorem State.advance_io (s : State) (dt : Nat) : (s.advance dt).io = s.io := id rfl
@[simp] theorem State.advance_gate (s : State) (dt : Nat) : (s.advance dt).gate = s.gate := id rfl
@[simp] theorem State.advance_can (s : State) (dt : Nat) : (s.advance dt).can = s.can := id rfl
@[simp] theorem State.advance_route (s : State) (dt : Nat) : (s.advance dt).route = s.route := id rfl
@[simp] theorem State.advance_stream (s : State) (dt : Nat) : (s.advance dt).stream = s.stream := id rfl
@[simp] theorem State.advance_seg (s : State) (dt : Nat) : (s.advance dt).seg = s.seg := id rfl
@[simp] theorem State.advance_conf (s : State) (dt : Nat) : (s.advance dt).conf = s.conf := id rfl
@[simp] theorem State.advance_port (s : State) (dt : Nat) : (s.advance dt).port = s.port := id rfl
@[simp] theorem State.advance_handed (s : State) (dt : Nat) : (s.advance dt).handed = s.handed := id rfl
@[simp] theorem State.advance_braid (s : State) (dt : Nat) : (s.advance dt).braid = s.braid := id rfl
@[simp] theorem State.advance_factory (s : State) (dt : Nat) : (s.advance dt).factory = s.factory := id rfl
@[simp] theorem State.advance_ferry (s : State) (dt : Nat) : (s.advance dt).ferry = s.ferry := id rfl
@[simp] theorem State.advance_errWorld (s : State) (dt : Nat) : (s.advance dt).errWorld = s.errWorld := id rfl
@[simp] theorem State.advance_eddy (s : State) (dt : Nat) : (s.advance dt).eddy = s.eddy := id rfl
@[simp] theorem State.advance_locks (s : State) (dt : Nat) : (s.advance dt).locks = s.locks := id rfl
@[simp] theorem State.advance_emmc (s : State) (dt : Nat) : (s.advance dt).emmc = s.emmc := id rfl
@[simp] theorem State.advance_dq (s : State) (dt : Nat) : (s.advance dt).dq = s.dq := id rfl
@[simp] theorem State.advance_delta (s : State) (dt : Nat) : (s.advance dt).delta = s.delta := id rfl
@[simp] theorem State.advance_head (s : State) (dt : Nat) : (s.advance dt).head = s.head := id rfl
@[simp] theorem State.advance_hart (s : State) (dt : Nat) : (s.advance dt).hart = s.hart := id rfl
@[simp] theorem State.advance_upd (s : State) (dt : Nat) : (s.advance dt).upd = s.upd := id rfl
@[simp] theorem State.advance_pw (s : State) (dt : Nat) : (s.advance dt).pw = s.pw := id rfl
@[simp] theorem State.advance_od (s : State) (dt : Nat) : (s.advance dt).od = s.od := id rfl
@[simp] theorem State.advance_pending (s : State) (dt : Nat) : (s.advance dt).pending = s.pending := id rfl
@[simp] theorem State.rd_advance (s : State) (dt : Nat) (f' : Fld) (j : Nat) : (s.advance dt).rd f' j = s.rd f' j :=
  State.rd_of_regs (by simp) f' j
@[simp] theorem State.logStamped_regs (s : State) (st src evt : Nat) (who : Initiator) (l : List Nat) : (s.logStamped st src evt who l).regs = s.regs := id rfl
@[simp] theorem State.logStamped_shadow (s : State) (st src evt : Nat) (who : Initiator) (l : List Nat) : (s.logStamped st src evt who l).shadow = s.shadow := id rfl
@[simp] theorem State.logStamped_mem (s : State) (st src evt : Nat) (who : Initiator) (l : List Nat) : (s.logStamped st src evt who l).mem = s.mem := id rfl
@[simp] theorem State.logStamped_now (s : State) (st src evt : Nat) (who : Initiator) (l : List Nat) : (s.logStamped st src evt who l).now = s.now := id rfl
@[simp] theorem State.logStamped_release (s : State) (st src evt : Nat) (who : Initiator) (l : List Nat) : (s.logStamped st src evt who l).release = s.release := id rfl
@[simp] theorem State.logStamped_resp (s : State) (st src evt : Nat) (who : Initiator) (l : List Nat) : (s.logStamped st src evt who l).resp = s.resp := id rfl
@[simp] theorem State.logStamped_irqs (s : State) (st src evt : Nat) (who : Initiator) (l : List Nat) : (s.logStamped st src evt who l).irqs = s.irqs := id rfl
@[simp] theorem State.logStamped_free (s : State) (st src evt : Nat) (who : Initiator) (l : List Nat) : (s.logStamped st src evt who l).free = s.free := id rfl
@[simp] theorem State.logStamped_mr (s : State) (st src evt : Nat) (who : Initiator) (l : List Nat) : (s.logStamped st src evt who l).mr = s.mr := id rfl
@[simp] theorem State.logStamped_evt (s : State) (st src evt : Nat) (who : Initiator) (l : List Nat) : (s.logStamped st src evt who l).evt = s.evt := id rfl
@[simp] theorem State.logStamped_gauge (s : State) (st src evt : Nat) (who : Initiator) (l : List Nat) : (s.logStamped st src evt who l).gauge = s.gauge := id rfl
@[simp] theorem State.logStamped_chan (s : State) (st src evt : Nat) (who : Initiator) (l : List Nat) : (s.logStamped st src evt who l).chan = s.chan := id rfl
@[simp] theorem State.logStamped_die (s : State) (st src evt : Nat) (who : Initiator) (l : List Nat) : (s.logStamped st src evt who l).die = s.die := id rfl
@[simp] theorem State.logStamped_io (s : State) (st src evt : Nat) (who : Initiator) (l : List Nat) : (s.logStamped st src evt who l).io = s.io := id rfl
@[simp] theorem State.logStamped_gate (s : State) (st src evt : Nat) (who : Initiator) (l : List Nat) : (s.logStamped st src evt who l).gate = s.gate := id rfl
@[simp] theorem State.logStamped_can (s : State) (st src evt : Nat) (who : Initiator) (l : List Nat) : (s.logStamped st src evt who l).can = s.can := id rfl
@[simp] theorem State.logStamped_route (s : State) (st src evt : Nat) (who : Initiator) (l : List Nat) : (s.logStamped st src evt who l).route = s.route := id rfl
@[simp] theorem State.logStamped_stream (s : State) (st src evt : Nat) (who : Initiator) (l : List Nat) : (s.logStamped st src evt who l).stream = s.stream := id rfl
@[simp] theorem State.logStamped_seg (s : State) (st src evt : Nat) (who : Initiator) (l : List Nat) : (s.logStamped st src evt who l).seg = s.seg := id rfl
@[simp] theorem State.logStamped_conf (s : State) (st src evt : Nat) (who : Initiator) (l : List Nat) : (s.logStamped st src evt who l).conf = s.conf := id rfl
@[simp] theorem State.logStamped_port (s : State) (st src evt : Nat) (who : Initiator) (l : List Nat) : (s.logStamped st src evt who l).port = s.port := id rfl
@[simp] theorem State.logStamped_handed (s : State) (st src evt : Nat) (who : Initiator) (l : List Nat) : (s.logStamped st src evt who l).handed = s.handed := id rfl
@[simp] theorem State.logStamped_braid (s : State) (st src evt : Nat) (who : Initiator) (l : List Nat) : (s.logStamped st src evt who l).braid = s.braid := id rfl
@[simp] theorem State.logStamped_factory (s : State) (st src evt : Nat) (who : Initiator) (l : List Nat) : (s.logStamped st src evt who l).factory = s.factory := id rfl
@[simp] theorem State.logStamped_ferry (s : State) (st src evt : Nat) (who : Initiator) (l : List Nat) : (s.logStamped st src evt who l).ferry = s.ferry := id rfl
@[simp] theorem State.logStamped_errWorld (s : State) (st src evt : Nat) (who : Initiator) (l : List Nat) : (s.logStamped st src evt who l).errWorld = s.errWorld := id rfl
@[simp] theorem State.logStamped_eddy (s : State) (st src evt : Nat) (who : Initiator) (l : List Nat) : (s.logStamped st src evt who l).eddy = s.eddy := id rfl
@[simp] theorem State.logStamped_locks (s : State) (st src evt : Nat) (who : Initiator) (l : List Nat) : (s.logStamped st src evt who l).locks = s.locks := id rfl
@[simp] theorem State.logStamped_emmc (s : State) (st src evt : Nat) (who : Initiator) (l : List Nat) : (s.logStamped st src evt who l).emmc = s.emmc := id rfl
@[simp] theorem State.logStamped_dq (s : State) (st src evt : Nat) (who : Initiator) (l : List Nat) : (s.logStamped st src evt who l).dq = s.dq := id rfl
@[simp] theorem State.logStamped_delta (s : State) (st src evt : Nat) (who : Initiator) (l : List Nat) : (s.logStamped st src evt who l).delta = s.delta := id rfl
@[simp] theorem State.logStamped_head (s : State) (st src evt : Nat) (who : Initiator) (l : List Nat) : (s.logStamped st src evt who l).head = s.head := id rfl
@[simp] theorem State.logStamped_hart (s : State) (st src evt : Nat) (who : Initiator) (l : List Nat) : (s.logStamped st src evt who l).hart = s.hart := id rfl
@[simp] theorem State.logStamped_upd (s : State) (st src evt : Nat) (who : Initiator) (l : List Nat) : (s.logStamped st src evt who l).upd = s.upd := id rfl
@[simp] theorem State.logStamped_pw (s : State) (st src evt : Nat) (who : Initiator) (l : List Nat) : (s.logStamped st src evt who l).pw = s.pw := id rfl
@[simp] theorem State.logStamped_od (s : State) (st src evt : Nat) (who : Initiator) (l : List Nat) : (s.logStamped st src evt who l).od = s.od := id rfl
@[simp] theorem State.logStamped_pending (s : State) (st src evt : Nat) (who : Initiator) (l : List Nat) : (s.logStamped st src evt who l).pending = s.pending := id rfl
@[simp] theorem State.rd_logStamped (s : State) (st src evt : Nat) (who : Initiator) (l : List Nat) (f' : Fld) (j : Nat) : (s.logStamped st src evt who l).rd f' j = s.rd f' j :=
  State.rd_of_regs (by simp) f' j
@[simp] theorem State.raise_regs (s : State) (n : Nat) : (s.raise n).regs = s.regs := by unfold State.raise; split <;> rfl
@[simp] theorem State.raise_shadow (s : State) (n : Nat) : (s.raise n).shadow = s.shadow := by unfold State.raise; split <;> rfl
@[simp] theorem State.raise_mem (s : State) (n : Nat) : (s.raise n).mem = s.mem := by unfold State.raise; split <;> rfl
@[simp] theorem State.raise_now (s : State) (n : Nat) : (s.raise n).now = s.now := by unfold State.raise; split <;> rfl
@[simp] theorem State.raise_release (s : State) (n : Nat) : (s.raise n).release = s.release := by unfold State.raise; split <;> rfl
@[simp] theorem State.raise_resp (s : State) (n : Nat) : (s.raise n).resp = s.resp := by unfold State.raise; split <;> rfl
@[simp] theorem State.raise_eseq (s : State) (n : Nat) : (s.raise n).eseq = s.eseq := by unfold State.raise; split <;> rfl
@[simp] theorem State.raise_elog (s : State) (n : Nat) : (s.raise n).elog = s.elog := by unfold State.raise; split <;> rfl
@[simp] theorem State.raise_free (s : State) (n : Nat) : (s.raise n).free = s.free := by unfold State.raise; split <;> rfl
@[simp] theorem State.raise_mr (s : State) (n : Nat) : (s.raise n).mr = s.mr := by unfold State.raise; split <;> rfl
@[simp] theorem State.raise_evt (s : State) (n : Nat) : (s.raise n).evt = s.evt := by unfold State.raise; split <;> rfl
@[simp] theorem State.raise_gauge (s : State) (n : Nat) : (s.raise n).gauge = s.gauge := by unfold State.raise; split <;> rfl
@[simp] theorem State.raise_chan (s : State) (n : Nat) : (s.raise n).chan = s.chan := by unfold State.raise; split <;> rfl
@[simp] theorem State.raise_die (s : State) (n : Nat) : (s.raise n).die = s.die := by unfold State.raise; split <;> rfl
@[simp] theorem State.raise_io (s : State) (n : Nat) : (s.raise n).io = s.io := by unfold State.raise; split <;> rfl
@[simp] theorem State.raise_gate (s : State) (n : Nat) : (s.raise n).gate = s.gate := by unfold State.raise; split <;> rfl
@[simp] theorem State.raise_can (s : State) (n : Nat) : (s.raise n).can = s.can := by unfold State.raise; split <;> rfl
@[simp] theorem State.raise_route (s : State) (n : Nat) : (s.raise n).route = s.route := by unfold State.raise; split <;> rfl
@[simp] theorem State.raise_stream (s : State) (n : Nat) : (s.raise n).stream = s.stream := by unfold State.raise; split <;> rfl
@[simp] theorem State.raise_seg (s : State) (n : Nat) : (s.raise n).seg = s.seg := by unfold State.raise; split <;> rfl
@[simp] theorem State.raise_conf (s : State) (n : Nat) : (s.raise n).conf = s.conf := by unfold State.raise; split <;> rfl
@[simp] theorem State.raise_port (s : State) (n : Nat) : (s.raise n).port = s.port := by unfold State.raise; split <;> rfl
@[simp] theorem State.raise_handed (s : State) (n : Nat) : (s.raise n).handed = s.handed := by unfold State.raise; split <;> rfl
@[simp] theorem State.raise_braid (s : State) (n : Nat) : (s.raise n).braid = s.braid := by unfold State.raise; split <;> rfl
@[simp] theorem State.raise_factory (s : State) (n : Nat) : (s.raise n).factory = s.factory := by unfold State.raise; split <;> rfl
@[simp] theorem State.raise_ferry (s : State) (n : Nat) : (s.raise n).ferry = s.ferry := by unfold State.raise; split <;> rfl
@[simp] theorem State.raise_errWorld (s : State) (n : Nat) : (s.raise n).errWorld = s.errWorld := by unfold State.raise; split <;> rfl
@[simp] theorem State.raise_eddy (s : State) (n : Nat) : (s.raise n).eddy = s.eddy := by unfold State.raise; split <;> rfl
@[simp] theorem State.raise_locks (s : State) (n : Nat) : (s.raise n).locks = s.locks := by unfold State.raise; split <;> rfl
@[simp] theorem State.raise_emmc (s : State) (n : Nat) : (s.raise n).emmc = s.emmc := by unfold State.raise; split <;> rfl
@[simp] theorem State.raise_dq (s : State) (n : Nat) : (s.raise n).dq = s.dq := by unfold State.raise; split <;> rfl
@[simp] theorem State.raise_delta (s : State) (n : Nat) : (s.raise n).delta = s.delta := by unfold State.raise; split <;> rfl
@[simp] theorem State.raise_head (s : State) (n : Nat) : (s.raise n).head = s.head := by unfold State.raise; split <;> rfl
@[simp] theorem State.raise_hart (s : State) (n : Nat) : (s.raise n).hart = s.hart := by unfold State.raise; split <;> rfl
@[simp] theorem State.raise_upd (s : State) (n : Nat) : (s.raise n).upd = s.upd := by unfold State.raise; split <;> rfl
@[simp] theorem State.raise_pw (s : State) (n : Nat) : (s.raise n).pw = s.pw := by unfold State.raise; split <;> rfl
@[simp] theorem State.raise_od (s : State) (n : Nat) : (s.raise n).od = s.od := by unfold State.raise; split <;> rfl
@[simp] theorem State.raise_pending (s : State) (n : Nat) : (s.raise n).pending = s.pending := by unfold State.raise; split <;> rfl
@[simp] theorem State.rd_raise (s : State) (n : Nat) (f' : Fld) (j : Nat) : (s.raise n).rd f' j = s.rd f' j :=
  State.rd_of_regs (by simp) f' j
@[simp] theorem State.raiseFor_regs (s : State) (n m : Nat) (w : World) : (s.raiseFor n m w).regs = s.regs := by cases w <;> simp [State.raiseFor]
@[simp] theorem State.raiseFor_shadow (s : State) (n m : Nat) (w : World) : (s.raiseFor n m w).shadow = s.shadow := by cases w <;> simp [State.raiseFor]
@[simp] theorem State.raiseFor_mem (s : State) (n m : Nat) (w : World) : (s.raiseFor n m w).mem = s.mem := by cases w <;> simp [State.raiseFor]
@[simp] theorem State.raiseFor_now (s : State) (n m : Nat) (w : World) : (s.raiseFor n m w).now = s.now := by cases w <;> simp [State.raiseFor]
@[simp] theorem State.raiseFor_release (s : State) (n m : Nat) (w : World) : (s.raiseFor n m w).release = s.release := by cases w <;> simp [State.raiseFor]
@[simp] theorem State.raiseFor_resp (s : State) (n m : Nat) (w : World) : (s.raiseFor n m w).resp = s.resp := by cases w <;> simp [State.raiseFor]
@[simp] theorem State.raiseFor_eseq (s : State) (n m : Nat) (w : World) : (s.raiseFor n m w).eseq = s.eseq := by cases w <;> simp [State.raiseFor]
@[simp] theorem State.raiseFor_elog (s : State) (n m : Nat) (w : World) : (s.raiseFor n m w).elog = s.elog := by cases w <;> simp [State.raiseFor]
@[simp] theorem State.raiseFor_free (s : State) (n m : Nat) (w : World) : (s.raiseFor n m w).free = s.free := by cases w <;> simp [State.raiseFor]
@[simp] theorem State.raiseFor_mr (s : State) (n m : Nat) (w : World) : (s.raiseFor n m w).mr = s.mr := by cases w <;> simp [State.raiseFor]
@[simp] theorem State.raiseFor_evt (s : State) (n m : Nat) (w : World) : (s.raiseFor n m w).evt = s.evt := by cases w <;> simp [State.raiseFor]
@[simp] theorem State.raiseFor_gauge (s : State) (n m : Nat) (w : World) : (s.raiseFor n m w).gauge = s.gauge := by cases w <;> simp [State.raiseFor]
@[simp] theorem State.raiseFor_chan (s : State) (n m : Nat) (w : World) : (s.raiseFor n m w).chan = s.chan := by cases w <;> simp [State.raiseFor]
@[simp] theorem State.raiseFor_die (s : State) (n m : Nat) (w : World) : (s.raiseFor n m w).die = s.die := by cases w <;> simp [State.raiseFor]
@[simp] theorem State.raiseFor_io (s : State) (n m : Nat) (w : World) : (s.raiseFor n m w).io = s.io := by cases w <;> simp [State.raiseFor]
@[simp] theorem State.raiseFor_gate (s : State) (n m : Nat) (w : World) : (s.raiseFor n m w).gate = s.gate := by cases w <;> simp [State.raiseFor]
@[simp] theorem State.raiseFor_can (s : State) (n m : Nat) (w : World) : (s.raiseFor n m w).can = s.can := by cases w <;> simp [State.raiseFor]
@[simp] theorem State.raiseFor_route (s : State) (n m : Nat) (w : World) : (s.raiseFor n m w).route = s.route := by cases w <;> simp [State.raiseFor]
@[simp] theorem State.raiseFor_stream (s : State) (n m : Nat) (w : World) : (s.raiseFor n m w).stream = s.stream := by cases w <;> simp [State.raiseFor]
@[simp] theorem State.raiseFor_seg (s : State) (n m : Nat) (w : World) : (s.raiseFor n m w).seg = s.seg := by cases w <;> simp [State.raiseFor]
@[simp] theorem State.raiseFor_conf (s : State) (n m : Nat) (w : World) : (s.raiseFor n m w).conf = s.conf := by cases w <;> simp [State.raiseFor]
@[simp] theorem State.raiseFor_port (s : State) (n m : Nat) (w : World) : (s.raiseFor n m w).port = s.port := by cases w <;> simp [State.raiseFor]
@[simp] theorem State.raiseFor_handed (s : State) (n m : Nat) (w : World) : (s.raiseFor n m w).handed = s.handed := by cases w <;> simp [State.raiseFor]
@[simp] theorem State.raiseFor_braid (s : State) (n m : Nat) (w : World) : (s.raiseFor n m w).braid = s.braid := by cases w <;> simp [State.raiseFor]
@[simp] theorem State.raiseFor_factory (s : State) (n m : Nat) (w : World) : (s.raiseFor n m w).factory = s.factory := by cases w <;> simp [State.raiseFor]
@[simp] theorem State.raiseFor_ferry (s : State) (n m : Nat) (w : World) : (s.raiseFor n m w).ferry = s.ferry := by cases w <;> simp [State.raiseFor]
@[simp] theorem State.raiseFor_errWorld (s : State) (n m : Nat) (w : World) : (s.raiseFor n m w).errWorld = s.errWorld := by cases w <;> simp [State.raiseFor]
@[simp] theorem State.raiseFor_eddy (s : State) (n m : Nat) (w : World) : (s.raiseFor n m w).eddy = s.eddy := by cases w <;> simp [State.raiseFor]
@[simp] theorem State.raiseFor_locks (s : State) (n m : Nat) (w : World) : (s.raiseFor n m w).locks = s.locks := by cases w <;> simp [State.raiseFor]
@[simp] theorem State.raiseFor_emmc (s : State) (n m : Nat) (w : World) : (s.raiseFor n m w).emmc = s.emmc := by cases w <;> simp [State.raiseFor]
@[simp] theorem State.raiseFor_dq (s : State) (n m : Nat) (w : World) : (s.raiseFor n m w).dq = s.dq := by cases w <;> simp [State.raiseFor]
@[simp] theorem State.raiseFor_delta (s : State) (n m : Nat) (w : World) : (s.raiseFor n m w).delta = s.delta := by cases w <;> simp [State.raiseFor]
@[simp] theorem State.raiseFor_head (s : State) (n m : Nat) (w : World) : (s.raiseFor n m w).head = s.head := by cases w <;> simp [State.raiseFor]
@[simp] theorem State.raiseFor_hart (s : State) (n m : Nat) (w : World) : (s.raiseFor n m w).hart = s.hart := by cases w <;> simp [State.raiseFor]
@[simp] theorem State.raiseFor_upd (s : State) (n m : Nat) (w : World) : (s.raiseFor n m w).upd = s.upd := by cases w <;> simp [State.raiseFor]
@[simp] theorem State.raiseFor_pw (s : State) (n m : Nat) (w : World) : (s.raiseFor n m w).pw = s.pw := by cases w <;> simp [State.raiseFor]
@[simp] theorem State.raiseFor_od (s : State) (n m : Nat) (w : World) : (s.raiseFor n m w).od = s.od := by cases w <;> simp [State.raiseFor]
@[simp] theorem State.raiseFor_pending (s : State) (n m : Nat) (w : World) : (s.raiseFor n m w).pending = s.pending := by cases w <;> simp [State.raiseFor]
@[simp] theorem State.rd_raiseFor (s : State) (n m : Nat) (w : World) (f' : Fld) (j : Nat) : (s.raiseFor n m w).rd f' j = s.rd f' j :=
  State.rd_of_regs (by simp) f' j
@[simp] theorem State.raiseOf_regs (s : State) (n : Nat) (w : World) : (s.raiseOf n w).regs = s.regs := by cases w <;> simp [State.raiseOf]
@[simp] theorem State.raiseOf_shadow (s : State) (n : Nat) (w : World) : (s.raiseOf n w).shadow = s.shadow := by cases w <;> simp [State.raiseOf]
@[simp] theorem State.raiseOf_mem (s : State) (n : Nat) (w : World) : (s.raiseOf n w).mem = s.mem := by cases w <;> simp [State.raiseOf]
@[simp] theorem State.raiseOf_now (s : State) (n : Nat) (w : World) : (s.raiseOf n w).now = s.now := by cases w <;> simp [State.raiseOf]
@[simp] theorem State.raiseOf_release (s : State) (n : Nat) (w : World) : (s.raiseOf n w).release = s.release := by cases w <;> simp [State.raiseOf]
@[simp] theorem State.raiseOf_resp (s : State) (n : Nat) (w : World) : (s.raiseOf n w).resp = s.resp := by cases w <;> simp [State.raiseOf]
@[simp] theorem State.raiseOf_eseq (s : State) (n : Nat) (w : World) : (s.raiseOf n w).eseq = s.eseq := by cases w <;> simp [State.raiseOf]
@[simp] theorem State.raiseOf_elog (s : State) (n : Nat) (w : World) : (s.raiseOf n w).elog = s.elog := by cases w <;> simp [State.raiseOf]
@[simp] theorem State.raiseOf_free (s : State) (n : Nat) (w : World) : (s.raiseOf n w).free = s.free := by cases w <;> simp [State.raiseOf]
@[simp] theorem State.raiseOf_mr (s : State) (n : Nat) (w : World) : (s.raiseOf n w).mr = s.mr := by cases w <;> simp [State.raiseOf]
@[simp] theorem State.raiseOf_evt (s : State) (n : Nat) (w : World) : (s.raiseOf n w).evt = s.evt := by cases w <;> simp [State.raiseOf]
@[simp] theorem State.raiseOf_gauge (s : State) (n : Nat) (w : World) : (s.raiseOf n w).gauge = s.gauge := by cases w <;> simp [State.raiseOf]
@[simp] theorem State.raiseOf_chan (s : State) (n : Nat) (w : World) : (s.raiseOf n w).chan = s.chan := by cases w <;> simp [State.raiseOf]
@[simp] theorem State.raiseOf_die (s : State) (n : Nat) (w : World) : (s.raiseOf n w).die = s.die := by cases w <;> simp [State.raiseOf]
@[simp] theorem State.raiseOf_io (s : State) (n : Nat) (w : World) : (s.raiseOf n w).io = s.io := by cases w <;> simp [State.raiseOf]
@[simp] theorem State.raiseOf_gate (s : State) (n : Nat) (w : World) : (s.raiseOf n w).gate = s.gate := by cases w <;> simp [State.raiseOf]
@[simp] theorem State.raiseOf_can (s : State) (n : Nat) (w : World) : (s.raiseOf n w).can = s.can := by cases w <;> simp [State.raiseOf]
@[simp] theorem State.raiseOf_route (s : State) (n : Nat) (w : World) : (s.raiseOf n w).route = s.route := by cases w <;> simp [State.raiseOf]
@[simp] theorem State.raiseOf_stream (s : State) (n : Nat) (w : World) : (s.raiseOf n w).stream = s.stream := by cases w <;> simp [State.raiseOf]
@[simp] theorem State.raiseOf_seg (s : State) (n : Nat) (w : World) : (s.raiseOf n w).seg = s.seg := by cases w <;> simp [State.raiseOf]
@[simp] theorem State.raiseOf_conf (s : State) (n : Nat) (w : World) : (s.raiseOf n w).conf = s.conf := by cases w <;> simp [State.raiseOf]
@[simp] theorem State.raiseOf_port (s : State) (n : Nat) (w : World) : (s.raiseOf n w).port = s.port := by cases w <;> simp [State.raiseOf]
@[simp] theorem State.raiseOf_handed (s : State) (n : Nat) (w : World) : (s.raiseOf n w).handed = s.handed := by cases w <;> simp [State.raiseOf]
@[simp] theorem State.raiseOf_braid (s : State) (n : Nat) (w : World) : (s.raiseOf n w).braid = s.braid := by cases w <;> simp [State.raiseOf]
@[simp] theorem State.raiseOf_factory (s : State) (n : Nat) (w : World) : (s.raiseOf n w).factory = s.factory := by cases w <;> simp [State.raiseOf]
@[simp] theorem State.raiseOf_ferry (s : State) (n : Nat) (w : World) : (s.raiseOf n w).ferry = s.ferry := by cases w <;> simp [State.raiseOf]
@[simp] theorem State.raiseOf_errWorld (s : State) (n : Nat) (w : World) : (s.raiseOf n w).errWorld = s.errWorld := by cases w <;> simp [State.raiseOf]
@[simp] theorem State.raiseOf_eddy (s : State) (n : Nat) (w : World) : (s.raiseOf n w).eddy = s.eddy := by cases w <;> simp [State.raiseOf]
@[simp] theorem State.raiseOf_locks (s : State) (n : Nat) (w : World) : (s.raiseOf n w).locks = s.locks := by cases w <;> simp [State.raiseOf]
@[simp] theorem State.raiseOf_emmc (s : State) (n : Nat) (w : World) : (s.raiseOf n w).emmc = s.emmc := by cases w <;> simp [State.raiseOf]
@[simp] theorem State.raiseOf_dq (s : State) (n : Nat) (w : World) : (s.raiseOf n w).dq = s.dq := by cases w <;> simp [State.raiseOf]
@[simp] theorem State.raiseOf_delta (s : State) (n : Nat) (w : World) : (s.raiseOf n w).delta = s.delta := by cases w <;> simp [State.raiseOf]
@[simp] theorem State.raiseOf_head (s : State) (n : Nat) (w : World) : (s.raiseOf n w).head = s.head := by cases w <;> simp [State.raiseOf]
@[simp] theorem State.raiseOf_hart (s : State) (n : Nat) (w : World) : (s.raiseOf n w).hart = s.hart := by cases w <;> simp [State.raiseOf]
@[simp] theorem State.raiseOf_upd (s : State) (n : Nat) (w : World) : (s.raiseOf n w).upd = s.upd := by cases w <;> simp [State.raiseOf]
@[simp] theorem State.raiseOf_pw (s : State) (n : Nat) (w : World) : (s.raiseOf n w).pw = s.pw := by cases w <;> simp [State.raiseOf]
@[simp] theorem State.raiseOf_od (s : State) (n : Nat) (w : World) : (s.raiseOf n w).od = s.od := by cases w <;> simp [State.raiseOf]
@[simp] theorem State.raiseOf_pending (s : State) (n : Nat) (w : World) : (s.raiseOf n w).pending = s.pending := by cases w <;> simp [State.raiseOf]
@[simp] theorem State.rd_raiseOf (s : State) (n : Nat) (w : World) (f' : Fld) (j : Nat) : (s.raiseOf n w).rd f' j = s.rd f' j :=
  State.rd_of_regs (by simp) f' j
@[simp] theorem State.putBit_shadow (s : State) (f : Fld) (n : Nat) (b : Bool) (i : Nat) : (s.putBit f n b i).shadow = s.shadow := by simp only [State.putBit]; split <;> simp
@[simp] theorem State.putBit_mem (s : State) (f : Fld) (n : Nat) (b : Bool) (i : Nat) : (s.putBit f n b i).mem = s.mem := by simp only [State.putBit]; split <;> simp
@[simp] theorem State.putBit_now (s : State) (f : Fld) (n : Nat) (b : Bool) (i : Nat) : (s.putBit f n b i).now = s.now := by simp only [State.putBit]; split <;> simp
@[simp] theorem State.putBit_release (s : State) (f : Fld) (n : Nat) (b : Bool) (i : Nat) : (s.putBit f n b i).release = s.release := by simp only [State.putBit]; split <;> simp
@[simp] theorem State.putBit_resp (s : State) (f : Fld) (n : Nat) (b : Bool) (i : Nat) : (s.putBit f n b i).resp = s.resp := by simp only [State.putBit]; split <;> simp
@[simp] theorem State.putBit_irqs (s : State) (f : Fld) (n : Nat) (b : Bool) (i : Nat) : (s.putBit f n b i).irqs = s.irqs := by simp only [State.putBit]; split <;> simp
@[simp] theorem State.putBit_eseq (s : State) (f : Fld) (n : Nat) (b : Bool) (i : Nat) : (s.putBit f n b i).eseq = s.eseq := by simp only [State.putBit]; split <;> simp
@[simp] theorem State.putBit_elog (s : State) (f : Fld) (n : Nat) (b : Bool) (i : Nat) : (s.putBit f n b i).elog = s.elog := by simp only [State.putBit]; split <;> simp
@[simp] theorem State.putBit_free (s : State) (f : Fld) (n : Nat) (b : Bool) (i : Nat) : (s.putBit f n b i).free = s.free := by simp only [State.putBit]; split <;> simp
@[simp] theorem State.putBit_mr (s : State) (f : Fld) (n : Nat) (b : Bool) (i : Nat) : (s.putBit f n b i).mr = s.mr := by simp only [State.putBit]; split <;> simp
@[simp] theorem State.putBit_evt (s : State) (f : Fld) (n : Nat) (b : Bool) (i : Nat) : (s.putBit f n b i).evt = s.evt := by simp only [State.putBit]; split <;> simp
@[simp] theorem State.putBit_gauge (s : State) (f : Fld) (n : Nat) (b : Bool) (i : Nat) : (s.putBit f n b i).gauge = s.gauge := by simp only [State.putBit]; split <;> simp
@[simp] theorem State.putBit_chan (s : State) (f : Fld) (n : Nat) (b : Bool) (i : Nat) : (s.putBit f n b i).chan = s.chan := by simp only [State.putBit]; split <;> simp
@[simp] theorem State.putBit_die (s : State) (f : Fld) (n : Nat) (b : Bool) (i : Nat) : (s.putBit f n b i).die = s.die := by simp only [State.putBit]; split <;> simp
@[simp] theorem State.putBit_io (s : State) (f : Fld) (n : Nat) (b : Bool) (i : Nat) : (s.putBit f n b i).io = s.io := by simp only [State.putBit]; split <;> simp
@[simp] theorem State.putBit_gate (s : State) (f : Fld) (n : Nat) (b : Bool) (i : Nat) : (s.putBit f n b i).gate = s.gate := by simp only [State.putBit]; split <;> simp
@[simp] theorem State.putBit_can (s : State) (f : Fld) (n : Nat) (b : Bool) (i : Nat) : (s.putBit f n b i).can = s.can := by simp only [State.putBit]; split <;> simp
@[simp] theorem State.putBit_route (s : State) (f : Fld) (n : Nat) (b : Bool) (i : Nat) : (s.putBit f n b i).route = s.route := by simp only [State.putBit]; split <;> simp
@[simp] theorem State.putBit_stream (s : State) (f : Fld) (n : Nat) (b : Bool) (i : Nat) : (s.putBit f n b i).stream = s.stream := by simp only [State.putBit]; split <;> simp
@[simp] theorem State.putBit_seg (s : State) (f : Fld) (n : Nat) (b : Bool) (i : Nat) : (s.putBit f n b i).seg = s.seg := by simp only [State.putBit]; split <;> simp
@[simp] theorem State.putBit_conf (s : State) (f : Fld) (n : Nat) (b : Bool) (i : Nat) : (s.putBit f n b i).conf = s.conf := by simp only [State.putBit]; split <;> simp
@[simp] theorem State.putBit_port (s : State) (f : Fld) (n : Nat) (b : Bool) (i : Nat) : (s.putBit f n b i).port = s.port := by simp only [State.putBit]; split <;> simp
@[simp] theorem State.putBit_handed (s : State) (f : Fld) (n : Nat) (b : Bool) (i : Nat) : (s.putBit f n b i).handed = s.handed := by simp only [State.putBit]; split <;> simp
@[simp] theorem State.putBit_braid (s : State) (f : Fld) (n : Nat) (b : Bool) (i : Nat) : (s.putBit f n b i).braid = s.braid := by simp only [State.putBit]; split <;> simp
@[simp] theorem State.putBit_factory (s : State) (f : Fld) (n : Nat) (b : Bool) (i : Nat) : (s.putBit f n b i).factory = s.factory := by simp only [State.putBit]; split <;> simp
@[simp] theorem State.putBit_ferry (s : State) (f : Fld) (n : Nat) (b : Bool) (i : Nat) : (s.putBit f n b i).ferry = s.ferry := by simp only [State.putBit]; split <;> simp
@[simp] theorem State.putBit_errWorld (s : State) (f : Fld) (n : Nat) (b : Bool) (i : Nat) : (s.putBit f n b i).errWorld = s.errWorld := by simp only [State.putBit]; split <;> simp
@[simp] theorem State.putBit_eddy (s : State) (f : Fld) (n : Nat) (b : Bool) (i : Nat) : (s.putBit f n b i).eddy = s.eddy := by simp only [State.putBit]; split <;> simp
@[simp] theorem State.putBit_locks (s : State) (f : Fld) (n : Nat) (b : Bool) (i : Nat) : (s.putBit f n b i).locks = s.locks := by simp only [State.putBit]; split <;> simp
@[simp] theorem State.putBit_emmc (s : State) (f : Fld) (n : Nat) (b : Bool) (i : Nat) : (s.putBit f n b i).emmc = s.emmc := by simp only [State.putBit]; split <;> simp
@[simp] theorem State.putBit_dq (s : State) (f : Fld) (n : Nat) (b : Bool) (i : Nat) : (s.putBit f n b i).dq = s.dq := by simp only [State.putBit]; split <;> simp
@[simp] theorem State.putBit_delta (s : State) (f : Fld) (n : Nat) (b : Bool) (i : Nat) : (s.putBit f n b i).delta = s.delta := by simp only [State.putBit]; split <;> simp
@[simp] theorem State.putBit_head (s : State) (f : Fld) (n : Nat) (b : Bool) (i : Nat) : (s.putBit f n b i).head = s.head := by simp only [State.putBit]; split <;> simp
@[simp] theorem State.putBit_hart (s : State) (f : Fld) (n : Nat) (b : Bool) (i : Nat) : (s.putBit f n b i).hart = s.hart := by simp only [State.putBit]; split <;> simp
@[simp] theorem State.putBit_upd (s : State) (f : Fld) (n : Nat) (b : Bool) (i : Nat) : (s.putBit f n b i).upd = s.upd := by simp only [State.putBit]; split <;> simp
@[simp] theorem State.putBit_pw (s : State) (f : Fld) (n : Nat) (b : Bool) (i : Nat) : (s.putBit f n b i).pw = s.pw := by simp only [State.putBit]; split <;> simp
@[simp] theorem State.putBit_od (s : State) (f : Fld) (n : Nat) (b : Bool) (i : Nat) : (s.putBit f n b i).od = s.od := by simp only [State.putBit]; split <;> simp
@[simp] theorem State.putBit_pending (s : State) (f : Fld) (n : Nat) (b : Bool) (i : Nat) : (s.putBit f n b i).pending = s.pending := by simp only [State.putBit]; split <;> simp

/-- An increment: the old value and the step, up to the largest value of the field (R478). -/
theorem State.rd_inc_same (s : State) (f : Fld) (i n : Nat) :
    (s.inc f i n).rd f i = min (s.rd f i + n) (2 ^ f.info.width - 1) := by
  unfold State.inc
  rw [State.rd_wr_same]
  have : 0 < 2 ^ f.info.width := Nat.two_pow_pos _
  exact Nat.mod_eq_of_lt (by omega)

@[simp] theorem State.rd_inc_field (s : State) {f g : Fld} (i n j : Nat) (h : g ≠ f) : (s.inc f i n).rd g j = s.rd g j := by
  unfold State.inc
  exact s.rd_wr_field _ _ _ h

@[simp] theorem State.rd_wrI_field (s : State) {f g : Fld} (x : Int) (i j : Nat) (h : g ≠ f) : (s.wrI f x i).rd g j = s.rd g j := by
  unfold State.wrI
  exact s.rd_wr_field _ _ _ h

@[simp] theorem State.rd_putBit_field (s : State) {f g : Fld} (n : Nat) (b : Bool) (i j : Nat) (h : g ≠ f) :
    (s.putBit f n b i).rd g j = s.rd g j := by
  simp only [State.putBit]
  split
  · rfl
  · exact s.rd_wr_field _ _ _ h

/-! ## Memory -/

/-- A block written leaves every byte outside it. -/
theorem State.byteAt_setBytes_out (s : State) (a : Nat) (l : List Nat) (x : Nat) (h : x < a ∨ a + l.length ≤ x) :
    (s.setBytes a l).byteAt x = s.byteAt x :=
  Memory.rd8_wrBytes_out s.mem a l x h

/-- A byte of the block just written reads as written. -/
theorem State.byteAt_setBytes_in (s : State) (a : Nat) (l : List Nat) (i : Nat) (h : i < l.length) :
    (s.setBytes a l).byteAt (a + i) = l.getD i 0 % 256 :=
  Memory.rd8_wrBytes_in s.mem a l i h

/-- Memory operations keep the canonical form. -/
theorem State.setBytes_wf (s : State) (a : Nat) (l : List Nat) (h : Memory.wf s.mem = true) :
    Memory.wf (s.setBytes a l).mem = true := Memory.wf_wrBytes s.mem a l h

theorem State.setWord_wf (s : State) (a v : Nat) (h : Memory.wf s.mem = true) : Memory.wf (s.setWord a v).mem = true :=
  Memory.wf_wr32 s.mem a v h

theorem State.wipe_wf (s : State) (a n : Nat) (h : Memory.wf s.mem = true) : Memory.wf (s.wipe a n).mem = true :=
  Memory.wf_wipe s.mem a n h

end Sys2Proof.Machine
end

