-- ==== Sys2Proof/Laws/Frame.lean ====
section
/-!
SUPPORT. Laws of the frame predicates: how a chain of register writes keeps to a list of fields.
-/
namespace Sys2Proof
open Sys2Proof.Machine

theorem changesOnly_refl (s : State) (ws : List (Fld × Nat)) : changesOnly s s ws := fun _ _ _ => rfl

theorem changesOnly_wr {s t : State} {ws : List (Fld × Nat)} (h : changesOnly s t ws) {f : Fld} {i : Nat} (v : Nat)
    (hf : (f, i) ∈ ws) : changesOnly s (t.wr f v i) ws := fun g j hg => by
  have hne : (g, j) ≠ (f, i) := fun e => hg (e.symm ▸ hf)
  rw [t.rd_wr_ne v hne, h g j hg]

theorem changesOnly_regs {s t u : State} {ws : List (Fld × Nat)} (h : changesOnly s t ws) (hr : u.regs = t.regs) :
    changesOnly s u ws := fun g j hg => by rw [State.rd_of_regs hr, h g j hg]

theorem changesFields_refl (s : State) (fs : List Fld) : changesFields s s fs := fun _ _ _ => rfl

theorem changesFields_wr {s t : State} {fs : List Fld} (h : changesFields s t fs) {f : Fld} (i v : Nat) (hf : f ∈ fs) :
    changesFields s (t.wr f v i) fs := fun g j hg => by
  have hne : g ≠ f := fun e => hg (e.symm ▸ hf)
  rw [t.rd_wr_field v i j hne, h g j hg]

theorem changesFields_inc {s t : State} {fs : List Fld} (h : changesFields s t fs) {f : Fld} (i n : Nat) (hf : f ∈ fs) :
    changesFields s (t.inc f i n) fs := changesFields_wr h i _ hf

theorem changesFields_regs {s t u : State} {fs : List Fld} (h : changesFields s t fs) (hr : u.regs = t.regs) :
    changesFields s u fs := fun g j hg => by rw [State.rd_of_regs hr, h g j hg]

theorem keepsMemory_of_mem {s t : State} (h : t.mem = s.mem) : keepsMemory s t := fun a => by
  show Memory.rd8 t.mem a = Memory.rd8 s.mem a
  rw [h]

/-! ## Power and clock (R334): a command of a unit that is awake, or of a master that runs, has its own effect; another has none -/

@[simp] theorem Machine.State.running_awake {s : State} (h : s.awake = true) (o : Out) : s.running o = o := if_pos h

@[simp] theorem Machine.State.running_asleep {s : State} (h : s.awake = false) (o : Out) : s.running o = .next s :=
  if_neg (by simp [h])

@[simp] theorem Machine.State.asMaster_runs {s : State} {who : Initiator} (h : s.masterRuns who = true) (o : Out) :
    s.asMaster who o = o := if_pos h

@[simp] theorem Machine.State.asMaster_stopped {s : State} {who : Initiator} (h : s.masterRuns who = false) (o : Out) :
    s.asMaster who o = .next s := if_neg (by simp [h])

theorem Machine.State.awake_of_masterRuns {s : State} {who : Initiator} (h : s.masterRuns who = true) : s.awake = true := by
  simp only [State.masterRuns, Bool.and_eq_true] at h
  exact h.1.1.1

end Sys2Proof
end

