-- ==== Sys2Proof/Laws/Width.lean ====
section
/-!
SUPPORT. The width of every register field, one lemma for each.
-/
namespace Sys2Proof.Machine

@[simp] theorem Fld.width_MR_CTL_SRC : (Fld.info .MR_CTL_SRC).width = 3 := id rfl
@[simp] theorem Fld.width_MR_CTL_EN : (Fld.info .MR_CTL_EN).width = 1 := id rfl
@[simp] theorem Fld.width_MR_CTL_NOM : (Fld.info .MR_CTL_NOM).width = 2 := id rfl
@[simp] theorem Fld.width_MR_CTL_TEST : (Fld.info .MR_CTL_TEST).width = 1 := id rfl
@[simp] theorem Fld.width_MR_CTL_PRESET : (Fld.info .MR_CTL_PRESET).width = 1 := id rfl
@[simp] theorem Fld.width_MR_STAT_STATE : (Fld.info .MR_STAT_STATE).width = 3 := id rfl
@[simp] theorem Fld.width_MR_STAT_FRANGE : (Fld.info .MR_STAT_FRANGE).width = 1 := id rfl
@[simp] theorem Fld.width_MR_STAT_ROT : (Fld.info .MR_STAT_ROT).width = 1 := id rfl
@[simp] theorem Fld.width_MR_STAT_LOK : (Fld.info .MR_STAT_LOK).width = 3 := id rfl
@[simp] theorem Fld.width_MR_STAT_REFUSED : (Fld.info .MR_STAT_REFUSED).width = 1 := id rfl
@[simp] theorem Fld.width_MR_STAT_INTREF : (Fld.info .MR_STAT_INTREF).width = 1 := id rfl
@[simp] theorem Fld.width_MR_STAT_REFLATE : (Fld.info .MR_STAT_REFLATE).width = 1 := id rfl
@[simp] theorem Fld.width_MR_STAT_LOSS : (Fld.info .MR_STAT_LOSS).width = 1 := id rfl
@[simp] theorem Fld.width_MR_NOW_LO : (Fld.info .MR_NOW_LO).width = 32 := id rfl
@[simp] theorem Fld.width_MR_NOW_HI_TIME : (Fld.info .MR_NOW_HI_TIME).width = 16 := id rfl
@[simp] theorem Fld.width_MR_NOW_HI_KIND : (Fld.info .MR_NOW_HI_KIND).width = 2 := id rfl
@[simp] theorem Fld.width_MR_FREQ : (Fld.info .MR_FREQ).width = 24 := id rfl
@[simp] theorem Fld.width_MR_PHERR : (Fld.info .MR_PHERR).width = 24 := id rfl
@[simp] theorem Fld.width_MR_COMP : (Fld.info .MR_COMP).width = 24 := id rfl
@[simp] theorem Fld.width_MR_SLEW : (Fld.info .MR_SLEW).width = 24 := id rfl
@[simp] theorem Fld.width_MR_TURN_PRESET : (Fld.info .MR_TURN_PRESET).width = 24 := id rfl
@[simp] theorem Fld.width_MR_HOLD_TURNS : (Fld.info .MR_HOLD_TURNS).width = 24 := id rfl
@[simp] theorem Fld.width_MR_FREE : (Fld.info .MR_FREE).width = 32 := id rfl
@[simp] theorem Fld.width_MR_FREE_WRAP : (Fld.info .MR_FREE_WRAP).width = 16 := id rfl
@[simp] theorem Fld.width_MR_TURN_FREE : (Fld.info .MR_TURN_FREE).width = 32 := id rfl
@[simp] theorem Fld.width_MR_PERIOD : (Fld.info .MR_PERIOD).width = 32 := id rfl
@[simp] theorem Fld.width_MR_REFCH : (Fld.info .MR_REFCH).width = 16 := id rfl
@[simp] theorem Fld.width_MR_REFID_ID : (Fld.info .MR_REFID_ID).width = 29 := id rfl
@[simp] theorem Fld.width_MR_REFID_IDE : (Fld.info .MR_REFID_IDE).width = 1 := id rfl
@[simp] theorem Fld.width_MR_REFID_BRS : (Fld.info .MR_REFID_BRS).width = 1 := id rfl
@[simp] theorem Fld.width_MR_ANGLE0 : (Fld.info .MR_ANGLE0).width = 24 := id rfl
@[simp] theorem Fld.width_MR_PLAN : (Fld.info .MR_PLAN).width = 32 := id rfl
@[simp] theorem Fld.width_MR_ASSOC_CTL_EN : (Fld.info .MR_ASSOC_CTL_EN).width = 1 := id rfl
@[simp] theorem Fld.width_MR_ASSOC_CTL_ACCEPT : (Fld.info .MR_ASSOC_CTL_ACCEPT).width = 1 := id rfl
@[simp] theorem Fld.width_MR_ASSOC_CTL_STEP : (Fld.info .MR_ASSOC_CTL_STEP).width = 1 := id rfl
@[simp] theorem Fld.width_MR_ASSOC_CTL_UNSYNC : (Fld.info .MR_ASSOC_CTL_UNSYNC).width = 1 := id rfl
@[simp] theorem Fld.width_MR_ASSOC_CTL_THR : (Fld.info .MR_ASSOC_CTL_THR).width = 24 := id rfl
@[simp] theorem Fld.width_MR_ASSOC_TURN : (Fld.info .MR_ASSOC_TURN).width = 24 := id rfl
@[simp] theorem Fld.width_MR_ASSOC_SEC_LO : (Fld.info .MR_ASSOC_SEC_LO).width = 32 := id rfl
@[simp] theorem Fld.width_MR_ASSOC_SEC_HI : (Fld.info .MR_ASSOC_SEC_HI).width = 16 := id rfl
@[simp] theorem Fld.width_MR_ASSOC_NS : (Fld.info .MR_ASSOC_NS).width = 30 := id rfl
@[simp] theorem Fld.width_MR_ASSOC_DEV : (Fld.info .MR_ASSOC_DEV).width = 32 := id rfl
@[simp] theorem Fld.width_MR_EVT_STAGE : (Fld.info .MR_EVT_STAGE).width = 32 := id rfl
@[simp] theorem Fld.width_MR_EVT_CMD_INDEX : (Fld.info .MR_EVT_CMD_INDEX).width = 10 := id rfl
@[simp] theorem Fld.width_MR_EVT_CMD_OP : (Fld.info .MR_EVT_CMD_OP).width = 2 := id rfl
@[simp] theorem Fld.width_MR_EVT_RESULT_CODE : (Fld.info .MR_EVT_RESULT_CODE).width = 4 := id rfl
@[simp] theorem Fld.width_MR_EVT_RESULT_AFTER : (Fld.info .MR_EVT_RESULT_AFTER).width = 1 := id rfl
@[simp] theorem Fld.width_MR_EVT_RESULT_BUSY : (Fld.info .MR_EVT_RESULT_BUSY).width = 1 := id rfl
@[simp] theorem Fld.width_MR_EVT_QUOTA0_NORMAL : (Fld.info .MR_EVT_QUOTA0_NORMAL).width = 11 := id rfl
@[simp] theorem Fld.width_MR_EVT_QUOTA0_SAFETY : (Fld.info .MR_EVT_QUOTA0_SAFETY).width = 11 := id rfl
@[simp] theorem Fld.width_MR_EVT_QUOTA1_SECURE : (Fld.info .MR_EVT_QUOTA1_SECURE).width = 11 := id rfl
@[simp] theorem Fld.width_MR_EVT_LATE : (Fld.info .MR_EVT_LATE).width = 16 := id rfl
@[simp] theorem Fld.width_GA_CTL_EN : (Fld.info .GA_CTL_EN).width = 1 := id rfl
@[simp] theorem Fld.width_GA_CTL_ASYNC_OK : (Fld.info .GA_CTL_ASYNC_OK).width = 1 := id rfl
@[simp] theorem Fld.width_GA_STAT_ACTIVE : (Fld.info .GA_STAT_ACTIVE).width = 1 := id rfl
@[simp] theorem Fld.width_GA_STAT_REFUSED : (Fld.info .GA_STAT_REFUSED).width = 1 := id rfl
@[simp] theorem Fld.width_GA_STAT_SILENT : (Fld.info .GA_STAT_SILENT).width = 1 := id rfl
@[simp] theorem Fld.width_GA_STAT_LATE : (Fld.info .GA_STAT_LATE).width = 1 := id rfl
@[simp] theorem Fld.width_GA_STAT_MISSING : (Fld.info .GA_STAT_MISSING).width = 1 := id rfl
@[simp] theorem Fld.width_GA_STAT_DUP : (Fld.info .GA_STAT_DUP).width = 1 := id rfl
@[simp] theorem Fld.width_GA_STAT_BAD : (Fld.info .GA_STAT_BAD).width = 1 := id rfl
@[simp] theorem Fld.width_GA_GUARD : (Fld.info .GA_GUARD).width = 24 := id rfl
@[simp] theorem Fld.width_GA_SILENT : (Fld.info .GA_SILENT).width = 8 := id rfl
@[simp] theorem Fld.width_GA_MAP_CMD_COMMIT : (Fld.info .GA_MAP_CMD_COMMIT).width = 1 := id rfl
@[simp] theorem Fld.width_GA_MAP_RESULT_CODE : (Fld.info .GA_MAP_RESULT_CODE).width = 4 := id rfl
@[simp] theorem Fld.width_GA_MAP_RESULT_PENDING : (Fld.info .GA_MAP_RESULT_PENDING).width = 1 := id rfl
@[simp] theorem Fld.width_GA_MAP_RESULT_CHECKING : (Fld.info .GA_MAP_RESULT_CHECKING).width = 1 := id rfl
@[simp] theorem Fld.width_GA_MAP_RESULT_INDEX : (Fld.info .GA_MAP_RESULT_INDEX).width = 13 := id rfl
@[simp] theorem Fld.width_GA_LAST_TURN : (Fld.info .GA_LAST_TURN).width = 24 := id rfl
@[simp] theorem Fld.width_GA_CNT_BAD : (Fld.info .GA_CNT_BAD).width = 32 := id rfl
@[simp] theorem Fld.width_GA_CNT_LATE : (Fld.info .GA_CNT_LATE).width = 32 := id rfl
@[simp] theorem Fld.width_GA_CNT_STRAY : (Fld.info .GA_CNT_STRAY).width = 32 := id rfl
@[simp] theorem Fld.width_GA_CNT_MISMATCH : (Fld.info .GA_CNT_MISMATCH).width = 32 := id rfl
@[simp] theorem Fld.width_GA_CNT_DUP : (Fld.info .GA_CNT_DUP).width = 32 := id rfl
@[simp] theorem Fld.width_GA_CNT_DUPDIFF : (Fld.info .GA_CNT_DUPDIFF).width = 32 := id rfl
@[simp] theorem Fld.width_GA_CNT_MISSING : (Fld.info .GA_CNT_MISSING).width = 32 := id rfl
@[simp] theorem Fld.width_GA_CNT_CURMISS : (Fld.info .GA_CNT_CURMISS).width = 32 := id rfl
@[simp] theorem Fld.width_GA_STRMAP_SH : (Fld.info .GA_STRMAP_SH).width = 32 := id rfl
@[simp] theorem Fld.width_GA_STRMAP : (Fld.info .GA_STRMAP).width = 32 := id rfl
@[simp] theorem Fld.width_GA_SRCMAP_SH : (Fld.info .GA_SRCMAP_SH).width = 32 := id rfl
@[simp] theorem Fld.width_GA_SRCMAP : (Fld.info .GA_SRCMAP).width = 32 := id rfl
@[simp] theorem Fld.width_GA_CELLMAP_SH : (Fld.info .GA_CELLMAP_SH).width = 24 := id rfl
@[simp] theorem Fld.width_GA_CELLMAP : (Fld.info .GA_CELLMAP).width = 24 := id rfl
@[simp] theorem Fld.width_GE_CTL_SCREEN : (Fld.info .GE_CTL_SCREEN).width = 1 := id rfl
@[simp] theorem Fld.width_GE_CTL_NRING : (Fld.info .GE_CTL_NRING).width = 1 := id rfl
@[simp] theorem Fld.width_GE_STAT_BUSY : (Fld.info .GE_STAT_BUSY).width = 1 := id rfl
@[simp] theorem Fld.width_GE_STAT_REFUSED : (Fld.info .GE_STAT_REFUSED).width = 1 := id rfl
@[simp] theorem Fld.width_GE_STAT_DONE : (Fld.info .GE_STAT_DONE).width = 1 := id rfl
@[simp] theorem Fld.width_GE_STAT_ALMOVF : (Fld.info .GE_STAT_ALMOVF).width = 1 := id rfl
@[simp] theorem Fld.width_GE_STAT_SAT : (Fld.info .GE_STAT_SAT).width = 1 := id rfl
@[simp] theorem Fld.width_GE_STAT_MEDSKIP : (Fld.info .GE_STAT_MEDSKIP).width = 1 := id rfl
@[simp] theorem Fld.width_GE_PARAM_SEL_BANK : (Fld.info .GE_PARAM_SEL_BANK).width = 1 := id rfl
@[simp] theorem Fld.width_GE_GEOM_CMD_COMMIT : (Fld.info .GE_GEOM_CMD_COMMIT).width = 1 := id rfl
@[simp] theorem Fld.width_GE_GEOM_CMD_PENDING : (Fld.info .GE_GEOM_CMD_PENDING).width = 1 := id rfl
@[simp] theorem Fld.width_GE_ZFILT : (Fld.info .GE_ZFILT).width = 4 := id rfl
@[simp] theorem Fld.width_GE_IMIN : (Fld.info .GE_IMIN).width = 24 := id rfl
@[simp] theorem Fld.width_GE_DFMAX : (Fld.info .GE_DFMAX).width = 16 := id rfl
@[simp] theorem Fld.width_GE_INITTURNS : (Fld.info .GE_INITTURNS).width = 8 := id rfl
@[simp] theorem Fld.width_GE_HOLDI : (Fld.info .GE_HOLDI).width = 8 := id rfl
@[simp] theorem Fld.width_GE_TSTALE : (Fld.info .GE_TSTALE).width = 8 := id rfl
@[simp] theorem Fld.width_GE_MEDMIN : (Fld.info .GE_MEDMIN).width = 10 := id rfl
@[simp] theorem Fld.width_GE_ACLASS : (Fld.info .GE_ACLASS).width = 32 := id rfl
@[simp] theorem Fld.width_GE_ALM_WR : (Fld.info .GE_ALM_WR).width = 9 := id rfl
@[simp] theorem Fld.width_GE_ALM_RD_S : (Fld.info .GE_ALM_RD_S).width = 9 := id rfl
@[simp] theorem Fld.width_GE_ALM_RD_N : (Fld.info .GE_ALM_RD_N).width = 9 := id rfl
@[simp] theorem Fld.width_GE_ALM_OVF : (Fld.info .GE_ALM_OVF).width = 32 := id rfl
@[simp] theorem Fld.width_GE_DONE_TURN : (Fld.info .GE_DONE_TURN).width = 24 := id rfl
@[simp] theorem Fld.width_GE_DONE_VALID : (Fld.info .GE_DONE_VALID).width = 1 := id rfl
@[simp] theorem Fld.width_GE_PASS_TIME : (Fld.info .GE_PASS_TIME).width = 24 := id rfl
@[simp] theorem Fld.width_GE_PASS_MAX : (Fld.info .GE_PASS_MAX).width = 24 := id rfl
@[simp] theorem Fld.width_GE_REINIT_CELL : (Fld.info .GE_REINIT_CELL).width = 13 := id rfl
@[simp] theorem Fld.width_GE_REINIT_ALL : (Fld.info .GE_REINIT_ALL).width = 1 := id rfl
@[simp] theorem Fld.width_GE_LIM : (Fld.info .GE_LIM).width = 24 := id rfl
@[simp] theorem Fld.width_GE_HYS : (Fld.info .GE_HYS).width = 24 := id rfl
@[simp] theorem Fld.width_GE_PER_SET : (Fld.info .GE_PER_SET).width = 6 := id rfl
@[simp] theorem Fld.width_GE_PER_CLR : (Fld.info .GE_PER_CLR).width = 6 := id rfl
@[simp] theorem Fld.width_GE_STRCFG_CAP : (Fld.info .GE_STRCFG_CAP).width = 16 := id rfl
@[simp] theorem Fld.width_GE_STRCFG_PROF : (Fld.info .GE_STRCFG_PROF).width = 2 := id rfl
@[simp] theorem Fld.width_SL_DIE_CFG_PAIR : (Fld.info .SL_DIE_CFG_PAIR).width = 1 := id rfl
@[simp] theorem Fld.width_SL_DIE_STAT_REFUSED : (Fld.info .SL_DIE_STAT_REFUSED).width = 1 := id rfl
@[simp] theorem Fld.width_SL_DIE_STAT_SHEDDING : (Fld.info .SL_DIE_STAT_SHEDDING).width = 1 := id rfl
@[simp] theorem Fld.width_SL_DIE_STAT_FEEDOVR : (Fld.info .SL_DIE_STAT_FEEDOVR).width = 1 := id rfl
@[simp] theorem Fld.width_SL_DIE_STAT_SHED : (Fld.info .SL_DIE_STAT_SHED).width = 1 := id rfl
@[simp] theorem Fld.width_SL_DIE_STAT_BUDGET : (Fld.info .SL_DIE_STAT_BUDGET).width = 1 := id rfl
@[simp] theorem Fld.width_SL_FEED_LIM : (Fld.info .SL_FEED_LIM).width = 10 := id rfl
@[simp] theorem Fld.width_SL_FEED_HYS : (Fld.info .SL_FEED_HYS).width = 7 := id rfl
@[simp] theorem Fld.width_SL_SHED_T : (Fld.info .SL_SHED_T).width = 10 := id rfl
@[simp] theorem Fld.width_SL_FEED_CFG_ADMIT : (Fld.info .SL_FEED_CFG_ADMIT).width = 1 := id rfl
@[simp] theorem Fld.width_SL_FEED_SUM : (Fld.info .SL_FEED_SUM).width = 24 := id rfl
@[simp] theorem Fld.width_SL_STRM_WR : (Fld.info .SL_STRM_WR).width = 8 := id rfl
@[simp] theorem Fld.width_SL_UV_THR : (Fld.info .SL_UV_THR).width = 8 := id rfl
@[simp] theorem Fld.width_SL_DIP_THR : (Fld.info .SL_DIP_THR).width = 9 := id rfl
@[simp] theorem Fld.width_SL_UV_STAT_UVOFF : (Fld.info .SL_UV_STAT_UVOFF).width = 1 := id rfl
@[simp] theorem Fld.width_SL_UV_STAT_DIP : (Fld.info .SL_UV_STAT_DIP).width = 1 := id rfl
@[simp] theorem Fld.width_SL_UV_STAT_UVEVT : (Fld.info .SL_UV_STAT_UVEVT).width = 1 := id rfl
@[simp] theorem Fld.width_SL_UV_CNT : (Fld.info .SL_UV_CNT).width = 16 := id rfl
@[simp] theorem Fld.width_SL_FEED_V : (Fld.info .SL_FEED_V).width = 24 := id rfl
@[simp] theorem Fld.width_SL_WD_TIME : (Fld.info .SL_WD_TIME).width = 10 := id rfl
@[simp] theorem Fld.width_SL_WD_SERVE : (Fld.info .SL_WD_SERVE).width = 24 := id rfl
@[simp] theorem Fld.width_SL_WD_STAT_SERVED : (Fld.info .SL_WD_STAT_SERVED).width = 1 := id rfl
@[simp] theorem Fld.width_SL_WD_STAT_FAILSAFE : (Fld.info .SL_WD_STAT_FAILSAFE).width = 1 := id rfl
@[simp] theorem Fld.width_SL_WD_STAT_EXPIRED : (Fld.info .SL_WD_STAT_EXPIRED).width = 1 := id rfl
@[simp] theorem Fld.width_SL_WD_STAT_BADSERVE : (Fld.info .SL_WD_STAT_BADSERVE).width = 1 := id rfl
@[simp] theorem Fld.width_SL_WD_STAT_ACT : (Fld.info .SL_WD_STAT_ACT).width = 1 := id rfl
@[simp] theorem Fld.width_SL_WD_STAT_FSBAD : (Fld.info .SL_WD_STAT_FSBAD).width = 1 := id rfl
@[simp] theorem Fld.width_SL_WD_CMD_RESUME : (Fld.info .SL_WD_CMD_RESUME).width = 1 := id rfl
@[simp] theorem Fld.width_SL_FS_STAGE_LO : (Fld.info .SL_FS_STAGE_LO).width = 12 := id rfl
@[simp] theorem Fld.width_SL_FS_STAGE_HI : (Fld.info .SL_FS_STAGE_HI).width = 12 := id rfl
@[simp] theorem Fld.width_SL_FS_CMD_COMMIT : (Fld.info .SL_FS_CMD_COMMIT).width = 1 := id rfl
@[simp] theorem Fld.width_SL_FS_CMD_BUSY : (Fld.info .SL_FS_CMD_BUSY).width = 1 := id rfl
@[simp] theorem Fld.width_SL_FS_CMD_RESULT : (Fld.info .SL_FS_CMD_RESULT).width = 2 := id rfl
@[simp] theorem Fld.width_SL_FS_ACT : (Fld.info .SL_FS_ACT).width = 24 := id rfl
@[simp] theorem Fld.width_SL_FS_SEQ : (Fld.info .SL_FS_SEQ).width = 16 := id rfl
@[simp] theorem Fld.width_SL_CMD_ACTION : (Fld.info .SL_CMD_ACTION).width = 4 := id rfl
@[simp] theorem Fld.width_SL_CMD_PARAM : (Fld.info .SL_CMD_PARAM).width = 12 := id rfl
@[simp] theorem Fld.width_SL_CFG_MODE : (Fld.info .SL_CFG_MODE).width = 2 := id rfl
@[simp] theorem Fld.width_SL_CFG_FINE : (Fld.info .SL_CFG_FINE).width = 1 := id rfl
@[simp] theorem Fld.width_SL_CFG_OLOFF : (Fld.info .SL_CFG_OLOFF).width = 1 := id rfl
@[simp] theorem Fld.width_SL_CFG_OLON : (Fld.info .SL_CFG_OLON).width = 1 := id rfl
@[simp] theorem Fld.width_SL_CFG_JOINED : (Fld.info .SL_CFG_JOINED).width = 1 := id rfl
@[simp] theorem Fld.width_SL_SLEW : (Fld.info .SL_SLEW).width = 9 := id rfl
@[simp] theorem Fld.width_SL_ILIM : (Fld.info .SL_ILIM).width = 11 := id rfl
@[simp] theorem Fld.width_SL_ILIM_IN : (Fld.info .SL_ILIM_IN).width = 11 := id rfl
@[simp] theorem Fld.width_SL_INRUSH_T : (Fld.info .SL_INRUSH_T).width = 9 := id rfl
@[simp] theorem Fld.width_SL_PWMF : (Fld.info .SL_PWMF).width = 12 := id rfl
@[simp] theorem Fld.width_SL_DUTY : (Fld.info .SL_DUTY).width = 10 := id rfl
@[simp] theorem Fld.width_SL_OLTHR : (Fld.info .SL_OLTHR).width = 16 := id rfl
@[simp] theorem Fld.width_SL_OLTIME : (Fld.info .SL_OLTIME).width = 8 := id rfl
@[simp] theorem Fld.width_SL_BUDGET_PRIO : (Fld.info .SL_BUDGET_PRIO).width = 4 := id rfl
@[simp] theorem Fld.width_SL_BUDGET_NOM : (Fld.info .SL_BUDGET_NOM).width = 11 := id rfl
@[simp] theorem Fld.width_SL_STAT_STATE : (Fld.info .SL_STAT_STATE).width = 3 := id rfl
@[simp] theorem Fld.width_SL_STAT_LIMIT : (Fld.info .SL_STAT_LIMIT).width = 1 := id rfl
@[simp] theorem Fld.width_SL_STAT_INRUSH : (Fld.info .SL_STAT_INRUSH).width = 1 := id rfl
@[simp] theorem Fld.width_SL_STAT_OPENOFF : (Fld.info .SL_STAT_OPENOFF).width = 1 := id rfl
@[simp] theorem Fld.width_SL_STAT_OPENON : (Fld.info .SL_STAT_OPENON).width = 1 := id rfl
@[simp] theorem Fld.width_SL_STAT_EXTV : (Fld.info .SL_STAT_EXTV).width = 1 := id rfl
@[simp] theorem Fld.width_SL_STAT_REV : (Fld.info .SL_STAT_REV).width = 1 := id rfl
@[simp] theorem Fld.width_SL_STAT_FOVR : (Fld.info .SL_STAT_FOVR).width = 1 := id rfl
@[simp] theorem Fld.width_SL_STAT_REFUSED : (Fld.info .SL_STAT_REFUSED).width = 1 := id rfl
@[simp] theorem Fld.width_SL_STAT_WHY : (Fld.info .SL_STAT_WHY).width = 3 := id rfl
@[simp] theorem Fld.width_SL_STAT_SRC : (Fld.info .SL_STAT_SRC).width = 2 := id rfl
@[simp] theorem Fld.width_SL_INOW : (Fld.info .SL_INOW).width = 24 := id rfl
@[simp] theorem Fld.width_SL_PROT_CFG_RETRY_N : (Fld.info .SL_PROT_CFG_RETRY_N).width = 4 := id rfl
@[simp] theorem Fld.width_SL_PROT_CFG_TSTICKY : (Fld.info .SL_PROT_CFG_TSTICKY).width = 1 := id rfl
@[simp] theorem Fld.width_SL_RETRY_T : (Fld.info .SL_RETRY_T).width = 10 := id rfl
@[simp] theorem Fld.width_SL_LIMT : (Fld.info .SL_LIMT).width = 10 := id rfl
@[simp] theorem Fld.width_SL_PROT_CMD_CLEAR : (Fld.info .SL_PROT_CMD_CLEAR).width = 1 := id rfl
@[simp] theorem Fld.width_SL_PROT_CMD_UNLOCK : (Fld.info .SL_PROT_CMD_UNLOCK).width = 1 := id rfl
@[simp] theorem Fld.width_SL_PROT_CMD_TCLR : (Fld.info .SL_PROT_CMD_TCLR).width = 1 := id rfl
@[simp] theorem Fld.width_SL_PROT_STAT_CAUSE : (Fld.info .SL_PROT_STAT_CAUSE).width = 3 := id rfl
@[simp] theorem Fld.width_SL_PROT_STAT_RETRIES : (Fld.info .SL_PROT_STAT_RETRIES).width = 4 := id rfl
@[simp] theorem Fld.width_SL_PROT_STAT_TLATCH : (Fld.info .SL_PROT_STAT_TLATCH).width = 1 := id rfl
@[simp] theorem Fld.width_SL_PROT_STAT_RETRY_PEND : (Fld.info .SL_PROT_STAT_RETRY_PEND).width = 1 := id rfl
@[simp] theorem Fld.width_SL_PROT_STAT_UVOFF : (Fld.info .SL_PROT_STAT_UVOFF).width = 1 := id rfl
@[simp] theorem Fld.width_SL_PROT_STAT_PULSEOVR : (Fld.info .SL_PROT_STAT_PULSEOVR).width = 1 := id rfl
@[simp] theorem Fld.width_SL_PROT_STAT_CLAMP : (Fld.info .SL_PROT_STAT_CLAMP).width = 1 := id rfl
@[simp] theorem Fld.width_SL_PROT_STAT_REFUSED : (Fld.info .SL_PROT_STAT_REFUSED).width = 1 := id rfl
@[simp] theorem Fld.width_SL_PROT_STAT_PWHY : (Fld.info .SL_PROT_STAT_PWHY).width = 3 := id rfl
@[simp] theorem Fld.width_SL_PROT_STAT_FGON : (Fld.info .SL_PROT_STAT_FGON).width = 1 := id rfl
@[simp] theorem Fld.width_SL_PROT_STAT_SPLOCK : (Fld.info .SL_PROT_STAT_SPLOCK).width = 1 := id rfl
@[simp] theorem Fld.width_SL_TJ : (Fld.info .SL_TJ).width = 24 := id rfl
@[simp] theorem Fld.width_SP_WIN : (Fld.info .SP_WIN).width = 6 := id rfl
@[simp] theorem Fld.width_SP_BUDGET : (Fld.info .SP_BUDGET).width = 24 := id rfl
@[simp] theorem Fld.width_SP_SUM : (Fld.info .SP_SUM).width = 24 := id rfl
@[simp] theorem Fld.width_SP_LAST : (Fld.info .SP_LAST).width = 24 := id rfl
@[simp] theorem Fld.width_SP_FREE_IN : (Fld.info .SP_FREE_IN).width = 10 := id rfl
@[simp] theorem Fld.width_SL_TRIPS : (Fld.info .SL_TRIPS).width = 16 := id rfl
@[simp] theorem Fld.width_IO_IN : (Fld.info .IO_IN).width = 12 := id rfl
@[simp] theorem Fld.width_IO_RAW : (Fld.info .IO_RAW).width = 12 := id rfl
@[simp] theorem Fld.width_IO_OUT : (Fld.info .IO_OUT).width = 12 := id rfl
@[simp] theorem Fld.width_IO_DSTAT_REFUSED : (Fld.info .IO_DSTAT_REFUSED).width = 1 := id rfl
@[simp] theorem Fld.width_IO_DSTAT_FIFOOVF : (Fld.info .IO_DSTAT_FIFOOVF).width = 1 := id rfl
@[simp] theorem Fld.width_IO_FS_STAGE : (Fld.info .IO_FS_STAGE).width = 24 := id rfl
@[simp] theorem Fld.width_IO_FS_ACT : (Fld.info .IO_FS_ACT).width = 24 := id rfl
@[simp] theorem Fld.width_IO_LAST : (Fld.info .IO_LAST).width = 32 := id rfl
@[simp] theorem Fld.width_IO_EDGE_WR : (Fld.info .IO_EDGE_WR).width = 7 := id rfl
@[simp] theorem Fld.width_IO_EDGE_RD_S : (Fld.info .IO_EDGE_RD_S).width = 7 := id rfl
@[simp] theorem Fld.width_IO_EDGE_RD_N : (Fld.info .IO_EDGE_RD_N).width = 7 := id rfl
@[simp] theorem Fld.width_IO_EDGE_CTL_NRING : (Fld.info .IO_EDGE_CTL_NRING).width = 1 := id rfl
@[simp] theorem Fld.width_IO_EDGE_LOST : (Fld.info .IO_EDGE_LOST).width = 16 := id rfl
@[simp] theorem Fld.width_IO_CMD_ACTION : (Fld.info .IO_CMD_ACTION).width = 4 := id rfl
@[simp] theorem Fld.width_IO_CFG_MODE : (Fld.info .IO_CFG_MODE).width = 2 := id rfl
@[simp] theorem Fld.width_IO_CFG_PROF : (Fld.info .IO_CFG_PROF).width = 2 := id rfl
@[simp] theorem Fld.width_IO_CFG_INV : (Fld.info .IO_CFG_INV).width = 1 := id rfl
@[simp] theorem Fld.width_IO_CFG_EDGE_R : (Fld.info .IO_CFG_EDGE_R).width = 1 := id rfl
@[simp] theorem Fld.width_IO_CFG_EDGE_F : (Fld.info .IO_CFG_EDGE_F).width = 1 := id rfl
@[simp] theorem Fld.width_IO_CFG_JOINED : (Fld.info .IO_CFG_JOINED).width = 1 := id rfl
@[simp] theorem Fld.width_IO_THR : (Fld.info .IO_THR).width = 8 := id rfl
@[simp] theorem Fld.width_IO_HYS : (Fld.info .IO_HYS).width = 5 := id rfl
@[simp] theorem Fld.width_IO_DEB : (Fld.info .IO_DEB).width = 16 := id rfl
@[simp] theorem Fld.width_IO_RBT : (Fld.info .IO_RBT).width = 8 := id rfl
@[simp] theorem Fld.width_IO_STAT_LEVEL : (Fld.info .IO_STAT_LEVEL).width = 1 := id rfl
@[simp] theorem Fld.width_IO_STAT_OUT : (Fld.info .IO_STAT_OUT).width = 1 := id rfl
@[simp] theorem Fld.width_IO_STAT_DRIVE : (Fld.info .IO_STAT_DRIVE).width = 1 := id rfl
@[simp] theorem Fld.width_IO_STAT_LIMIT : (Fld.info .IO_STAT_LIMIT).width = 1 := id rfl
@[simp] theorem Fld.width_IO_STAT_OTP : (Fld.info .IO_STAT_OTP).width = 1 := id rfl
@[simp] theorem Fld.width_IO_STAT_MISMATCH : (Fld.info .IO_STAT_MISMATCH).width = 1 := id rfl
@[simp] theorem Fld.width_IO_STAT_REFUSED : (Fld.info .IO_STAT_REFUSED).width = 1 := id rfl
@[simp] theorem Fld.width_IO_STAT_WHY : (Fld.info .IO_STAT_WHY).width = 2 := id rfl
@[simp] theorem Fld.width_IO_STAT_SRC : (Fld.info .IO_STAT_SRC).width = 2 := id rfl
@[simp] theorem Fld.width_IO_STAT_LOST : (Fld.info .IO_STAT_LOST).width = 1 := id rfl
@[simp] theorem Fld.width_IO_STAT_OTPEVT : (Fld.info .IO_STAT_OTPEVT).width = 1 := id rfl
@[simp] theorem Fld.width_IO_OTPCNT : (Fld.info .IO_OTPCNT).width = 16 := id rfl
@[simp] theorem Fld.width_CAN_CTL_EN : (Fld.info .CAN_CTL_EN).width = 1 := id rfl
@[simp] theorem Fld.width_CAN_CTL_FDOE : (Fld.info .CAN_CTL_FDOE).width = 1 := id rfl
@[simp] theorem Fld.width_CAN_CTL_XLOE : (Fld.info .CAN_CTL_XLOE).width = 1 := id rfl
@[simp] theorem Fld.width_CAN_CTL_TMS : (Fld.info .CAN_CTL_TMS).width = 1 := id rfl
@[simp] theorem Fld.width_CAN_CTL_LISTEN : (Fld.info .CAN_CTL_LISTEN).width = 1 := id rfl
@[simp] theorem Fld.width_CAN_CTL_LOOP : (Fld.info .CAN_CTL_LOOP).width = 1 := id rfl
@[simp] theorem Fld.width_CAN_CTL_TERM : (Fld.info .CAN_CTL_TERM).width = 1 := id rfl
@[simp] theorem Fld.width_CAN_CTL_RECOVER : (Fld.info .CAN_CTL_RECOVER).width = 1 := id rfl
@[simp] theorem Fld.width_CAN_STAT_STATE : (Fld.info .CAN_STAT_STATE).width = 3 := id rfl
@[simp] theorem Fld.width_CAN_STAT_EWARN : (Fld.info .CAN_STAT_EWARN).width = 1 := id rfl
@[simp] theorem Fld.width_CAN_STAT_PASSEVT : (Fld.info .CAN_STAT_PASSEVT).width = 1 := id rfl
@[simp] theorem Fld.width_CAN_STAT_BOEVT : (Fld.info .CAN_STAT_BOEVT).width = 1 := id rfl
@[simp] theorem Fld.width_CAN_STAT_STRANDED : (Fld.info .CAN_STAT_STRANDED).width = 1 := id rfl
@[simp] theorem Fld.width_CAN_STAT_REFUSED : (Fld.info .CAN_STAT_REFUSED).width = 1 := id rfl
@[simp] theorem Fld.width_CAN_STAT_PXE : (Fld.info .CAN_STAT_PXE).width = 1 := id rfl
@[simp] theorem Fld.width_CAN_STAT_TDCERR : (Fld.info .CAN_STAT_TDCERR).width = 1 := id rfl
@[simp] theorem Fld.width_CAN_STAT_RINGOVF : (Fld.info .CAN_STAT_RINGOVF).width = 1 := id rfl
@[simp] theorem Fld.width_CAN_STAT_STAGEOVF : (Fld.info .CAN_STAT_STAGEOVF).width = 1 := id rfl
@[simp] theorem Fld.width_CAN_STAT_DONEFULL : (Fld.info .CAN_STAT_DONEFULL).width = 1 := id rfl
@[simp] theorem Fld.width_CAN_STAT_NOREL : (Fld.info .CAN_STAT_NOREL).width = 1 := id rfl
@[simp] theorem Fld.width_CAN_STAT_DONEEVT : (Fld.info .CAN_STAT_DONEEVT).width = 1 := id rfl
@[simp] theorem Fld.width_CAN_STAT_RXEVT : (Fld.info .CAN_STAT_RXEVT).width = 1 := id rfl
@[simp] theorem Fld.width_CAN_STAT_CFGERR : (Fld.info .CAN_STAT_CFGERR).width = 4 := id rfl
@[simp] theorem Fld.width_CAN_ECNT_TEC : (Fld.info .CAN_ECNT_TEC).width = 9 := id rfl
@[simp] theorem Fld.width_CAN_ECNT_REC : (Fld.info .CAN_ECNT_REC).width = 8 := id rfl
@[simp] theorem Fld.width_CAN_NBT_NBRP : (Fld.info .CAN_NBT_NBRP).width = 6 := id rfl
@[simp] theorem Fld.width_CAN_NBT_NTSEG1 : (Fld.info .CAN_NBT_NTSEG1).width = 9 := id rfl
@[simp] theorem Fld.width_CAN_NBT_NTSEG2 : (Fld.info .CAN_NBT_NTSEG2).width = 7 := id rfl
@[simp] theorem Fld.width_CAN_NBT_NSJW : (Fld.info .CAN_NBT_NSJW).width = 7 := id rfl
@[simp] theorem Fld.width_CAN_DBT_DBRP : (Fld.info .CAN_DBT_DBRP).width = 6 := id rfl
@[simp] theorem Fld.width_CAN_DBT_DTSEG1 : (Fld.info .CAN_DBT_DTSEG1).width = 5 := id rfl
@[simp] theorem Fld.width_CAN_DBT_DTSEG2 : (Fld.info .CAN_DBT_DTSEG2).width = 5 := id rfl
@[simp] theorem Fld.width_CAN_DBT_DSJW : (Fld.info .CAN_DBT_DSJW).width = 5 := id rfl
@[simp] theorem Fld.width_CAN_XBT_DBRP : (Fld.info .CAN_XBT_DBRP).width = 6 := id rfl
@[simp] theorem Fld.width_CAN_XBT_DTSEG1 : (Fld.info .CAN_XBT_DTSEG1).width = 5 := id rfl
@[simp] theorem Fld.width_CAN_XBT_DTSEG2 : (Fld.info .CAN_XBT_DTSEG2).width = 5 := id rfl
@[simp] theorem Fld.width_CAN_XBT_DSJW : (Fld.info .CAN_XBT_DSJW).width = 5 := id rfl
@[simp] theorem Fld.width_CAN_TDCF_TDCE : (Fld.info .CAN_TDCF_TDCE).width = 1 := id rfl
@[simp] theorem Fld.width_CAN_TDCF_TDCO : (Fld.info .CAN_TDCF_TDCO).width = 7 := id rfl
@[simp] theorem Fld.width_CAN_TDCF_TDCF : (Fld.info .CAN_TDCF_TDCF).width = 7 := id rfl
@[simp] theorem Fld.width_CAN_TDCF_TDCV : (Fld.info .CAN_TDCF_TDCV).width = 7 := id rfl
@[simp] theorem Fld.width_CAN_TDCX_TDCE : (Fld.info .CAN_TDCX_TDCE).width = 1 := id rfl
@[simp] theorem Fld.width_CAN_TDCX_TDCO : (Fld.info .CAN_TDCX_TDCO).width = 7 := id rfl
@[simp] theorem Fld.width_CAN_TDCX_TDCF : (Fld.info .CAN_TDCX_TDCF).width = 7 := id rfl
@[simp] theorem Fld.width_CAN_TDCX_TDCV : (Fld.info .CAN_TDCX_TDCV).width = 7 := id rfl
@[simp] theorem Fld.width_CAN_PWM_PWMS : (Fld.info .CAN_PWM_PWMS).width = 6 := id rfl
@[simp] theorem Fld.width_CAN_PWM_PWML : (Fld.info .CAN_PWM_PWML).width = 6 := id rfl
@[simp] theorem Fld.width_CAN_PWM_PWMO : (Fld.info .CAN_PWM_PWMO).width = 6 := id rfl
@[simp] theorem Fld.width_CAN_CTRLCFG_CTRL : (Fld.info .CAN_CTRLCFG_CTRL).width = 1 := id rfl
@[simp] theorem Fld.width_CAN_CTRLCFG_NODE : (Fld.info .CAN_CTRLCFG_NODE).width = 7 := id rfl
@[simp] theorem Fld.width_CAN_CTRLCFG_LEVEL : (Fld.info .CAN_CTRLCFG_LEVEL).width = 3 := id rfl
@[simp] theorem Fld.width_CAN_TXPOOL_PSZ : (Fld.info .CAN_TXPOOL_PSZ).width = 3 := id rfl
@[simp] theorem Fld.width_CAN_TXPOOL_NTX : (Fld.info .CAN_TXPOOL_NTX).width = 8 := id rfl
@[simp] theorem Fld.width_CAN_TXQ_PUSH_LEVEL : (Fld.info .CAN_TXQ_PUSH_LEVEL).width = 3 := id rfl
@[simp] theorem Fld.width_CAN_TXQ_RESULT_CODE : (Fld.info .CAN_TXQ_RESULT_CODE).width = 4 := id rfl
@[simp] theorem Fld.width_CAN_TXQ_RESULT_BUSY : (Fld.info .CAN_TXQ_RESULT_BUSY).width = 1 := id rfl
@[simp] theorem Fld.width_CAN_TXQ_CMD_OP : (Fld.info .CAN_TXQ_CMD_OP).width = 3 := id rfl
@[simp] theorem Fld.width_CAN_TXQ_CMD_LEVEL : (Fld.info .CAN_TXQ_CMD_LEVEL).width = 3 := id rfl
@[simp] theorem Fld.width_CAN_TXQ_CMD_DEST : (Fld.info .CAN_TXQ_CMD_DEST).width = 4 := id rfl
@[simp] theorem Fld.width_CAN_TXQ_CMD_DLEVEL : (Fld.info .CAN_TXQ_CMD_DLEVEL).width = 3 := id rfl
@[simp] theorem Fld.width_CAN_TXQ_CMDRES_CODE : (Fld.info .CAN_TXQ_CMDRES_CODE).width = 4 := id rfl
@[simp] theorem Fld.width_CAN_TXQ_CMDRES_BUSY : (Fld.info .CAN_TXQ_CMDRES_BUSY).width = 1 := id rfl
@[simp] theorem Fld.width_CAN_TXQ_CMDRES_COUNT : (Fld.info .CAN_TXQ_CMDRES_COUNT).width = 8 := id rfl
@[simp] theorem Fld.width_CAN_TXQ_LVL_COUNT : (Fld.info .CAN_TXQ_LVL_COUNT).width = 8 := id rfl
@[simp] theorem Fld.width_CAN_TXQ_LVL_HELD : (Fld.info .CAN_TXQ_LVL_HELD).width = 1 := id rfl
@[simp] theorem Fld.width_CAN_TXQ_LVL_STRANDED : (Fld.info .CAN_TXQ_LVL_STRANDED).width = 1 := id rfl
@[simp] theorem Fld.width_CAN_TXQ_LVL_ACTIVE : (Fld.info .CAN_TXQ_LVL_ACTIVE).width = 1 := id rfl
@[simp] theorem Fld.width_CAN_TXDONE_WR : (Fld.info .CAN_TXDONE_WR).width = 6 := id rfl
@[simp] theorem Fld.width_CAN_TXDONE_RD : (Fld.info .CAN_TXDONE_RD).width = 6 := id rfl
@[simp] theorem Fld.width_CAN_RINGCFG_PSZ : (Fld.info .CAN_RINGCFG_PSZ).width = 3 := id rfl
@[simp] theorem Fld.width_CAN_RINGCFG_WORLD : (Fld.info .CAN_RINGCFG_WORLD).width = 2 := id rfl
@[simp] theorem Fld.width_CAN_RING_WR : (Fld.info .CAN_RING_WR).width = 8 := id rfl
@[simp] theorem Fld.width_CAN_RING_RD : (Fld.info .CAN_RING_RD).width = 8 := id rfl
@[simp] theorem Fld.width_CAN_LEC_CODE : (Fld.info .CAN_LEC_CODE).width = 3 := id rfl
@[simp] theorem Fld.width_CAN_LEC_DATA : (Fld.info .CAN_LEC_DATA).width = 1 := id rfl
@[simp] theorem Fld.width_CAN_CNT_RX : (Fld.info .CAN_CNT_RX).width = 32 := id rfl
@[simp] theorem Fld.width_CAN_CNT_TX : (Fld.info .CAN_CNT_TX).width = 32 := id rfl
@[simp] theorem Fld.width_CAN_CNT_ERR : (Fld.info .CAN_CNT_ERR).width = 32 := id rfl
@[simp] theorem Fld.width_CAN_RING_OVF : (Fld.info .CAN_RING_OVF).width = 32 := id rfl
@[simp] theorem Fld.width_CAN_STAGE_OVF : (Fld.info .CAN_STAGE_OVF).width = 32 := id rfl
@[simp] theorem Fld.width_WE_CTL_EN : (Fld.info .WE_CTL_EN).width = 1 := id rfl
@[simp] theorem Fld.width_WE_CTL_MISS : (Fld.info .WE_CTL_MISS).width = 1 := id rfl
@[simp] theorem Fld.width_WE_STAT_REFUSED : (Fld.info .WE_STAT_REFUSED).width = 1 := id rfl
@[simp] theorem Fld.width_WE_STAT_FWDDROP : (Fld.info .WE_STAT_FWDDROP).width = 1 := id rfl
@[simp] theorem Fld.width_WE_STAT_REVOKED : (Fld.info .WE_STAT_REVOKED).width = 1 := id rfl
@[simp] theorem Fld.width_WE_SEGMAP : (Fld.info .WE_SEGMAP).width = 32 := id rfl
@[simp] theorem Fld.width_WE_GEN : (Fld.info .WE_GEN).width = 24 := id rfl
@[simp] theorem Fld.width_WE_DRAIN_GEN : (Fld.info .WE_DRAIN_GEN).width = 24 := id rfl
@[simp] theorem Fld.width_WE_DRAIN_DONE : (Fld.info .WE_DRAIN_DONE).width = 1 := id rfl
@[simp] theorem Fld.width_WE_STAGE : (Fld.info .WE_STAGE).width = 32 := id rfl
@[simp] theorem Fld.width_WE_ENT_CMD_INDEX : (Fld.info .WE_ENT_CMD_INDEX).width = 12 := id rfl
@[simp] theorem Fld.width_WE_ENT_CMD_OP : (Fld.info .WE_ENT_CMD_OP).width = 2 := id rfl
@[simp] theorem Fld.width_WE_ENT_CMD_TBL : (Fld.info .WE_ENT_CMD_TBL).width = 1 := id rfl
@[simp] theorem Fld.width_WE_ENT_RESULT_CODE : (Fld.info .WE_ENT_RESULT_CODE).width = 4 := id rfl
@[simp] theorem Fld.width_WE_ENT_RDIDX_INDEX : (Fld.info .WE_ENT_RDIDX_INDEX).width = 12 := id rfl
@[simp] theorem Fld.width_WE_ENT_RDIDX_TBL : (Fld.info .WE_ENT_RDIDX_TBL).width = 1 := id rfl
@[simp] theorem Fld.width_WE_ENT_RD : (Fld.info .WE_ENT_RD).width = 32 := id rfl
@[simp] theorem Fld.width_WE_CNT_MISS : (Fld.info .WE_CNT_MISS).width = 32 := id rfl
@[simp] theorem Fld.width_WE_CNT_FWDDROP : (Fld.info .WE_CNT_FWDDROP).width = 32 := id rfl
@[simp] theorem Fld.width_WE_CNT_ASLEEP : (Fld.info .WE_CNT_ASLEEP).width = 32 := id rfl
@[simp] theorem Fld.width_WE_CNT_REVOKED : (Fld.info .WE_CNT_REVOKED).width = 32 := id rfl
@[simp] theorem Fld.width_WE_CNT_XLETH : (Fld.info .WE_CNT_XLETH).width = 32 := id rfl
@[simp] theorem Fld.width_WE_CNT_ETHDROP : (Fld.info .WE_CNT_ETHDROP).width = 32 := id rfl
@[simp] theorem Fld.width_WE_CNT_ETHSEQ : (Fld.info .WE_CNT_ETHSEQ).width = 32 := id rfl
@[simp] theorem Fld.width_WE_SLP_ID_ID : (Fld.info .WE_SLP_ID_ID).width = 11 := id rfl
@[simp] theorem Fld.width_WE_SLP_ID_VOTEBASE : (Fld.info .WE_SLP_ID_VOTEBASE).width = 11 := id rfl
@[simp] theorem Fld.width_WE_SLP_ID_LEVEL : (Fld.info .WE_SLP_ID_LEVEL).width = 3 := id rfl
@[simp] theorem Fld.width_WE_SLP_CTL_REQ : (Fld.info .WE_SLP_CTL_REQ).width = 1 := id rfl
@[simp] theorem Fld.width_WE_SLP_CTL_WAKE : (Fld.info .WE_SLP_CTL_WAKE).width = 1 := id rfl
@[simp] theorem Fld.width_WE_SLP_STAT_STATE : (Fld.info .WE_SLP_STAT_STATE).width = 3 := id rfl
@[simp] theorem Fld.width_WE_SLP_STAT_ROUND : (Fld.info .WE_SLP_STAT_ROUND).width = 8 := id rfl
@[simp] theorem Fld.width_WE_SLP_STAT_RESULT : (Fld.info .WE_SLP_STAT_RESULT).width = 3 := id rfl
@[simp] theorem Fld.width_WE_SLP_STAT_WAKESRC : (Fld.info .WE_SLP_STAT_WAKESRC).width = 4 := id rfl
@[simp] theorem Fld.width_WE_SLP_TIMES_VOTEW : (Fld.info .WE_SLP_TIMES_VOTEW).width = 10 := id rfl
@[simp] theorem Fld.width_WE_SLP_TIMES_COMMITW : (Fld.info .WE_SLP_TIMES_COMMITW).width = 10 := id rfl
@[simp] theorem Fld.width_WE_SLP_TIMES_RETRY : (Fld.info .WE_SLP_TIMES_RETRY).width = 8 := id rfl
@[simp] theorem Fld.width_WE_HOLDCNT : (Fld.info .WE_HOLDCNT).width = 16 := id rfl
@[simp] theorem Fld.width_XCVR_VOTERS : (Fld.info .XCVR_VOTERS).width = 32 := id rfl
@[simp] theorem Fld.width_WE_HOLD : (Fld.info .WE_HOLD).width = 32 := id rfl
@[simp] theorem Fld.width_WE_SILENT : (Fld.info .WE_SILENT).width = 32 := id rfl
@[simp] theorem Fld.width_XCVR_CTL_WAKEEN : (Fld.info .XCVR_CTL_WAKEEN).width = 1 := id rfl
@[simp] theorem Fld.width_XCVR_STAT_MODE : (Fld.info .XCVR_STAT_MODE).width = 2 := id rfl
@[simp] theorem Fld.width_XCVR_STAT_INH : (Fld.info .XCVR_STAT_INH).width = 1 := id rfl
@[simp] theorem Fld.width_XCVR_STAT_WUP : (Fld.info .XCVR_STAT_WUP).width = 1 := id rfl
@[simp] theorem Fld.width_XCVR_STAT_FAULT : (Fld.info .XCVR_STAT_FAULT).width = 1 := id rfl
@[simp] theorem Fld.width_XCVR_WAKEMAP : (Fld.info .XCVR_WAKEMAP).width = 8 := id rfl
@[simp] theorem Fld.width_XCVR_WAKELOG_SRC : (Fld.info .XCVR_WAKELOG_SRC).width = 4 := id rfl
@[simp] theorem Fld.width_XCVR_WAKELOG_INDEX : (Fld.info .XCVR_WAKELOG_INDEX).width = 4 := id rfl
@[simp] theorem Fld.width_XCVR_HOLD_RUN : (Fld.info .XCVR_HOLD_RUN).width = 1 := id rfl
@[simp] theorem Fld.width_CF_CTL_EN : (Fld.info .CF_CTL_EN).width = 1 := id rfl
@[simp] theorem Fld.width_CF_STAT_REFUSED : (Fld.info .CF_STAT_REFUSED).width = 1 := id rfl
@[simp] theorem Fld.width_CF_STAT_CLAIM : (Fld.info .CF_STAT_CLAIM).width = 1 := id rfl
@[simp] theorem Fld.width_CF_STAT_STOMP : (Fld.info .CF_STAT_STOMP).width = 1 := id rfl
@[simp] theorem Fld.width_CF_GEN : (Fld.info .CF_GEN).width = 24 := id rfl
@[simp] theorem Fld.width_CF_DRAIN_GEN : (Fld.info .CF_DRAIN_GEN).width = 24 := id rfl
@[simp] theorem Fld.width_CF_DRAIN_DONE : (Fld.info .CF_DRAIN_DONE).width = 1 := id rfl
@[simp] theorem Fld.width_CF_OWNMAC_LO : (Fld.info .CF_OWNMAC_LO).width = 32 := id rfl
@[simp] theorem Fld.width_CF_OWNMAC_HI : (Fld.info .CF_OWNMAC_HI).width = 16 := id rfl
@[simp] theorem Fld.width_CF_BUF_FREE : (Fld.info .CF_BUF_FREE).width = 17 := id rfl
@[simp] theorem Fld.width_CF_CNT_LEARNFULL : (Fld.info .CF_CNT_LEARNFULL).width = 32 := id rfl
@[simp] theorem Fld.width_CF_CNT_STOMP : (Fld.info .CF_CNT_STOMP).width = 32 := id rfl
@[simp] theorem Fld.width_CF_STAGE : (Fld.info .CF_STAGE).width = 32 := id rfl
@[simp] theorem Fld.width_CF_TBL_CMD_INDEX : (Fld.info .CF_TBL_CMD_INDEX).width = 13 := id rfl
@[simp] theorem Fld.width_CF_TBL_CMD_OP : (Fld.info .CF_TBL_CMD_OP).width = 2 := id rfl
@[simp] theorem Fld.width_CF_TBL_CMD_TBL : (Fld.info .CF_TBL_CMD_TBL).width = 2 := id rfl
@[simp] theorem Fld.width_CF_TBL_RESULT_CODE : (Fld.info .CF_TBL_RESULT_CODE).width = 4 := id rfl
@[simp] theorem Fld.width_CF_PTP_CTL_SYNC : (Fld.info .CF_PTP_CTL_SYNC).width = 1 := id rfl
@[simp] theorem Fld.width_CF_PTP_CTL_SET : (Fld.info .CF_PTP_CTL_SET).width = 1 := id rfl
@[simp] theorem Fld.width_CF_PTP_CTL_HOLD : (Fld.info .CF_PTP_CTL_HOLD).width = 8 := id rfl
@[simp] theorem Fld.width_CF_PTP_CTL_WORLD : (Fld.info .CF_PTP_CTL_WORLD).width = 2 := id rfl
@[simp] theorem Fld.width_CF_PTP_SEC_LO : (Fld.info .CF_PTP_SEC_LO).width = 32 := id rfl
@[simp] theorem Fld.width_CF_PTP_SEC_HI : (Fld.info .CF_PTP_SEC_HI).width = 16 := id rfl
@[simp] theorem Fld.width_CF_PTP_NS : (Fld.info .CF_PTP_NS).width = 30 := id rfl
@[simp] theorem Fld.width_CF_PTP_ADJ : (Fld.info .CF_PTP_ADJ).width = 32 := id rfl
@[simp] theorem Fld.width_CF_PTP_STEP : (Fld.info .CF_PTP_STEP).width = 32 := id rfl
@[simp] theorem Fld.width_HQ_BASE_HI : (Fld.info .HQ_BASE_HI).width = 8 := id rfl
@[simp] theorem Fld.width_HQ_CFG_SIZE : (Fld.info .HQ_CFG_SIZE).width = 4 := id rfl
@[simp] theorem Fld.width_HQ_CFG_WORLD : (Fld.info .HQ_CFG_WORLD).width = 2 := id rfl
@[simp] theorem Fld.width_HQ_CFG_EN : (Fld.info .HQ_CFG_EN).width = 1 := id rfl
@[simp] theorem Fld.width_HQ_HEAD : (Fld.info .HQ_HEAD).width = 12 := id rfl
@[simp] theorem Fld.width_HQ_TAIL : (Fld.info .HQ_TAIL).width = 12 := id rfl
@[simp] theorem Fld.width_HQ_DROP : (Fld.info .HQ_DROP).width = 32 := id rfl
@[simp] theorem Fld.width_CFP_CTL_EN : (Fld.info .CFP_CTL_EN).width = 1 := id rfl
@[simp] theorem Fld.width_CFP_CTL_SPEED : (Fld.info .CFP_CTL_SPEED).width = 1 := id rfl
@[simp] theorem Fld.width_CFP_CTL_ROLE : (Fld.info .CFP_CTL_ROLE).width = 1 := id rfl
@[simp] theorem Fld.width_CFP_CTL_LEARN : (Fld.info .CFP_CTL_LEARN).width = 1 := id rfl
@[simp] theorem Fld.width_CFP_CTL_HQDEF : (Fld.info .CFP_CTL_HQDEF).width = 4 := id rfl
@[simp] theorem Fld.width_CFP_STAT_LINK : (Fld.info .CFP_STAT_LINK).width = 1 := id rfl
@[simp] theorem Fld.width_CFP_STAT_LINKEVT : (Fld.info .CFP_STAT_LINKEVT).width = 1 := id rfl
@[simp] theorem Fld.width_CFP_VLAN_PVID : (Fld.info .CFP_VLAN_PVID).width = 12 := id rfl
@[simp] theorem Fld.width_CFP_VLAN_DPCP : (Fld.info .CFP_VLAN_DPCP).width = 3 := id rfl
@[simp] theorem Fld.width_CFP_VLAN_ACCEPT : (Fld.info .CFP_VLAN_ACCEPT).width = 2 := id rfl
@[simp] theorem Fld.width_CFP_VLAN_IFILT : (Fld.info .CFP_VLAN_IFILT).width = 1 := id rfl
@[simp] theorem Fld.width_CFP_MAXLEN : (Fld.info .CFP_MAXLEN).width = 14 := id rfl
@[simp] theorem Fld.width_CFP_QMAP : (Fld.info .CFP_QMAP).width = 24 := id rfl
@[simp] theorem Fld.width_CFP_POL_CIR : (Fld.info .CFP_POL_CIR).width = 14 := id rfl
@[simp] theorem Fld.width_CFP_POL_CBS : (Fld.info .CFP_POL_CBS).width = 21 := id rfl
@[simp] theorem Fld.width_CFP_STORM_BC : (Fld.info .CFP_STORM_BC).width = 10 := id rfl
@[simp] theorem Fld.width_CFP_STORM_UU : (Fld.info .CFP_STORM_UU).width = 10 := id rfl
@[simp] theorem Fld.width_CFP_STORM_MC : (Fld.info .CFP_STORM_MC).width = 10 := id rfl
@[simp] theorem Fld.width_CFP_SAMPLE_N : (Fld.info .CFP_SAMPLE_N).width = 16 := id rfl
@[simp] theorem Fld.width_CFP_SAMPLE_HQ : (Fld.info .CFP_SAMPLE_HQ).width = 4 := id rfl
@[simp] theorem Fld.width_CFP_PTPCOMP : (Fld.info .CFP_PTPCOMP).width = 16 := id rfl
@[simp] theorem Fld.width_CFP_QLIM_MIN : (Fld.info .CFP_QLIM_MIN).width = 16 := id rfl
@[simp] theorem Fld.width_CFP_QLIM_MAX : (Fld.info .CFP_QLIM_MAX).width = 16 := id rfl
@[simp] theorem Fld.width_CFP_CNT_RXOK : (Fld.info .CFP_CNT_RXOK).width = 32 := id rfl
@[simp] theorem Fld.width_CFP_CNT_RXFCS : (Fld.info .CFP_CNT_RXFCS).width = 32 := id rfl
@[simp] theorem Fld.width_CFP_CNT_RXLEN : (Fld.info .CFP_CNT_RXLEN).width = 32 := id rfl
@[simp] theorem Fld.width_CFP_CNT_RXDROP : (Fld.info .CFP_CNT_RXDROP).width = 32 := id rfl
@[simp] theorem Fld.width_CFP_CNT_POLICED : (Fld.info .CFP_CNT_POLICED).width = 32 := id rfl
@[simp] theorem Fld.width_CFP_CNT_STORM : (Fld.info .CFP_CNT_STORM).width = 32 := id rfl
@[simp] theorem Fld.width_CFP_CNT_BUFDROP : (Fld.info .CFP_CNT_BUFDROP).width = 32 := id rfl
@[simp] theorem Fld.width_CFP_CNT_TXOK : (Fld.info .CFP_CNT_TXOK).width = 32 := id rfl
@[simp] theorem Fld.width_CFP_CNT_FLUSH : (Fld.info .CFP_CNT_FLUSH).width = 32 := id rfl
@[simp] theorem Fld.width_CFP_CNT_STBY : (Fld.info .CFP_CNT_STBY).width = 32 := id rfl
@[simp] theorem Fld.width_CFP_CNT_REVOKED : (Fld.info .CFP_CNT_REVOKED).width = 32 := id rfl
@[simp] theorem Fld.width_CFP_CNT_SAMPLED : (Fld.info .CFP_CNT_SAMPLED).width = 32 := id rfl
@[simp] theorem Fld.width_BR_CTL_MODE : (Fld.info .BR_CTL_MODE).width = 1 := id rfl
@[simp] theorem Fld.width_BR_CTL_TEST : (Fld.info .BR_CTL_TEST).width = 1 := id rfl
@[simp] theorem Fld.width_BR_CTL_AUTOSYNC : (Fld.info .BR_CTL_AUTOSYNC).width = 1 := id rfl
@[simp] theorem Fld.width_BR_CTL_CMPWIN : (Fld.info .BR_CTL_CMPWIN).width = 8 := id rfl
@[simp] theorem Fld.width_BR_STAT_STATE : (Fld.info .BR_STAT_STATE).width = 4 := id rfl
@[simp] theorem Fld.width_BR_STAT_UNIT : (Fld.info .BR_STAT_UNIT).width = 1 := id rfl
@[simp] theorem Fld.width_BR_STAT_SEATED : (Fld.info .BR_STAT_SEATED).width = 1 := id rfl
@[simp] theorem Fld.width_BR_STAT_CLAIM : (Fld.info .BR_STAT_CLAIM).width = 1 := id rfl
@[simp] theorem Fld.width_BR_STAT_PCLAIM : (Fld.info .BR_STAT_PCLAIM).width = 1 := id rfl
@[simp] theorem Fld.width_BR_STAT_P9OK : (Fld.info .BR_STAT_P9OK).width = 1 := id rfl
@[simp] theorem Fld.width_BR_STAT_HBOK : (Fld.info .BR_STAT_HBOK).width = 1 := id rfl
@[simp] theorem Fld.width_BR_STAT_CLAIMFAULT : (Fld.info .BR_STAT_CLAIMFAULT).width = 1 := id rfl
@[simp] theorem Fld.width_BR_STAT_DIVERGE : (Fld.info .BR_STAT_DIVERGE).width = 1 := id rfl
@[simp] theorem Fld.width_BR_STAT_FMTDIFF : (Fld.info .BR_STAT_FMTDIFF).width = 1 := id rfl
@[simp] theorem Fld.width_BR_STAT_JFULL : (Fld.info .BR_STAT_JFULL).width = 1 := id rfl
@[simp] theorem Fld.width_BR_STAT_TAKEOVER : (Fld.info .BR_STAT_TAKEOVER).width = 1 := id rfl
@[simp] theorem Fld.width_BR_STAT_INDIFF : (Fld.info .BR_STAT_INDIFF).width = 1 := id rfl
@[simp] theorem Fld.width_BR_STAT_REFUSED : (Fld.info .BR_STAT_REFUSED).width = 1 := id rfl
@[simp] theorem Fld.width_BR_STAT_FENCING : (Fld.info .BR_STAT_FENCING).width = 1 := id rfl
@[simp] theorem Fld.width_BR_STAT_SENSEDIFF : (Fld.info .BR_STAT_SENSEDIFF).width = 1 := id rfl
@[simp] theorem Fld.width_BR_STAT_ISOLATED : (Fld.info .BR_STAT_ISOLATED).width = 1 := id rfl
@[simp] theorem Fld.width_BR_STAT_LAG : (Fld.info .BR_STAT_LAG).width = 1 := id rfl
@[simp] theorem Fld.width_BR_STAT_LOCKDIFF : (Fld.info .BR_STAT_LOCKDIFF).width = 1 := id rfl
@[simp] theorem Fld.width_BR_CMD_SYNC : (Fld.info .BR_CMD_SYNC).width = 1 := id rfl
@[simp] theorem Fld.width_BR_CMD_SWAP : (Fld.info .BR_CMD_SWAP).width = 1 := id rfl
@[simp] theorem Fld.width_BR_CMD_RELEASE : (Fld.info .BR_CMD_RELEASE).width = 1 := id rfl
@[simp] theorem Fld.width_BR_CMD_ADOPT : (Fld.info .BR_CMD_ADOPT).width = 1 := id rfl
@[simp] theorem Fld.width_BR_KEEP : (Fld.info .BR_KEEP).width = 32 := id rfl
@[simp] theorem Fld.width_BR_FENCE_FENCECH : (Fld.info .BR_FENCE_FENCECH).width = 16 := id rfl
@[simp] theorem Fld.width_BR_FENCE_FENCEID : (Fld.info .BR_FENCE_FENCEID).width = 11 := id rfl
@[simp] theorem Fld.width_BR_EPOCH : (Fld.info .BR_EPOCH).width = 32 := id rfl
@[simp] theorem Fld.width_BR_CONFGEN : (Fld.info .BR_CONFGEN).width = 32 := id rfl
@[simp] theorem Fld.width_BR_CONFSUM : (Fld.info .BR_CONFSUM).width = 32 := id rfl
@[simp] theorem Fld.width_BR_MIRFMT : (Fld.info .BR_MIRFMT).width = 8 := id rfl
@[simp] theorem Fld.width_BR_PAIRMAC_LO : (Fld.info .BR_PAIRMAC_LO).width = 32 := id rfl
@[simp] theorem Fld.width_BR_PAIRMAC_HI : (Fld.info .BR_PAIRMAC_HI).width = 16 := id rfl
@[simp] theorem Fld.width_BR_HEALTH : (Fld.info .BR_HEALTH).width = 32 := id rfl
@[simp] theorem Fld.width_BR_PEER : (Fld.info .BR_PEER).width = 8 := id rfl
@[simp] theorem Fld.width_BR_PEER_EPOCH : (Fld.info .BR_PEER_EPOCH).width = 32 := id rfl
@[simp] theorem Fld.width_BR_PEER_CONFGEN : (Fld.info .BR_PEER_CONFGEN).width = 32 := id rfl
@[simp] theorem Fld.width_BR_PEER_HEALTH : (Fld.info .BR_PEER_HEALTH).width = 32 := id rfl
@[simp] theorem Fld.width_BR_SEQ_LO : (Fld.info .BR_SEQ_LO).width = 32 := id rfl
@[simp] theorem Fld.width_BR_SEQ_HI : (Fld.info .BR_SEQ_HI).width = 16 := id rfl
@[simp] theorem Fld.width_BR_JOPEN_LO : (Fld.info .BR_JOPEN_LO).width = 32 := id rfl
@[simp] theorem Fld.width_BR_JOPEN_HI : (Fld.info .BR_JOPEN_HI).width = 16 := id rfl
@[simp] theorem Fld.width_BR_JUSED : (Fld.info .BR_JUSED).width = 24 := id rfl
@[simp] theorem Fld.width_BR_LAG : (Fld.info .BR_LAG).width = 16 := id rfl
@[simp] theorem Fld.width_BR_TKO_LO : (Fld.info .BR_TKO_LO).width = 32 := id rfl
@[simp] theorem Fld.width_BR_TKO_HI : (Fld.info .BR_TKO_HI).width = 32 := id rfl
@[simp] theorem Fld.width_BR_TKO_CAUSE : (Fld.info .BR_TKO_CAUSE).width = 4 := id rfl
@[simp] theorem Fld.width_BR_CNT_P9MISS : (Fld.info .BR_CNT_P9MISS).width = 32 := id rfl
@[simp] theorem Fld.width_BR_CNT_HBMISS : (Fld.info .BR_CNT_HBMISS).width = 32 := id rfl
@[simp] theorem Fld.width_BR_CNT_REPLAY : (Fld.info .BR_CNT_REPLAY).width = 32 := id rfl
@[simp] theorem Fld.width_BR_CNT_BADREC : (Fld.info .BR_CNT_BADREC).width = 32 := id rfl
@[simp] theorem Fld.width_BR_CNT_INDIFF : (Fld.info .BR_CNT_INDIFF).width = 32 := id rfl
@[simp] theorem Fld.width_BR_CNT_DIVERGE : (Fld.info .BR_CNT_DIVERGE).width = 32 := id rfl
@[simp] theorem Fld.width_BR_CNT_TAKEOVER : (Fld.info .BR_CNT_TAKEOVER).width = 32 := id rfl
@[simp] theorem Fld.width_BR_STATE_ADDR_HI : (Fld.info .BR_STATE_ADDR_HI).width = 8 := id rfl
@[simp] theorem Fld.width_BR_STATE_LEN : (Fld.info .BR_STATE_LEN).width = 28 := id rfl
@[simp] theorem Fld.width_BR_STATE_CTL_READY : (Fld.info .BR_STATE_CTL_READY).width = 1 := id rfl
@[simp] theorem Fld.width_BR_STATE_CTL_DONE : (Fld.info .BR_STATE_CTL_DONE).width = 1 := id rfl
@[simp] theorem Fld.width_SYS_PWR_CMD_REQ : (Fld.info .SYS_PWR_CMD_REQ).width = 3 := id rfl
@[simp] theorem Fld.width_SYS_PWR_STAT_STATE : (Fld.info .SYS_PWR_STAT_STATE).width = 3 := id rfl
@[simp] theorem Fld.width_SYS_PWR_STAT_PENDING : (Fld.info .SYS_PWR_STAT_PENDING).width = 1 := id rfl
@[simp] theorem Fld.width_SYS_PWR_STAT_WHY : (Fld.info .SYS_PWR_STAT_WHY).width = 4 := id rfl
@[simp] theorem Fld.width_SYS_PWR_STAT_REFUSED : (Fld.info .SYS_PWR_STAT_REFUSED).width = 1 := id rfl
@[simp] theorem Fld.width_SYS_SLPTO : (Fld.info .SYS_SLPTO).width = 8 := id rfl
@[simp] theorem Fld.width_SYS_RST_FULL : (Fld.info .SYS_RST_FULL).width = 1 := id rfl
@[simp] theorem Fld.width_SYS_RSTCAUSE_CAUSE : (Fld.info .SYS_RSTCAUSE_CAUSE).width = 4 := id rfl
@[simp] theorem Fld.width_SYS_START_JTORN : (Fld.info .SYS_START_JTORN).width = 1 := id rfl
@[simp] theorem Fld.width_SYS_START_CTLBLK : (Fld.info .SYS_START_CTLBLK).width = 1 := id rfl
@[simp] theorem Fld.width_SYS_START_EETORN : (Fld.info .SYS_START_EETORN).width = 1 := id rfl
@[simp] theorem Fld.width_SYS_START_ACTREC : (Fld.info .SYS_START_ACTREC).width = 1 := id rfl
@[simp] theorem Fld.width_SYS_START_KEYLESS : (Fld.info .SYS_START_KEYLESS).width = 1 := id rfl
@[simp] theorem Fld.width_SYS_START_LATE : (Fld.info .SYS_START_LATE).width = 1 := id rfl
@[simp] theorem Fld.width_SYS_START_SERVED : (Fld.info .SYS_START_SERVED).width = 4 := id rfl
@[simp] theorem Fld.width_SYS_T_SAFE : (Fld.info .SYS_T_SAFE).width = 16 := id rfl
@[simp] theorem Fld.width_SYS_T_FULL : (Fld.info .SYS_T_FULL).width = 16 := id rfl
@[simp] theorem Fld.width_SYS_WAKE_CHECK : (Fld.info .SYS_WAKE_CHECK).width = 1 := id rfl
@[simp] theorem Fld.width_SYS_WAKE_RESTORE : (Fld.info .SYS_WAKE_RESTORE).width = 1 := id rfl
@[simp] theorem Fld.width_SYS_WAKE_RESULT : (Fld.info .SYS_WAKE_RESULT).width = 2 := id rfl
@[simp] theorem Fld.width_LS_CTL_SRCPAIR : (Fld.info .LS_CTL_SRCPAIR).width = 1 := id rfl
@[simp] theorem Fld.width_LS_STAT_ERR : (Fld.info .LS_STAT_ERR).width = 1 := id rfl
@[simp] theorem Fld.width_LS_STAT_CAUSE : (Fld.info .LS_STAT_CAUSE).width = 2 := id rfl
@[simp] theorem Fld.width_LS_STAT_DBGBRK : (Fld.info .LS_STAT_DBGBRK).width = 1 := id rfl
@[simp] theorem Fld.width_LS_STAT_STFAIL : (Fld.info .LS_STAT_STFAIL).width = 1 := id rfl
@[simp] theorem Fld.width_LS_STAT_REFUSED : (Fld.info .LS_STAT_REFUSED).width = 1 := id rfl
@[simp] theorem Fld.width_LS_STAT_FROZEN : (Fld.info .LS_STAT_FROZEN).width = 1 := id rfl
@[simp] theorem Fld.width_LS_STAT_RESTARTS : (Fld.info .LS_STAT_RESTARTS).width = 8 := id rfl
@[simp] theorem Fld.width_LS_CMD_RESTART : (Fld.info .LS_CMD_RESTART).width = 1 := id rfl
@[simp] theorem Fld.width_LS_CMD_SELFTEST : (Fld.info .LS_CMD_SELFTEST).width = 1 := id rfl
@[simp] theorem Fld.width_LS_PC : (Fld.info .LS_PC).width = 32 := id rfl
@[simp] theorem Fld.width_MEM_CE : (Fld.info .MEM_CE).width = 32 := id rfl
@[simp] theorem Fld.width_MEM_UE_ADDR_LO : (Fld.info .MEM_UE_ADDR_LO).width = 32 := id rfl
@[simp] theorem Fld.width_MEM_UE_ADDR_HI : (Fld.info .MEM_UE_ADDR_HI).width = 8 := id rfl
@[simp] theorem Fld.width_MEM_UE_INFO_MASTER : (Fld.info .MEM_UE_INFO_MASTER).width = 8 := id rfl
@[simp] theorem Fld.width_MEM_UE_INFO_MEM : (Fld.info .MEM_UE_INFO_MEM).width = 4 := id rfl
@[simp] theorem Fld.width_MEM_UE_INFO_EVT : (Fld.info .MEM_UE_INFO_EVT).width = 1 := id rfl
@[simp] theorem Fld.width_HW_STAT_READY : (Fld.info .HW_STAT_READY).width = 1 := id rfl
@[simp] theorem Fld.width_HW_STAT_KEYLESS : (Fld.info .HW_STAT_KEYLESS).width = 1 := id rfl
@[simp] theorem Fld.width_HW_STAT_PUFFAIL : (Fld.info .HW_STAT_PUFFAIL).width = 1 := id rfl
@[simp] theorem Fld.width_HW_STAT_MEASFAIL : (Fld.info .HW_STAT_MEASFAIL).width = 1 := id rfl
@[simp] theorem Fld.width_HW_STAT_TRNGFAIL : (Fld.info .HW_STAT_TRNGFAIL).width = 1 := id rfl
@[simp] theorem Fld.width_HW_STAT_LOSTBLK : (Fld.info .HW_STAT_LOSTBLK).width = 1 := id rfl
@[simp] theorem Fld.width_HW_STAT_REFUSED : (Fld.info .HW_STAT_REFUSED).width = 1 := id rfl
@[simp] theorem Fld.width_HW_STAT_RESTARTS : (Fld.info .HW_STAT_RESTARTS).width = 8 := id rfl
@[simp] theorem Fld.width_HW_CMD_RESTART : (Fld.info .HW_CMD_RESTART).width = 1 := id rfl
@[simp] theorem Fld.width_HW_USE : (Fld.info .HW_USE).width = 7 := id rfl
@[simp] theorem Fld.width_HW_DBG_NNID : (Fld.info .HW_DBG_NNID).width = 1 := id rfl
@[simp] theorem Fld.width_HW_DBG_NID : (Fld.info .HW_DBG_NID).width = 1 := id rfl
@[simp] theorem Fld.width_HW_DBG_SNID : (Fld.info .HW_DBG_SNID).width = 1 := id rfl
@[simp] theorem Fld.width_HW_DBG_SID : (Fld.info .HW_DBG_SID).width = 1 := id rfl
@[simp] theorem Fld.width_HW_DBG_XNID : (Fld.info .HW_DBG_XNID).width = 1 := id rfl
@[simp] theorem Fld.width_HW_DBG_XID : (Fld.info .HW_DBG_XID).width = 1 := id rfl
@[simp] theorem Fld.width_HW_REMASK : (Fld.info .HW_REMASK).width = 7 := id rfl
@[simp] theorem Fld.width_WA_SL : (Fld.info .WA_SL).width = 32 := id rfl
@[simp] theorem Fld.width_WA_IO : (Fld.info .WA_IO).width = 32 := id rfl
@[simp] theorem Fld.width_WA_CAN : (Fld.info .WA_CAN).width = 32 := id rfl
@[simp] theorem Fld.width_WA_PORT : (Fld.info .WA_PORT).width = 32 := id rfl
@[simp] theorem Fld.width_WA_MRIRQ : (Fld.info .WA_MRIRQ).width = 32 := id rfl
@[simp] theorem Fld.width_HW_MEASLOG : (Fld.info .HW_MEASLOG).width = 32 := id rfl
@[simp] theorem Fld.width_TP_CFG : (Fld.info .TP_CFG).width = 32 := id rfl
@[simp] theorem Fld.width_TP_STAT_LATCH : (Fld.info .TP_STAT_LATCH).width = 8 := id rfl
@[simp] theorem Fld.width_TP_STAT_LIVE : (Fld.info .TP_STAT_LIVE).width = 8 := id rfl
@[simp] theorem Fld.width_TP_STAT_ZEROISED : (Fld.info .TP_STAT_ZEROISED).width = 1 := id rfl
@[simp] theorem Fld.width_TP_CNT : (Fld.info .TP_CNT).width = 16 := id rfl
@[simp] theorem Fld.width_HW_RGN_BASE_HI : (Fld.info .HW_RGN_BASE_HI).width = 8 := id rfl
@[simp] theorem Fld.width_HW_RGN_SIZE : (Fld.info .HW_RGN_SIZE).width = 28 := id rfl
@[simp] theorem Fld.width_HW_RGN_PERM_N : (Fld.info .HW_RGN_PERM_N).width = 3 := id rfl
@[simp] theorem Fld.width_HW_RGN_PERM_S : (Fld.info .HW_RGN_PERM_S).width = 3 := id rfl
@[simp] theorem Fld.width_HW_RGN_PERM_VALID : (Fld.info .HW_RGN_PERM_VALID).width = 1 := id rfl
@[simp] theorem Fld.width_LK_SET : (Fld.info .LK_SET).width = 5 := id rfl
@[simp] theorem Fld.width_LK_STAT_LOCKS : (Fld.info .LK_STAT_LOCKS).width = 5 := id rfl
@[simp] theorem Fld.width_LK_STAT_RESTORE : (Fld.info .LK_STAT_RESTORE).width = 1 := id rfl
@[simp] theorem Fld.width_LK_STAT_REFUSED : (Fld.info .LK_STAT_REFUSED).width = 1 := id rfl
@[simp] theorem Fld.width_FY_STAT_UP : (Fld.info .FY_STAT_UP).width = 4 := id rfl
@[simp] theorem Fld.width_FY_STAT_REACH : (Fld.info .FY_STAT_REACH).width = 4 := id rfl
@[simp] theorem Fld.width_FY_STAT_ERR : (Fld.info .FY_STAT_ERR).width = 1 := id rfl
@[simp] theorem Fld.width_FY_LINK_STATE : (Fld.info .FY_LINK_STATE).width = 2 := id rfl
@[simp] theorem Fld.width_FY_LINK_CRCERR : (Fld.info .FY_LINK_CRCERR).width = 8 := id rfl
@[simp] theorem Fld.width_FY_LINK_RETRAIN : (Fld.info .FY_LINK_RETRAIN).width = 8 := id rfl
@[simp] theorem Fld.width_FY_POSTEN_PAIR0 : (Fld.info .FY_POSTEN_PAIR0).width = 1 := id rfl
@[simp] theorem Fld.width_FY_POSTEN_PAIR1 : (Fld.info .FY_POSTEN_PAIR1).width = 1 := id rfl
@[simp] theorem Fld.width_FY_POSTEN_HW : (Fld.info .FY_POSTEN_HW).width = 1 := id rfl
@[simp] theorem Fld.width_FY_RDTO : (Fld.info .FY_RDTO).width = 10 := id rfl
@[simp] theorem Fld.width_FY_ELOG_OVF : (Fld.info .FY_ELOG_OVF).width = 16 := id rfl
@[simp] theorem Fld.width_FY_ELOG_A_DIE : (Fld.info .FY_ELOG_A_DIE).width = 2 := id rfl
@[simp] theorem Fld.width_FY_ELOG_A_OFFSET : (Fld.info .FY_ELOG_A_OFFSET).width = 15 := id rfl
@[simp] theorem Fld.width_FY_ELOG_A_VALID : (Fld.info .FY_ELOG_A_VALID).width = 1 := id rfl
@[simp] theorem Fld.width_FY_ELOG_B_MASTER : (Fld.info .FY_ELOG_B_MASTER).width = 8 := id rfl
@[simp] theorem Fld.width_FY_ELOG_B_TAG : (Fld.info .FY_ELOG_B_TAG).width = 8 := id rfl
@[simp] theorem Fld.width_FY_ELOG_B_CODE : (Fld.info .FY_ELOG_B_CODE).width = 4 := id rfl
@[simp] theorem Fld.width_FY_ELOG_STAMP : (Fld.info .FY_ELOG_STAMP).width = 32 := id rfl
@[simp] theorem Fld.width_FG_SRC : (Fld.info .FG_SRC).width = 32 := id rfl
@[simp] theorem Fld.width_FG_MASK : (Fld.info .FG_MASK).width = 32 := id rfl
@[simp] theorem Fld.width_FG_ACT : (Fld.info .FG_ACT).width = 32 := id rfl
@[simp] theorem Fld.width_FG_CNT : (Fld.info .FG_CNT).width = 16 := id rfl
@[simp] theorem Fld.width_FG_CTL_EN : (Fld.info .FG_CTL_EN).width = 1 := id rfl
@[simp] theorem Fld.width_FG_STAT_REFUSED : (Fld.info .FG_STAT_REFUSED).width = 1 := id rfl
@[simp] theorem Fld.width_FG_STAT_FIRED : (Fld.info .FG_STAT_FIRED).width = 1 := id rfl
@[simp] theorem Fld.width_FG_STAT_STANDBY : (Fld.info .FG_STAT_STANDBY).width = 1 := id rfl
@[simp] theorem Fld.width_FG_FIRED_LO : (Fld.info .FG_FIRED_LO).width = 32 := id rfl
@[simp] theorem Fld.width_FG_FIRED_HI : (Fld.info .FG_FIRED_HI).width = 32 := id rfl
@[simp] theorem Fld.width_FG_SWTRIG : (Fld.info .FG_SWTRIG).width = 32 := id rfl
@[simp] theorem Fld.width_ED_TX_LO : (Fld.info .ED_TX_LO).width = 32 := id rfl
@[simp] theorem Fld.width_ED_TX_HI : (Fld.info .ED_TX_HI).width = 32 := id rfl
@[simp] theorem Fld.width_ED_TX_STAT_COUNT : (Fld.info .ED_TX_STAT_COUNT).width = 3 := id rfl
@[simp] theorem Fld.width_ED_TX_STAT_EMPTYEVT : (Fld.info .ED_TX_STAT_EMPTYEVT).width = 1 := id rfl
@[simp] theorem Fld.width_ED_TX_STAT_TIMEOUT : (Fld.info .ED_TX_STAT_TIMEOUT).width = 1 := id rfl
@[simp] theorem Fld.width_ED_TX_STAT_REFUSED : (Fld.info .ED_TX_STAT_REFUSED).width = 1 := id rfl
@[simp] theorem Fld.width_ED_TX_DOORBELL : (Fld.info .ED_TX_DOORBELL).width = 1 := id rfl
@[simp] theorem Fld.width_ED_TX_TMO : (Fld.info .ED_TX_TMO).width = 20 := id rfl
@[simp] theorem Fld.width_ED_RX_LO : (Fld.info .ED_RX_LO).width = 32 := id rfl
@[simp] theorem Fld.width_ED_RX_HI : (Fld.info .ED_RX_HI).width = 32 := id rfl
@[simp] theorem Fld.width_ED_RX_STAT_COUNT : (Fld.info .ED_RX_STAT_COUNT).width = 3 := id rfl
@[simp] theorem Fld.width_ED_RX_STAT_RING : (Fld.info .ED_RX_STAT_RING).width = 1 := id rfl
@[simp] theorem Fld.width_ED_RX_STAT_TIMEOUT : (Fld.info .ED_RX_STAT_TIMEOUT).width = 1 := id rfl
@[simp] theorem Fld.width_ED_RX_POP : (Fld.info .ED_RX_POP).width = 1 := id rfl
@[simp] theorem Fld.width_ED_IE_RX : (Fld.info .ED_IE_RX).width = 8 := id rfl
@[simp] theorem Fld.width_ED_IE_EMPTY : (Fld.info .ED_IE_EMPTY).width = 8 := id rfl
@[simp] theorem Fld.width_LK_REG : (Fld.info .LK_REG).width = 32 := id rfl
@[simp] theorem Fld.width_LK_BADREL_LO : (Fld.info .LK_BADREL_LO).width = 32 := id rfl
@[simp] theorem Fld.width_LK_BADREL_HI : (Fld.info .LK_BADREL_HI).width = 32 := id rfl
@[simp] theorem Fld.width_DM_CTL_EN : (Fld.info .DM_CTL_EN).width = 1 := id rfl
@[simp] theorem Fld.width_DM_STAT_REFUSED : (Fld.info .DM_STAT_REFUSED).width = 1 := id rfl
@[simp] theorem Fld.width_DM_STAT_RSTDONE : (Fld.info .DM_STAT_RSTDONE).width = 1 := id rfl
@[simp] theorem Fld.width_DM_STAT_INFL : (Fld.info .DM_STAT_INFL).width = 7 := id rfl
@[simp] theorem Fld.width_DM_FRESET_FUNC : (Fld.info .DM_FRESET_FUNC).width = 5 := id rfl
@[simp] theorem Fld.width_DM_RSTBUSY : (Fld.info .DM_RSTBUSY).width = 32 := id rfl
@[simp] theorem Fld.width_DM_RSTDONE : (Fld.info .DM_RSTDONE).width = 32 := id rfl
@[simp] theorem Fld.width_DM_CNT_OPS : (Fld.info .DM_CNT_OPS).width = 32 := id rfl
@[simp] theorem Fld.width_DM_CNT_SQUASH : (Fld.info .DM_CNT_SQUASH).width = 32 := id rfl
@[simp] theorem Fld.width_DM_CNT_NOTEXEC : (Fld.info .DM_CNT_NOTEXEC).width = 32 := id rfl
@[simp] theorem Fld.width_DM_CNT_DBREF : (Fld.info .DM_CNT_DBREF).width = 32 := id rfl
@[simp] theorem Fld.width_DM_QCFG_FUNC : (Fld.info .DM_QCFG_FUNC).width = 5 := id rfl
@[simp] theorem Fld.width_DM_QCFG_CLASS : (Fld.info .DM_QCFG_CLASS).width = 2 := id rfl
@[simp] theorem Fld.width_DM_QCFG_SHARE : (Fld.info .DM_QCFG_SHARE).width = 8 := id rfl
@[simp] theorem Fld.width_DM_QCFG_RSTMODE : (Fld.info .DM_QCFG_RSTMODE).width = 1 := id rfl
@[simp] theorem Fld.width_DM_FCFG_WORLD : (Fld.info .DM_FCFG_WORLD).width = 2 := id rfl
@[simp] theorem Fld.width_DM_FCFG_MAXINFL : (Fld.info .DM_FCFG_MAXINFL).width = 7 := id rfl
@[simp] theorem Fld.width_DM_FCFG_EN : (Fld.info .DM_FCFG_EN).width = 1 := id rfl
@[simp] theorem Fld.width_DM_EMMC_BASE : (Fld.info .DM_EMMC_BASE).width = 32 := id rfl
@[simp] theorem Fld.width_DM_EMMC_COUNT : (Fld.info .DM_EMMC_COUNT).width = 32 := id rfl
@[simp] theorem Fld.width_DM_WIN_BASE_HI : (Fld.info .DM_WIN_BASE_HI).width = 8 := id rfl
@[simp] theorem Fld.width_DM_WIN_SIZE_HI : (Fld.info .DM_WIN_SIZE_HI).width = 8 := id rfl
@[simp] theorem Fld.width_DF_STAT_INFL : (Fld.info .DF_STAT_INFL).width = 7 := id rfl
@[simp] theorem Fld.width_DF_STAT_RESET : (Fld.info .DF_STAT_RESET).width = 1 := id rfl
@[simp] theorem Fld.width_DF_INT_CPL : (Fld.info .DF_INT_CPL).width = 1 := id rfl
@[simp] theorem Fld.width_DF_INT_RSTDONE : (Fld.info .DF_INT_RSTDONE).width = 1 := id rfl
@[simp] theorem Fld.width_DF_INT_REFUSED : (Fld.info .DF_INT_REFUSED).width = 1 := id rfl
@[simp] theorem Fld.width_DF_INT_FAULT : (Fld.info .DF_INT_FAULT).width = 1 := id rfl
@[simp] theorem Fld.width_DF_IE : (Fld.info .DF_IE).width = 4 := id rfl
@[simp] theorem Fld.width_DQ_CTL_EN : (Fld.info .DQ_CTL_EN).width = 1 := id rfl
@[simp] theorem Fld.width_DQ_RING_HI : (Fld.info .DQ_RING_HI).width = 8 := id rfl
@[simp] theorem Fld.width_DQ_SIZE : (Fld.info .DQ_SIZE).width = 4 := id rfl
@[simp] theorem Fld.width_DQ_CPL_HI : (Fld.info .DQ_CPL_HI).width = 8 := id rfl
@[simp] theorem Fld.width_DQ_HEAD : (Fld.info .DQ_HEAD).width = 12 := id rfl
@[simp] theorem Fld.width_DQ_TAIL : (Fld.info .DQ_TAIL).width = 12 := id rfl
@[simp] theorem Fld.width_DQ_DBRES_CODE : (Fld.info .DQ_DBRES_CODE).width = 4 := id rfl
@[simp] theorem Fld.width_DQ_DBRES_BUSY : (Fld.info .DQ_DBRES_BUSY).width = 1 := id rfl
@[simp] theorem Fld.width_DQ_CWR : (Fld.info .DQ_CWR).width = 12 := id rfl
@[simp] theorem Fld.width_DQ_CRD : (Fld.info .DQ_CRD).width = 12 := id rfl
@[simp] theorem Fld.width_DQ_STAT_PEND : (Fld.info .DQ_STAT_PEND).width = 13 := id rfl
@[simp] theorem Fld.width_DQ_STAT_OVERSHARE : (Fld.info .DQ_STAT_OVERSHARE).width = 1 := id rfl
@[simp] theorem Fld.width_DQ_STAT_CFULL : (Fld.info .DQ_STAT_CFULL).width = 1 := id rfl
@[simp] theorem Fld.width_DQ_STAT_DRAINTO : (Fld.info .DQ_STAT_DRAINTO).width = 1 := id rfl
@[simp] theorem Fld.width_DQ_STAT_NOTEXEC : (Fld.info .DQ_STAT_NOTEXEC).width = 13 := id rfl
@[simp] theorem Fld.width_OD_CTL_SDO : (Fld.info .OD_CTL_SDO).width = 1 := id rfl
@[simp] theorem Fld.width_OD_CTL_DOP : (Fld.info .OD_CTL_DOP).width = 1 := id rfl
@[simp] theorem Fld.width_OD_CTL_SVC : (Fld.info .OD_CTL_SVC).width = 1 := id rfl
@[simp] theorem Fld.width_OD_STAT_REFUSED : (Fld.info .OD_STAT_REFUSED).width = 1 := id rfl
@[simp] theorem Fld.width_OD_STAT_BUSYEVT : (Fld.info .OD_STAT_BUSYEVT).width = 1 := id rfl
@[simp] theorem Fld.width_OD_CNT_REQ : (Fld.info .OD_CNT_REQ).width = 32 := id rfl
@[simp] theorem Fld.width_OD_CNT_ABORT : (Fld.info .OD_CNT_ABORT).width = 32 := id rfl
@[simp] theorem Fld.width_OD_CNT_BUSY : (Fld.info .OD_CNT_BUSY).width = 32 := id rfl
@[simp] theorem Fld.width_OD_QDEPTH_P : (Fld.info .OD_QDEPTH_P).width = 5 := id rfl
@[simp] theorem Fld.width_OD_QDEPTH_E : (Fld.info .OD_QDEPTH_E).width = 5 := id rfl
@[simp] theorem Fld.width_OD_QDEPTH_S : (Fld.info .OD_QDEPTH_S).width = 5 := id rfl
@[simp] theorem Fld.width_OD_QDEPTH_B : (Fld.info .OD_QDEPTH_B).width = 5 := id rfl
@[simp] theorem Fld.width_OD_QDEPTH_I : (Fld.info .OD_QDEPTH_I).width = 5 := id rfl
@[simp] theorem Fld.width_OD_OVR_FIRST : (Fld.info .OD_OVR_FIRST).width = 16 := id rfl
@[simp] theorem Fld.width_OD_OVR_LAST : (Fld.info .OD_OVR_LAST).width = 16 := id rfl
@[simp] theorem Fld.width_OD_OVR_NOREAD : (Fld.info .OD_OVR_NOREAD).width = 5 := id rfl
@[simp] theorem Fld.width_OD_OVR_NOWRITE : (Fld.info .OD_OVR_NOWRITE).width = 5 := id rfl
@[simp] theorem Fld.width_OD_OVR_VALID : (Fld.info .OD_OVR_VALID).width = 1 := id rfl
@[simp] theorem Fld.width_UPD_CMD_OP : (Fld.info .UPD_CMD_OP).width = 3 := id rfl
@[simp] theorem Fld.width_UPD_CMD_UNIT : (Fld.info .UPD_CMD_UNIT).width = 2 := id rfl
@[simp] theorem Fld.width_UPD_CTL_RESUME : (Fld.info .UPD_CTL_RESUME).width = 1 := id rfl
@[simp] theorem Fld.width_UPD_STAT_STATE : (Fld.info .UPD_STAT_STATE).width = 3 := id rfl
@[simp] theorem Fld.width_UPD_STAT_BANK : (Fld.info .UPD_STAT_BANK).width = 1 := id rfl
@[simp] theorem Fld.width_UPD_STAT_TRIAL : (Fld.info .UPD_STAT_TRIAL).width = 1 := id rfl
@[simp] theorem Fld.width_UPD_STAT_TRIALS : (Fld.info .UPD_STAT_TRIALS).width = 2 := id rfl
@[simp] theorem Fld.width_UPD_STAT_RETURNED : (Fld.info .UPD_STAT_RETURNED).width = 1 := id rfl
@[simp] theorem Fld.width_UPD_STAT_FALLBACK : (Fld.info .UPD_STAT_FALLBACK).width = 1 := id rfl
@[simp] theorem Fld.width_UPD_STAT_OTHERVALID : (Fld.info .UPD_STAT_OTHERVALID).width = 1 := id rfl
@[simp] theorem Fld.width_UPD_STAT_CARD : (Fld.info .UPD_STAT_CARD).width = 1 := id rfl
@[simp] theorem Fld.width_UPD_STAT_LASTFAIL : (Fld.info .UPD_STAT_LASTFAIL).width = 4 := id rfl
@[simp] theorem Fld.width_UPD_STAT_MIROTHER : (Fld.info .UPD_STAT_MIROTHER).width = 8 := id rfl
@[simp] theorem Fld.width_UPD_RESULT_CODE : (Fld.info .UPD_RESULT_CODE).width = 4 := id rfl
@[simp] theorem Fld.width_UPD_RESULT_REFUSED : (Fld.info .UPD_RESULT_REFUSED).width = 1 := id rfl
@[simp] theorem Fld.width_UPD_PROGRESS : (Fld.info .UPD_PROGRESS).width = 32 := id rfl
@[simp] theorem Fld.width_UPD_MSEQ_FORCE : (Fld.info .UPD_MSEQ_FORCE).width = 32 := id rfl
@[simp] theorem Fld.width_UPD_MSEQ_OTHER : (Fld.info .UPD_MSEQ_OTHER).width = 32 := id rfl
@[simp] theorem Fld.width_UPD_CONFIRM_LEFT : (Fld.info .UPD_CONFIRM_LEFT).width = 12 := id rfl
@[simp] theorem Fld.width_UPD_VER : (Fld.info .UPD_VER).width = 32 := id rfl
@[simp] theorem Fld.width_UPD_OVER : (Fld.info .UPD_OVER).width = 32 := id rfl

/-! ## Reset values fit their fields -/

theorem geLimReset_lt (i : Nat) : geLimReset i < 2 ^ 24 := by
  unfold geLimReset
  split <;> decide

theorem geHysReset_lt (i : Nat) : geHysReset i < 2 ^ 24 := by
  unfold geHysReset
  split <;> decide

theorem slIlimReset_lt (i : Nat) : slIlimReset i < 2 ^ 11 := by
  unfold slIlimReset
  split <;> decide

theorem spBudgetReset_lt (i : Nat) : spBudgetReset i < 2 ^ 24 := by
  unfold spBudgetReset
  split <;> decide

theorem canDepthReset_lt (i : Nat) : canDepthReset i < 2 ^ 8 := by
  unfold canDepthReset
  split <;> decide

/-- Every field resets to a value that its bits can hold. -/
theorem Fld.reset_lt (f : Fld) (i : Nat) : f.reset i < 2 ^ (Fld.info f).width := by
  cases f
  case GE_LIM => exact geLimReset_lt i
  case GE_HYS => exact geHysReset_lt i
  case SL_ILIM => exact slIlimReset_lt i
  case SL_ILIM_IN => exact slIlimReset_lt i
  case SP_BUDGET => exact spBudgetReset_lt i
  case CAN_RINGCFG_DEPTH => exact canDepthReset_lt i
  all_goals exact of_decide_eq_true (id rfl)

end Sys2Proof.Machine
end

