-- ==== Sys2Proof/Tests/Slice0.lean ====
section
/-!
SUPPORT. Tests of the model: for each statement a state and operands that meet its hypotheses, clause by clause; ill-formed
commands that the check refuses; and single steps whose results the examples and tables of the manual give.
-/
namespace Sys2Proof.Tests
open Sys2Proof Sys2Proof.Machine

/-- The state after reset with field values put in. -/
def st (l : List (Fld × Nat × Nat)) : State := l.foldl (fun s e => s.wr e.1 e.2.1 e.2.2) State.reset

/-- A part entry of TYPE `t` with a length and an offset. -/
def testPart (t len off : Nat) : List Nat :=
  [t, 0, 0, 0] ++ leBytes 4 1 ++ List.replicate 12 t ++ leBytes 4 len ++ leBytes 4 off ++ List.replicate 52 0

/-- A manifest that meets R450 to R452 in every field but signatures and digests. -/
def testManifest : List Nat :=
  leBytes 2 0x3F1D ++ [1, 5] ++ leBytes 4 3 ++ [1, 0] ++ leBytes 2 600 ++ leBytes 4 12310 ++ List.replicate 16 0x41
    ++ List.replicate 32 0 ++ testPart 1 4096 0x10000 ++ testPart 2 4096 0x20000 ++ testPart 3 4096 0x30000
    ++ testPart 4 4096 0x40000 ++ testPart 5 16384 0x50000 ++ List.replicate 11846 0

/-- A card that holds it with its parts. -/
def testCard : Card :=
  { mft := some testManifest, files := [1, 2, 3, 4, 5].map fun t => (List.replicate 12 t, List.replicate (if t = 5 then 16384 else 4096) 0) }

/-! ## Hypotheses that can be met -/

theorem witness_ResetStateIsCanonical :
    (∃ (k : Nat), k < 32)
    ∧ (∃ (g : Nat), g < 4) :=
  ⟨⟨31, by decide⟩, ⟨3, by decide⟩⟩

theorem witness_PhaseTimeReadLatchesHigh :
    ∃ (s : State), s.awake = true :=
  ⟨State.reset, by decide⟩

theorem witness_MillraceEnableAndDisable :
    (∃ (s : State), s.flag .MR_CTL_EN = false ∧ s.rd .MR_CTL_SRC ≠ 4 ∧ s.awake = true)
    ∧ (∃ (s : State), s.flag .MR_CTL_EN = true ∧ s.evt = [] ∧ s.flag .GA_CTL_EN = false ∧ s.rd .MR_REFCH = 0 ∧ s.flag
      .MR_ASSOC_CTL_EN = false ∧ s.awake = true) :=
  ⟨⟨State.reset, by decide⟩, ⟨(st [(.MR_CTL_EN, 1, 0), (.MR_STAT_STATE, 2, 0)]), by decide⟩⟩

theorem witness_LockedCrossingTracksAndLossHolds :
    (∃ (s : State) (dt : Nat) (freq : Nat), s.rd .MR_STAT_STATE = 2 ∧ s.standby = false ∧ freq < 2 ^ 24 ∧ inBand
      freq = true ∧ s.mr.bad = 0 ∧ below5 (s.advance dt).crossErr freq = true ∧ s.awake = true)
    ∧ (∃ (s : State), s.rd .MR_STAT_STATE = 2 ∧ s.rd .MR_CTL_SRC < 3 ∧ s.standby = false ∧ s.awake = true) :=
  ⟨⟨(st [(.MR_STAT_STATE, 2, 0)]), 5, 0x320000, by decide⟩, ⟨(st [(.MR_STAT_STATE, 2, 0)]), by decide⟩⟩

theorem witness_BoundaryAssociationAndWithdrawal :
    (∃ (s : State), s.phaseRuns = true ∧ s.standby = false ∧ s.awake = true)
    ∧ (∃ (s : State), s.flag .MR_ASSOC_CTL_STEP = true ∧ s.awake = true)
    ∧ (∃ (s : State), s.phaseRuns = true ∧ s.awake = true) :=
  ⟨⟨(st [(.MR_STAT_STATE, 2, 0)]), by decide⟩, ⟨(st [(.MR_ASSOC_CTL_STEP, 1, 0)]), by decide⟩, ⟨((st
    [(.MR_STAT_STATE, 2, 0)]).setCn 3 { refFrame := some {} }), by decide⟩⟩

theorem witness_EventCommitAndCancelTakeEffect :
    (∃ (s : State) (who : Initiator) (i : Nat), i < 1024 ∧ s.pairMode = false ∧ s.braid.arrived = [] ∧ s.evtWaiting
      = [] ∧ s.dueNow.contains i = false ∧ (s.stagedEvt (s.worldOf who)).valid = true ∧ s.commitCode (s.worldOf
      who) i (s.stagedEvt (s.worldOf who)) = 0 ∧ s.jRoom (.evt i (s.stagedEvt (s.worldOf who)) false) = true ∧
      s.masterRuns who = true)
    ∧ (∃ (s : State) (who : Initiator) (i : Nat), i < 1024 ∧ s.pairMode = false ∧ s.braid.arrived = [] ∧ s.evtWaiting
      = [] ∧ s.dueNow.contains i = false ∧ s.phaseRuns = true ∧ (s.entry i).valid = true ∧ (s.entry i).w2 < 2 ^
      32 ∧ owns (s.worldOf who) (s.entry i).world = true ∧ s.jRoom (.evt i {} true) = true ∧ s.masterRuns who =
      true) :=
  ⟨⟨(st [(.MR_STAT_STATE, 2, 0), (.MR_EVT_STAGE, 1000, 0), (.MR_EVT_STAGE, (2 ^ 31 + 5), 2)]), ⟨1, .safety⟩, 1023,
    by decide⟩, ⟨((st [(.MR_STAT_STATE, 2, 0)]).setEntry 1023 { w0 := 1000, w2 := 2 ^ 31 + 5 }), ⟨8, .normal⟩,
    1023, by decide⟩⟩

theorem witness_DueMarkDispatchesOnce :
    ∃ (s : State) (i : Nat), s.phaseRuns = true ∧ s.dueNow = [i] ∧ (s.entry i).valid = true ∧ (s.entry i).w2 < 2 ^
    32 ∧ (s.entry i).ttype = 5 ∧ (s.entry i).w3 = 0 ∧ s.eseq < 0xFFFFFFFF ∧ s.awake = true :=
  ⟨((st [(.MR_STAT_STATE, 2, 0)]).setEntry 7 { w2 := 2 ^ 31 + 5 }), 7, by decide⟩

theorem witness_GaugeMapsGeometryAndInitialisation :
    (∃ (s : State), (∀ c ∈ s.mapShadows.cells, ∀ d ∈ s.mapShadows.cells, c.1 ≠ d.1 → bits c.2 0 16 ≠ bits d.2 0 16)
      ∧ (∀ c ∈ s.mapShadows.cells, ∃ i ∈ List.range 24, strHolds (s.rd .GA_STRMAP_SH i) c.1 = true) ∧ (∀ i ∈
      List.range 24, ∀ j ∈ List.range 24, i ≠ j → bit (s.rd .GA_STRMAP_SH i) 31 = true → bit (s.rd .GA_STRMAP_SH
      j) 31 = true → bits (s.rd .GA_STRMAP_SH i) 0 13 + bits (s.rd .GA_STRMAP_SH i) 13 10 ≤ bits (s.rd
      .GA_STRMAP_SH j) 0 13 ∨ bits (s.rd .GA_STRMAP_SH j) 0 13 + bits (s.rd .GA_STRMAP_SH j) 13 10 ≤ bits (s.rd
      .GA_STRMAP_SH i) 0 13) ∧ (∀ i ∈ List.range 24, bit (s.rd .GA_STRMAP_SH i) 31 = true → bits (s.rd
      .GA_STRMAP_SH i) 0 13 + bits (s.rd .GA_STRMAP_SH i) 13 10 ≤ 6144) ∧ (∀ i ∈ List.range 24, bit (s.rd
      .GA_STRMAP_SH i) 31 = true → 1 ≤ bits (s.rd .GA_STRMAP_SH i) 13 10 ∧ bits (s.rd .GA_STRMAP_SH i) 13 10 ≤
      512) ∧ (∀ i ∈ List.range 24, bit (s.rd .GA_STRMAP_SH i) 31 = true → bits (s.rd .GA_STRMAP_SH i) 23 5 < 24
      ∧ bit (s.rd .GA_SRCMAP_SH (bits (s.rd .GA_STRMAP_SH i) 23 5)) 31 = true) ∧ s.flag .GA_MAP_RESULT_PENDING =
      false ∧ s.awake = true)
    ∧ (∃ (s : State) (c : Nat × Nat) (d : Nat × Nat), c ∈ s.mapShadows.cells ∧ d ∈ s.mapShadows.cells ∧ c.1 ≠ d.1 ∧
      bits c.2 0 16 = bits d.2 0 16 ∧ s.awake = true)
    ∧ (∃ (s : State) (c : Nat × Nat), (∀ c ∈ s.mapShadows.cells, ∀ d ∈ s.mapShadows.cells, c.1 ≠ d.1 → bits c.2 0 16 ≠
      bits d.2 0 16) ∧ c ∈ s.mapShadows.cells ∧ (∀ i ∈ List.range 24, strHolds (s.rd .GA_STRMAP_SH i) c.1 =
      false) ∧ s.awake = true)
    ∧ (∃ (s : State), (∀ c ∈ s.mapShadows.cells, ∀ d ∈ s.mapShadows.cells, c.1 ≠ d.1 → bits c.2 0 16 ≠ bits d.2 0 16)
      ∧ (∀ c ∈ s.mapShadows.cells, ∃ i ∈ List.range 24, strHolds (s.rd .GA_STRMAP_SH i) c.1 = true) ∧ (∀ i ∈
      List.range 24, ∀ j ∈ List.range 24, i ≠ j → bit (s.rd .GA_STRMAP_SH i) 31 = true → bit (s.rd .GA_STRMAP_SH
      j) 31 = true → bits (s.rd .GA_STRMAP_SH i) 0 13 + bits (s.rd .GA_STRMAP_SH i) 13 10 ≤ bits (s.rd
      .GA_STRMAP_SH j) 0 13 ∨ bits (s.rd .GA_STRMAP_SH j) 0 13 + bits (s.rd .GA_STRMAP_SH j) 13 10 ≤ bits (s.rd
      .GA_STRMAP_SH i) 0 13) ∧ (∀ i ∈ List.range 24, bit (s.rd .GA_STRMAP_SH i) 31 = true → bits (s.rd
      .GA_STRMAP_SH i) 0 13 + bits (s.rd .GA_STRMAP_SH i) 13 10 ≤ 6144) ∧ (∀ i ∈ List.range 24, bit (s.rd
      .GA_STRMAP_SH i) 31 = true → 1 ≤ bits (s.rd .GA_STRMAP_SH i) 13 10 ∧ bits (s.rd .GA_STRMAP_SH i) 13 10 ≤
      512) ∧ (∀ i ∈ List.range 24, bit (s.rd .GA_STRMAP_SH i) 31 = true → bits (s.rd .GA_STRMAP_SH i) 23 5 < 24
      ∧ bit (s.rd .GA_SRCMAP_SH (bits (s.rd .GA_STRMAP_SH i) 23 5)) 31 = true) ∧ s.flag .GA_MAP_RESULT_PENDING =
      true ∧ s.awake = true)
    ∧ (∃ (s : State) (c : Nat) (i : Nat), s.mapShadows.check (s.flag .GA_MAP_RESULT_PENDING) = (c, i) ∧ 0 < c ∧ c < 8
      ∧ i < 2 ^ 13 ∧ s.awake = true)
    ∧ (∃ (s : State), s.flag .GE_GEOM_CMD_PENDING = false ∧ s.awake = true)
    ∧ (∃ (s : State), s.flag .GE_GEOM_CMD_PENDING = true ∧ s.awake = true)
    ∧ (∃ (s : State) (c : Nat), c < 6144 ∧ s.awake = true)
    ∧ (∃ (s : State), s.awake = true) :=
  ⟨⟨State.reset, by decide⟩, ⟨(st [(.GA_CELLMAP_SH, 2 ^ 23 + 5, 100), (.GA_CELLMAP_SH, 2 ^ 23 + 5, 101)]), (100, 2
    ^ 23 + 5), (101, 2 ^ 23 + 5), by decide⟩, ⟨(st [(.GA_CELLMAP_SH, 2 ^ 23 + 5, 100)]), (100, 2 ^ 23 + 5), by
    decide⟩, ⟨(st [(.GA_MAP_RESULT_PENDING, 1, 0)]), by decide⟩, ⟨(st [(.GA_MAP_RESULT_PENDING, 1, 0)]), 6, 0,
    by decide⟩, ⟨State.reset, by decide⟩, ⟨(st [(.GE_GEOM_CMD_PENDING, 1, 0)]), by decide⟩, ⟨State.reset, 6143,
    by decide⟩, ⟨State.reset, by decide⟩⟩

theorem witness_GaugePassRunsAndEnds :
    (∃ (s : State) (n : Nat), s.phaseRuns = true ∧ s.pairMode = false ∧ s.rd .BR_STAT_STATE = 1 ∧ (s.waitAngle (s.rd
      .GA_GUARD)).nextStaged = none ∧ n = (s.mr.turn + 2 ^ 24 - 1) % 2 ^ 24 ∧ (s.gt (n % 2)).isOpen = true ∧
      (s.gt (n % 2)).turn = n ∧ s.awake = true)
    ∧ (∃ (s : State) (n : Nat), s.phaseRuns = true ∧ s.gauge.wait = some n ∧ s.gauge.running = none ∧ (s.gt (n %
      2)).turn = n ∧ n < 2 ^ 24 ∧ (s.gt (n % 2)).len < 2 ^ 32 ∧ s.awake = true)
    ∧ (∃ (s : State) (h : Nat) (n : Nat) (z : Nat) (e : Nat), s.gauge.running = some (h, n, z, e) ∧ h < 2 ∧ n ≤ 6144 ∧
      (s.gt h).turn < 2 ^ 24 ∧ s.awake = true) :=
  ⟨⟨{ st [(.MR_STAT_STATE, 2, 0), (.BR_STAT_STATE, 1, 0)] with gauge := { turns := [{ turn := 4, isOpen := true }, {}] }, mr := { turn := 5 } },
    4, by decide⟩, ⟨{ st [(.MR_STAT_STATE, 2, 0)] with gauge := { wait := some 0 } }, 0, by decide⟩,
    ⟨{ State.reset with gauge := { running := some (0, 0, 0, 0) } }, 0, 0, 0, 0, by decide⟩⟩

theorem witness_ChannelOffTurnsOff :
    ∃ (s : State) (who : Initiator) (k : Nat), k < 32 ∧ s.dieReach (dieOf k) = true ∧ owns (s.worldOf who)
    (s.chanWorld k) = true ∧ s.cmdRefusal k 0 0 0 = 0 ∧ 1 ≤ s.rd .SL_STAT_STATE k ∧ s.rd .SL_STAT_STATE k ≤ 3 ∧
    s.rd .SL_PROT_STAT_CAUSE k = 0 ∧ s.flag .SL_PROT_STAT_SPLOCK k = false ∧ s.masterRuns who = true :=
  ⟨(st [(.SL_STAT_STATE, 2, 31)]), ⟨1, .safety⟩, 31, by decide⟩

theorem witness_ChannelTurnsOnInItsMode :
    (∃ (s : State) (who : Initiator) (k : Nat), k < 32 ∧ s.dieReach (dieOf k) = true ∧ owns (s.worldOf who)
      (s.chanWorld k) = true ∧ s.cmdRefusal k 1 0 0 = 0 ∧ s.rd .SL_STAT_STATE k = 0 ∧ s.rd .SL_CFG_MODE k = 0 ∧
      s.flag .SL_UV_STAT_UVOFF (dieOf k) = false ∧ s.gated (dieOf k) = false ∧ s.masterRuns who = true)
    ∧ (∃ (s : State) (who : Initiator) (k : Nat), k < 32 ∧ s.dieReach (dieOf k) = true ∧ owns (s.worldOf who)
      (s.chanWorld k) = true ∧ s.cmdRefusal k 1 0 0 = 0 ∧ s.rd .SL_STAT_STATE k = 0 ∧ s.rd .SL_CFG_MODE k = 1 ∧
      s.flag .SL_UV_STAT_UVOFF (dieOf k) = false ∧ s.gated (dieOf k) = false ∧ s.masterRuns who = true)
    ∧ (∃ (s : State) (who : Initiator) (k : Nat), k < 32 ∧ s.dieReach (dieOf k) = true ∧ owns (s.worldOf who)
      (s.chanWorld k) = true ∧ s.cmdRefusal k 1 0 0 = 0 ∧ s.rd .SL_STAT_STATE k = 0 ∧ s.rd .SL_CFG_MODE k = 2 ∧
      s.flag .SL_UV_STAT_UVOFF (dieOf k) = false ∧ s.gated (dieOf k) = false ∧ s.masterRuns who = true)
    ∧ (∃ (s : State) (who : Initiator) (k : Nat), k < 32 ∧ s.dieReach (dieOf k) = true ∧ owns (s.worldOf who)
      (s.chanWorld k) = true ∧ s.cmdRefusal k 2 0 0 = 0 ∧ s.rd .SL_STAT_STATE k = 0 ∧ s.flag .SL_UV_STAT_UVOFF
      (dieOf k) = false ∧ s.gated (dieOf k) = false ∧ s.masterRuns who = true)
    ∧ (∃ (s : State) (who : Initiator) (k : Nat) (d : Nat), k < 32 ∧ d ≤ 1000 ∧ s.dieReach (dieOf k) = true ∧ owns
      (s.worldOf who) (s.chanWorld k) = true ∧ s.cmdRefusal k 3 d 0 = 0 ∧ s.rd .SL_STAT_STATE k = 0 ∧ s.flag
      .SL_UV_STAT_UVOFF (dieOf k) = false ∧ s.gated (dieOf k) = false ∧ s.masterRuns who = true) :=
  ⟨⟨(st [(.SL_WD_STAT_SERVED, 1, 0)]), ⟨1, .safety⟩, 0, by decide⟩, ⟨(st [(.SL_WD_STAT_SERVED, 1, 3),
    (.SL_CFG_MODE, 1, 31)]), ⟨1, .safety⟩, 31, by decide⟩, ⟨(st [(.SL_WD_STAT_SERVED, 1, 0), (.SL_CFG_MODE, 2,
    8), (.SL_DUTY, 400, 8)]), ⟨1, .safety⟩, 8, by decide⟩, ⟨(st [(.SL_WD_STAT_SERVED, 1, 3), (.SL_CFG_MODE, 2,
    31)]), ⟨2, .safety⟩, 31, by decide⟩, ⟨(st [(.SL_WD_STAT_SERVED, 1, 0)]), ⟨1, .safety⟩, 8, 1000, by decide⟩⟩

theorem witness_RefusedChannelCommandChangesNothing :
    ∃ (s : State) (who : Initiator) (k : Nat) (a : Nat) (d : Nat) (w : Nat) (c : Instr), k < 32 ∧ (c, a, d) ∈
    [(Instr.channelOff who k, 0, 0), (.channelOn who k, 1, 0), (.channelOnHard who k, 2, 0), (.channelPwm who k
    d, 3, d)] ∧ s.dieReach (dieOf k) = true ∧ owns (s.worldOf who) (s.chanWorld k) = true ∧ s.rd .BR_STAT_STATE
    ≠ 5 ∧ s.cmdRefusal k a d 0 = w ∧ w ≠ 0 ∧ w < 8 ∧ s.masterRuns who = true :=
  ⟨State.reset, ⟨1, .safety⟩, 0, 1, 0, 3, .channelOn ⟨1, .safety⟩ 0, by decide⟩

theorem witness_RampWindowAndPwmEdges :
    (∃ (s : State) (k : Nat), k < 32 ∧ (s.ch (s.lead k)).ramping = true ∧ s.rd .SL_STAT_STATE (s.lead k) = 1)
    ∧ (∃ (s : State) (k : Nat), k < 32 ∧ s.conducts (s.lead k) = true ∧ s.rd .SL_STAT_STATE (s.lead k) = 1)
    ∧ (∃ (s : State) (k : Nat), k < 32 ∧ s.flag .SL_STAT_INRUSH (s.lead k) = true ∧ s.flag .SL_UV_STAT_DIP (dieOf
      (s.lead k)) = false)
    ∧ (∃ (s : State) (k : Nat) (d : Nat), k < 32 ∧ s.rd .SL_STAT_STATE (s.lead k) = 3 ∧ (s.ch (s.lead k)).nextDuty =
      some d)
    ∧ (∃ (s : State) (k : Nat), k < 32 ∧ s.rd .SL_STAT_STATE (s.lead k) = 3 ∧ pwmOff (s.ch (s.lead k)).duty (s.rd
      .SL_PWMF (s.lead k)) = true ∧ s.flag .SL_PROT_STAT_SPLOCK (s.lead k) = false) :=
  ⟨⟨((st [(.SL_STAT_STATE, 1, 31)]).setCh 31 { ramping := true, cond := true }), 31, by decide⟩, ⟨((st
    [(.SL_STAT_STATE, 1, 4)]).setCh 4 { cond := true }), 4, by decide⟩, ⟨(st [(.SL_STAT_INRUSH, 1, 0)]), 0, by
    decide⟩, ⟨((st [(.SL_STAT_STATE, 3, 9)]).setCh 9 { nextDuty := some 500 }), 9, 500, by decide⟩, ⟨((st
    [(.SL_STAT_STATE, 3, 9)]).setCh 9 { duty := 500, cond := true }), 9, by decide⟩⟩

theorem witness_OpenLoadReverseAndLimiter :
    (∃ (s : State) (k : Nat) (mv : Nat), k < 32 ∧ s.flag .SL_CFG_OLOFF k = true ∧ s.rd .SL_STAT_STATE k = 0 ∧ 3500 ≤
      mv ∧ mv < 8000)
    ∧ (∃ (k : Nat) (mv : Nat), k < 32 ∧ 2000 ≤ mv ∧ (mv < 3500 ∨ 8000 ≤ mv))
    ∧ (∃ (s : State) (k : Nat) (mv : Nat), k < 32 ∧ s.flag .SL_CFG_OLOFF k = true ∧ s.rd .SL_STAT_STATE k = 0 ∧ mv <
      2000)
    ∧ (∃ (s : State) (k : Nat) (mv : Nat), k < 32 ∧ s.flag .SL_CFG_OLOFF k = true ∧ s.rd .SL_STAT_STATE k = 0 ∧ 8000 <
      mv)
    ∧ (∃ (k : Nat) (mv : Nat), k < 32 ∧ mv < 8000)
    ∧ (∃ (s : State) (k : Nat), k < 32 ∧ s.flag .SL_CFG_OLON (s.lead k) = true ∧ s.rd .SL_OLTIME (s.lead k) ≤ (s.ch
      (s.lead k)).olCount)
    ∧ (∃ (s : State) (k : Nat), k < 32 ∧ s.conducts (s.lead k) = true)
    ∧ (∃ (s : State) (k : Nat), k < 32 ∧ (s.ch (s.lead k)).rev = true ∧ (s.ch (s.lead k)).cond = true)
    ∧ (∃ (s : State) (k : Nat), k < 32 ∧ s.conducts (s.lead k) = true)
    ∧ (∃ (k : Nat), k < 32) :=
  ⟨⟨(st [(.SL_CFG_OLOFF, 1, 3)]), 3, 3500, by decide⟩, ⟨3, 3499, by decide⟩, ⟨(st [(.SL_CFG_OLOFF, 1, 3),
    (.SL_STAT_OPENOFF, 1, 3)]), 3, 1999, by decide⟩, ⟨(st [(.SL_CFG_OLOFF, 1, 3)]), 3, 8001, by decide⟩, ⟨3,
    7999, by decide⟩, ⟨((st [(.SL_CFG_OLON, 1, 4)]).setCh 4 { olCount := 65535 }), 4, by decide⟩,
    ⟨(State.reset.setCh 5 { cond := true }), 5, by decide⟩, ⟨(State.reset.setCh 5
    { cond := true, rev := true }), 5, by decide⟩, ⟨(State.reset.setCh 5 { cond := true }), 5, by decide⟩, ⟨5,
    by decide⟩⟩

theorem witness_RecordsAreDepositedAndShedding :
    (∃ (s : State) (g : Nat) (feed : Int), g < 4 ∧ (s.di g).up = true ∧ 0 ≤ feed ∧ feed < 2 ^ 23)
    ∧ (∃ (s : State) (g : Nat), g < 4 ∧ s.dieHeard g = true ∧ s.standby = false ∧ s.rd .SL_STRM_WR g < 256 ∧ s.awake =
      true)
    ∧ (∃ (s : State) (g : Nat), g < 4 ∧ s.dieHeard g = true ∧ s.standby = false ∧ s.phaseRuns = true ∧ 1 ≤ s.mr.turn ∧
      s.mr.turn < 2 ^ 24 ∧ s.awake = true)
    ∧ (∃ (s : State) (g : Nat) (k : Nat), g < 4 ∧ s.flag .SL_DIE_STAT_SHEDDING g = false ∧ s.flag .SL_UV_STAT_UVOFF g
      = false ∧ s.rd .SL_SHED_T g ≤ (s.di g).overMs ∧ s.shedPick g = some k ∧ s.rd .SL_PROT_STAT_CAUSE k = 0 ∧
      s.flag .SL_PROT_STAT_SPLOCK k = false)
    ∧ (∃ (s : State) (g : Nat) (k : Nat), g < 4 ∧ s.flag .SL_DIE_STAT_SHEDDING g = true ∧ s.rdI .SL_FEED_SUM g > 20 *
      ((s.rd .SL_FEED_LIM g : Int) - (s.rd .SL_FEED_HYS g : Int)) ∧ s.shedPick g = some k ∧ s.rd
      .SL_PROT_STAT_CAUSE k = 0 ∧ s.flag .SL_PROT_STAT_SPLOCK k = false)
    ∧ (∃ (s : State) (g : Nat), g < 4 ∧ s.flag .SL_DIE_STAT_SHEDDING g = true ∧ s.rdI .SL_FEED_SUM g ≤ 20 * ((s.rd
      .SL_FEED_LIM g : Int) - (s.rd .SL_FEED_HYS g : Int))) :=
  ⟨⟨State.reset, 3, 24000, by decide⟩, ⟨(st [(.SL_STRM_WR, 255, 1), (.FY_STAT_REACH, 15, 0)]), 1, by decide⟩,
    ⟨{ st [(.MR_STAT_STATE, 2, 0), (.FY_STAT_REACH, 15, 0)] with mr := { turn := 6 } }, 2, by decide⟩, ⟨((st
    [(.SL_STAT_STATE, 2, 8), (.SL_BUDGET_PRIO, 5, 8)]).setDi 0 { overMs := 70000 }), 0, 8, by decide⟩, ⟨((st
    [(.SL_STAT_STATE, 2, 8), (.SL_BUDGET_PRIO, 5, 8), (.SL_DIE_STAT_SHEDDING, 1, 0), (.SL_FEED_SUM, 50000,
    0)])), 0, 8, by decide⟩, ⟨(st [(.SL_DIE_STAT_SHEDDING, 1, 0)]), 0, by decide⟩⟩

theorem witness_TripsPutTheChannelIntoFault :
    (∃ (s : State) (k : Nat), k < 32 ∧ s.flag .FG_CTL_EN = false ∧ s.conducts (s.lead k) = true ∧ s.rd
      .SL_PROT_STAT_CAUSE (s.lead k) = 0 ∧ s.flag .SL_PROT_STAT_SPLOCK (s.lead k) = false)
    ∧ (∃ (s : State) (k : Nat), k < 32 ∧ s.flag .FG_CTL_EN = false ∧ s.conducts (s.lead k) = true ∧ s.flag
      .SL_STAT_LIMIT (s.lead k) = true ∧ s.flag .SL_STAT_INRUSH (s.lead k) = false ∧ s.rd .SL_PROT_STAT_CAUSE
      (s.lead k) = 0 ∧ s.flag .SL_PROT_STAT_SPLOCK (s.lead k) = false)
    ∧ (∃ (s : State) (k : Nat) (tj : Int), k < 32 ∧ s.flag .FG_CTL_EN = false ∧ 170000 < tj ∧ s.conducts (s.lead k) =
      true ∧ s.rd .SL_PROT_STAT_CAUSE (s.lead k) = 0 ∧ s.flag .SL_PROT_STAT_SPLOCK (s.lead k) = false) :=
  ⟨⟨(State.reset.setCh 31 { cond := true }), 31, by decide⟩, ⟨((st [(.SL_STAT_LIMIT, 1, 8)]).setCh 8
    { cond := true }), 8, by decide⟩, ⟨(State.reset.setCh 8 { cond := true }), 8, 170001, by decide⟩⟩

theorem witness_ThermalLatchAndRetries :
    (∃ (s : State) (k : Nat) (tj : Int), k < 32 ∧ tj < 140000 ∧ s.otherCool k = true ∧ s.flag .SL_PROT_CFG_TSTICKY
      (s.lead k) = false ∧ s.flag .SL_PROT_STAT_RETRY_PEND (s.lead k) = false)
    ∧ (∃ (s : State) (who : Initiator) (k : Nat), k < 32 ∧ s.dieReach (dieOf k) = true ∧ s.isFollow k = false ∧ owns
      (s.worldOf who) (s.chanWorld k) = true ∧ s.rdI .SL_TJ k < 140000 ∧ s.otherCool k = true ∧ s.flag
      .SL_PROT_STAT_RETRY_PEND k = false ∧ s.masterRuns who = true)
    ∧ (∃ (s : State) (k : Nat), k < 32 ∧ s.flag .SL_PROT_STAT_RETRY_PEND (s.lead k) = true ∧ s.flag .SL_UV_STAT_UVOFF
      (dieOf (s.lead k)) = false ∧ s.vetoed (s.lead k) = true)
    ∧ (∃ (s : State) (k : Nat), k < 32 ∧ s.flag .SL_PROT_STAT_RETRY_PEND (s.lead k) = true ∧ s.vetoed (s.lead k) =
      false)
    ∧ (∃ (s : State) (k : Nat), k < 32 ∧ s.conducts (s.lead k) = true) :=
  ⟨⟨(st [(.SL_PROT_STAT_TLATCH, 1, 2)]), 2, 139999, by decide⟩, ⟨(st [(.SL_PROT_STAT_TLATCH, 1, 2)]), ⟨1,
    .safety⟩, 2, by decide⟩, ⟨(st [(.SL_PROT_STAT_RETRY_PEND, 1, 2), (.SL_PROT_STAT_TLATCH, 1, 2)]), 2, by
    decide⟩, ⟨(st [(.SL_PROT_STAT_RETRY_PEND, 1, 2), (.SL_PROT_STAT_CAUSE, 1, 2)]), 2, by decide⟩, ⟨((st
    [(.SL_PROT_STAT_RETRIES, 2, 8)]).setCh 8 { cond := true }), 8, by decide⟩⟩

theorem witness_ClampPulseBucketsAndUnlock :
    (∃ (s : State) (k : Nat) (e : Nat), k < 32 ∧ windowSum (addPulse (s.ch (s.lead k)).buckets e) (s.rd .SP_WIN
      (s.lead k)) < s.rd .SP_BUDGET (s.lead k) ∧ e ≤ s.pulseRating (s.lead k))
    ∧ (∃ (s : State) (k : Nat) (e : Nat), k < 32 ∧ (s.ch (s.lead k)).cond = true ∧ (s.pulseRating (s.lead k) < e ∨
      s.rd .SP_BUDGET (s.lead k) ≤ windowSum (addPulse (s.ch (s.lead k)).buckets e) (s.rd .SP_WIN (s.lead k))))
    ∧ (∃ (s : State) (k : Nat) (e : Nat), k < 32 ∧ s.flag .FG_CTL_EN = false ∧ (s.ch (s.lead k)).cond = false ∧ s.rd
      .SL_STAT_STATE (s.lead k) ≠ 1 ∧ s.rd .SL_STAT_STATE (s.lead k) ≠ 2 ∧ (s.pulseRating (s.lead k) < e ∨ s.rd
      .SP_BUDGET (s.lead k) ≤ windowSum (addPulse (s.ch (s.lead k)).buckets e) (s.rd .SP_WIN (s.lead k))))
    ∧ (∃ (g : Nat) (l : Nat), g < 4 ∧ l < 8)
    ∧ (∃ (s : State) (who : Initiator) (k : Nat), k < 32 ∧ s.dieReach (dieOf k) = true ∧ s.isFollow k = false ∧ owns
      (s.worldOf who) (s.chanWorld k) = true ∧ s.flag .SL_PROT_STAT_SPLOCK k = true ∧ (s.rd .SP_SUM k < s.rd
      .SP_BUDGET k ∨ (s.ch k).lockSum = false) ∧ s.flag .SL_PROT_STAT_RETRY_PEND k = false ∧ s.flag .FG_CTL_EN =
      false ∧ s.masterRuns who = true)
    ∧ (∃ (s : State) (who : Initiator) (k : Nat), k < 32 ∧ s.dieReach (dieOf k) = true ∧ s.isFollow k = false ∧ owns
      (s.worldOf who) (s.chanWorld k) = true ∧ s.flag .SL_PROT_STAT_SPLOCK k = true ∧ s.rd .SP_BUDGET k ≤ s.rd
      .SP_SUM k ∧ (s.ch k).lockSum = true ∧ s.masterRuns who = true)
    ∧ (∃ (s : State) (who : Initiator) (k : Nat), k < 32 ∧ s.dieReach (dieOf k) = true ∧ s.isFollow k = false ∧ owns
      (s.worldOf who) (s.chanWorld k) = true ∧ s.flag .SL_PROT_STAT_SPLOCK k = false ∧ s.masterRuns who = true) :=
  ⟨⟨State.reset, 31, 1200, by decide⟩, ⟨(State.reset.setCh 31 { cond := true }), 31, 1201, by decide⟩,
    ⟨State.reset, 31, 1201, by decide⟩, ⟨3, 7, by decide⟩, ⟨(st [(.SL_PROT_STAT_SPLOCK, 1, 2), (.SL_STAT_STATE,
    6, 2)]), ⟨1, .safety⟩, 2, by decide⟩, ⟨((st [(.SL_PROT_STAT_SPLOCK, 1, 2), (.SP_SUM, 0xFFFFFF, 2)]).setCh 2
    { lockSum := true }), ⟨1, .safety⟩, 2, by decide⟩, ⟨State.reset, ⟨1, .safety⟩, 31, by decide⟩⟩

theorem witness_SupplyOfTheDies :
    (∃ (s : State) (g : Nat), g < 4 ∧ s.flag .FG_CTL_EN = false ∧ s.flag .SL_UV_STAT_UVOFF g = false ∧ (s.di g).up =
      true)
    ∧ (∃ (s : State) (g : Nat), g < 4 ∧ s.flag .SL_UV_STAT_UVOFF g = true)
    ∧ (∃ (g : Nat), g < 4)
    ∧ (∃ (g : Nat) (l : Nat), g < 4 ∧ l < 8)
    ∧ (∃ (s : State) (g : Nat) (l : Nat), g < 4 ∧ l < 8 ∧ s.upd.trimOut.contains g = false ∧ takeCopy (s.di g).eeA
      (s.di g).eeB = none)
    ∧ (∃ (s : State) (g : Nat), g < 4 ∧ s.upd.trimOut.contains g = true) :=
  ⟨⟨State.reset, 3, by decide⟩, ⟨(st [(.SL_UV_STAT_UVOFF, 1, 3)]), 3, by decide⟩, ⟨3, by decide⟩, ⟨3, 7, by
    decide⟩, ⟨(State.reset.setDi 3 { eeA := { whole := false }, eeB := { whole := false } }), 3, 7, by decide⟩,
    ⟨{ State.reset with upd := { trimOut := [3] } }, 3, by decide⟩⟩

theorem witness_FloodgateFiresItsEntries :
    (∃ (s : State) (who : Initiator) (e : Nat) (i : Nat), e < 64 ∧ i < 32 ∧ s.worldOf who = .safety ∧ who.master ≠ 1
      ∧ who.master ≠ 2 ∧ s.flag .FG_CTL_EN = true ∧ s.claim = false ∧ ((List.range 64).filter fun x => bit (s.rd
      .FG_ACT x) 31 && [⟨5, 0, i, false⟩].any (s.fgMatch x)) = [e] ∧ s.masterRuns who = true)
    ∧ (∃ (s : State) (who : Initiator), s.worldOf who ≠ .safety ∧ s.masterRuns who = true)
    ∧ (∃ (s : State) (k : Nat), k < 32 ∧ s.flag .FG_CTL_EN = false ∧ s.dieReach (dieOf (s.lead k)) = true ∧
      s.cmdRefusal (s.lead k) 0 0 2 = 0 ∧ s.flag .SL_PROT_STAT_SPLOCK (s.lead k) = false) :=
  ⟨⟨(st [(.FG_CTL_EN, 1, 0), (.FG_SRC, (5 + 3 * 128), 63), (.FG_ACT, (2 ^ 31), 63)]), ⟨3, .safety⟩, 63, 3, by
    decide⟩, ⟨State.reset, ⟨8, .normal⟩, by decide⟩, ⟨((st [(.SL_STAT_STATE, 2, 31)]).setCh 31
    { cond := true, cmdOn := true }), 31, by decide⟩⟩

theorem witness_WatchdogServesAndFailsafe :
    (∃ (s : State) (who : Initiator) (g : Nat) (v : Nat), g < 4 ∧ s.dieReach g = true ∧ s.serveShut = false ∧
      s.worldOf who = .safety ∧ who.master ≠ 1 ∧ who.master ≠ 2 ∧ ((v = 0x5AA5 ∧ (s.di g).lastServe ≠ 1) ∨ (v =
      0xA55A ∧ (s.di g).lastServe ≠ 2)) ∧ s.masterRuns who = true)
    ∧ (∃ (s : State) (who : Initiator) (g : Nat) (v : Nat), g < 4 ∧ s.dieReach g = true ∧ s.serveShut = false ∧ v ≠
      0x5AA5 ∧ v ≠ 0xA55A ∧ s.masterRuns who = true)
    ∧ (∃ (s : State) (who : Initiator), s.frozenPair who = true)
    ∧ (∃ (s : State) (g : Nat), g < 4 ∧ s.flag .FG_CTL_EN = false ∧ s.flag .SL_WD_STAT_SERVED g = true ∧ (s.di g).up =
      true ∧ s.flag .SL_WD_STAT_FAILSAFE g = false)
    ∧ (∃ (s : State) (who : Initiator) (g : Nat), g < 4 ∧ s.dieReach g = true ∧ s.worldOf who = .safety ∧ s.flag
      .SL_WD_STAT_FAILSAFE g = true ∧ 2 ≤ (s.di g).serves ∧ s.masterRuns who = true)
    ∧ (∃ (s : State) (who : Initiator) (g : Nat), g < 4 ∧ s.dieReach g = true ∧ (s.di g).serves < 2 ∧ s.masterRuns who
      = true) :=
  ⟨⟨State.reset, ⟨3, .safety⟩, 3, 0x5AA5, by decide⟩, ⟨State.reset, ⟨3, .safety⟩, 3, 0, by decide⟩, ⟨(st
    [(.LS_STAT_FROZEN, 1, 1)]), ⟨2, .safety⟩, by decide⟩, ⟨(st [(.SL_WD_STAT_SERVED, 1, 3)]), 3, by decide⟩,
    ⟨((st [(.SL_WD_STAT_FAILSAFE, 1, 3)]).setDi 3 { serves := 2 }), ⟨1, .safety⟩, 3, by decide⟩, ⟨State.reset,
    ⟨1, .safety⟩, 3, by decide⟩⟩

theorem witness_FailsafeTablesAreCommitted :
    (∃ (s : State) (who : Initiator) (g : Nat), g < 4 ∧ s.dieReach g = true ∧ s.worldOf who = .safety ∧ who.master ≠
      1 ∧ who.master ≠ 2 ∧ s.locked 4 = false ∧ s.flag .SL_FS_CMD_BUSY g = false ∧ s.masterRuns who = true)
    ∧ (∃ (s : State) (g : Nat) (x : EeCopy), g < 4 ∧ (s.di g).staged = some x ∧ x.seq < 2 ^ 16)
    ∧ (∃ (s : State) (g : Nat) (x : EeCopy) (a : Bool) (b : Bool), g < 4 ∧ (s.di g).staged = some x ∧ (a && b) =
      false) :=
  ⟨⟨State.reset, ⟨3, .safety⟩, 3, by decide⟩, ⟨(State.reset.setDi 3 { staged := some { seq := 9 } }), 3,
    { seq := 9 }, by decide⟩, ⟨(State.reset.setDi 3 { staged := some { seq := 9 } }), 3, { seq := 9 }, true,
    false, by decide⟩⟩

theorem witness_FieldInputDebounceAndEdge :
    (∃ (s : State) (k : Nat) (c : Bool), k < 48 ∧ (s.di (ioDieOf k)).up = true ∧ s.ioReads k = true ∧ (c != s.flag
      .IO_CFG_INV k) = !s.flag .IO_STAT_LEVEL k ∧ (s.fio k).pend = false)
    ∧ (∃ (s : State) (k : Nat) (x : Io), k < 48 ∧ (s.di (ioDieOf k)).up = true ∧ s.fio k = x ∧ x.pend = true)
    ∧ (∃ (s : State) (g : Nat) (e : Edge) (rest : List Edge), g < 4 ∧ (s.di g).polled = e :: rest ∧ s.standby = false
      ∧ s.brState ≠ 5 ∧ s.edgeRingFull g = false ∧ s.awake = true) :=
  ⟨⟨State.reset, 47, true, by decide⟩, ⟨((st [(.IO_CFG_EDGE_R, 1, 47)]).setIo 47
    { comp := true, pend := true, start := 77 }), 47, { comp := true, pend := true, start := 77 }, by decide⟩,
    ⟨((st [(.IO_EDGE_WR, 127, 3), (.IO_EDGE_RD_S, 5, 3), (.IO_EDGE_RD_N, 5, 3)]).setDi 3
    { polled := [⟨5, 36, true, false, 9⟩] }), 3, ⟨5, 36, true, false, 9⟩, [], by decide⟩⟩

theorem witness_FieldOutputsCommandsAndReadback :
    (∃ (s : State) (who : Initiator) (k : Nat), k < 48 ∧ s.dieReach (ioDieOf k) = true ∧ owns (s.worldOf who)
      (s.ioWorld k) = true ∧ s.ioRefusal k 0 0 = 0 ∧ s.masterRuns who = true)
    ∧ (∃ (s : State) (who : Initiator) (k : Nat), k < 48 ∧ s.dieReach (ioDieOf k) = true ∧ owns (s.worldOf who)
      (s.ioWorld k) = true ∧ s.ioRefusal k 1 0 = 0 ∧ (s.fio k).hot = false ∧ s.flag .IO_STAT_OTP k = false ∧
      s.gated (ioDieOf k) = false ∧ s.masterRuns who = true)
    ∧ (∃ (s : State) (who : Initiator) (k : Nat) (w : Nat) (b : Bool), k < 48 ∧ s.dieReach (ioDieOf k) = true ∧ owns
      (s.worldOf who) (s.ioWorld k) = true ∧ s.ioRefusal k (b2n b) 0 = w ∧ w ≠ 0 ∧ s.masterRuns who = true)
    ∧ (∃ (s : State) (k : Nat), k < 48 ∧ s.rd .IO_CFG_MODE k = 2 ∧ s.flag .SL_WD_STAT_ACT (ioDieOf k) = true ∧ s.flag
      .IO_STAT_LEVEL k = !(s.fio k).cmdOn ∧ s.flag .IO_STAT_MISMATCH k = false)
    ∧ (∃ (s : State) (k : Nat), k < 48 ∧ (s.fio k).cmdOn = true ∧ s.rd .IO_CFG_MODE k ≠ 0 ∧ s.gated (ioDieOf k) =
      false ∧ s.flag .IO_STAT_OTP k = false)
    ∧ (∃ (s : State) (k : Nat), k < 48 ∧ ((s.fio k).cmdOn = false ∨ s.rd .IO_CFG_MODE k = 0 ∨ s.gated (ioDieOf k) =
      true))
    ∧ (∃ (k : Nat), k < 48) :=
  ⟨⟨((st [(.IO_CFG_MODE, 1, 47), (.IO_STAT_OUT, 1, 47)]).setIo 47 { cmdOn := true }), ⟨3, .safety⟩, 47, by
    decide⟩, ⟨(st [(.IO_CFG_MODE, 1, 47), (.SL_WD_STAT_SERVED, 1, 3)]), ⟨3, .safety⟩, 47, by decide⟩,
    ⟨State.reset, ⟨3, .safety⟩, 0, 2, true, by decide⟩, ⟨((st [(.IO_CFG_MODE, 2, 47), (.SL_WD_STAT_ACT, 1,
    3)]).setIo 47 { cmdOn := true, hold := true }), 47, by decide⟩, ⟨((st [(.IO_STAT_DRIVE, 1, 47),
    (.IO_CFG_MODE, 1, 47)]).setIo 47 { cmdOn := true }), 47, by decide⟩, ⟨(st [(.IO_CFG_MODE, 1, 47)]), 47, by
    decide⟩, ⟨0, by decide⟩⟩

theorem witness_CanChannelStates :
    (∃ (s : State) (who : Initiator) (k : Nat), k < 16 ∧ owns (s.worldOf who) (s.canWorld k) = true ∧ s.flag
      .CAN_CTL_EN k = false ∧ s.rd .SYS_PWR_STAT_STATE ≤ 2 ∧ s.enableError k = 0 ∧ s.masterRuns who = true)
    ∧ (∃ (s : State) (who : Initiator) (k : Nat) (e : Nat), k < 16 ∧ owns (s.worldOf who) (s.canWorld k) = true ∧
      s.flag .CAN_CTL_EN k = false ∧ s.rd .SYS_PWR_STAT_STATE ≤ 2 ∧ s.enableError k = e ∧ e ≠ 0 ∧ s.masterRuns
      who = true)
    ∧ (∃ (s : State) (who : Initiator) (k : Nat), k < 16 ∧ owns (s.worldOf who) (s.canWorld k) = true ∧ s.flag
      .CAN_CTL_EN k = true ∧ (s.cn k).pendCmd = none ∧ s.masterRuns who = true)
    ∧ (∃ (s : State) (who : Initiator) (k : Nat), k < 16 ∧ owns (s.worldOf who) (s.canWorld k) = true ∧ s.rd
      .CAN_STAT_STATE k = 4 ∧ s.masterRuns who = true)
    ∧ (∃ (s : State) (k : Nat), k < 16 ∧ s.rd .CAN_STAT_STATE k = 1 ∧ s.flag .CAN_CTL_LISTEN k = false ∧ s.claim =
      true ∧ s.awake = true)
    ∧ (∃ (s : State) (k : Nat), k < 16 ∧ s.rd .CAN_STAT_STATE k = 1 ∧ s.flag .CAN_CTL_LISTEN k = true ∧ s.awake =
      true)
    ∧ (∃ (s : State) (k : Nat), k < 16 ∧ s.rd .CAN_STAT_STATE k = 5 ∧ s.flag .CAN_CTL_LISTEN k = false ∧ s.claim =
      true ∧ s.awake = true) :=
  ⟨⟨State.reset, ⟨3, .safety⟩, 15, by decide⟩, ⟨(st [(.CAN_NBT_NTSEG1, 2, 15)]), ⟨3, .safety⟩, 15, 1, by decide⟩,
    ⟨(((st [(.CAN_CTL_EN, 1, 3), (.CAN_STAT_STATE, 2, 3)])).setCn 3 { tx := some (.level 2) }), ⟨3, .safety⟩, 3,
    by decide⟩, ⟨(st [(.CAN_STAT_STATE, 4, 15)]), ⟨3, .safety⟩, 15, by decide⟩, ⟨(st [(.CAN_STAT_STATE, 1, 15),
    (.BR_STAT_CLAIM, 1, 0)]), 15, by decide⟩, ⟨(st [(.CAN_STAT_STATE, 1, 15), (.CAN_CTL_LISTEN, 1, 15)]), 15, by
    decide⟩, ⟨(st [(.CAN_STAT_STATE, 5, 0), (.BR_STAT_CLAIM, 1, 0)]), 0, by decide⟩⟩

theorem witness_CanQueueTakesAndReleases :
    (∃ (s : State) (who : Initiator) (k : Nat) (l : Nat), k < 16 ∧ owns (s.worldOf who) (s.canWorld k) = true ∧ l <
      8 ∧ (s.cn k).levels.length = 8 ∧ s.pairMode = false ∧ s.braid.arrived = [] ∧ s.flag .CAN_TXQ_RESULT_BUSY k
      = false ∧ s.flag .CAN_TXQ_CMDRES_BUSY k = false ∧ (s.staged k).2 = false ∧ s.canTake k (s.staged
      k).1.frame = true ∧ s.rd .WE_SLP_STAT_STATE (s.segOf k) < 2 ∧ s.jRoom (.canPush k l (s.staged k).1) = true
      ∧ s.masterRuns who = true)
    ∧ (∃ (s : State) (who : Initiator) (k : Nat) (l : Nat) (e : CanElem) (rest : List CanElem), k < 16 ∧ owns
      (s.worldOf who) (s.canWorld k) = true ∧ l < 8 ∧ (s.cn k).levels.length = 8 ∧ s.flag .CAN_TXQ_RESULT_BUSY k
      = false ∧ s.flag .CAN_TXQ_CMDRES_BUSY k = false ∧ s.level k l = e :: rest ∧ e.hold = true ∧ s.masterRuns
      who = true)
    ∧ (∃ (s : State) (k : Nat) (r : List Nat), k < 16 ∧ (s.cn k).doneWait = [r] ∧ r.length = 16 ∧ s.doneFull k = false
      ∧ (s.cn k).pendCmd = none ∧ s.moveWaits k = false ∧ s.rd .CAN_TXDONE_WR k < 64 ∧ s.awake = true) :=
  ⟨⟨(st [(.CAN_TXPOOL_NTX, 4, 15)]), ⟨3, .safety⟩, 15, 7, by decide⟩, ⟨((State.reset).setCn 15
    { levels := [[],[],[],[],[],[],[],[{ hold := true }]] }), ⟨3, .safety⟩, 15, 7, { hold := true }, [], by
    decide⟩, ⟨(((st [(.CAN_TXDONE_WR, 63, 15), (.CAN_TXDONE_RD, 5, 15)])).setCn 15
    { doneWait := [List.replicate 16 7] }), 15, List.replicate 16 7, by decide⟩⟩

theorem witness_CanQueueCancelsAndMoves :
    (∃ (s : State) (who : Initiator) (k : Nat) (l : Nat) (e : CanElem) (rest : List CanElem), k < 16 ∧ owns
      (s.worldOf who) (s.canWorld k) = true ∧ l < 8 ∧ (s.cn k).levels.length = 8 ∧ s.flag .CAN_TXQ_RESULT_BUSY k
      = false ∧ s.flag .CAN_TXQ_CMDRES_BUSY k = false ∧ (s.cn k).tx ≠ some (.level l) ∧ s.level k l = e :: rest
      ∧ s.masterRuns who = true)
    ∧ (∃ (s : State) (who : Initiator) (k : Nat) (l : Nat), k < 16 ∧ owns (s.worldOf who) (s.canWorld k) = true ∧ l <
      8 ∧ (s.cn k).levels.length = 8 ∧ s.flag .CAN_TXQ_RESULT_BUSY k = false ∧ s.flag .CAN_TXQ_CMDRES_BUSY k =
      false ∧ (s.cn k).tx ≠ some (.level l) ∧ s.level k l ≠ [] ∧ (s.level k l).length < 128 ∧ s.masterRuns who =
      true)
    ∧ (∃ (s : State) (who : Initiator) (k : Nat) (l : Nat) (d : Nat) (m : Nat), k < 16 ∧ owns (s.worldOf who)
      (s.canWorld k) = true ∧ l < 8 ∧ (s.cn k).levels.length = 8 ∧ s.flag .CAN_TXQ_RESULT_BUSY k = false ∧
      s.flag .CAN_TXQ_CMDRES_BUSY k = false ∧ (s.cn k).tx ≠ some (.level l) ∧ d < 16 ∧ d ≠ k ∧ m < 8 ∧ owns
      (s.worldOf who) (s.canWorld d) = true ∧ (s.cn d).levels.length = 8 ∧ s.pairMode = false ∧ s.braid.arrived
      = [] ∧ s.moveError 3 d (s.level k l) = 0 ∧ (s.level k l).length < 128 ∧ s.jRoom (.canMove k 3 l d m
      (s.level k l)) = true ∧ s.braid.jopen = [] ∧ s.rd .BR_JUSED + 200 < journalUnits ∧ s.rd .WE_SLP_STAT_STATE
      (s.segOf d) < 2 ∧ s.masterRuns who = true)
    ∧ (∃ (s : State) (who : Initiator) (k : Nat) (l : Nat) (m : Nat), k < 16 ∧ owns (s.worldOf who) (s.canWorld k) =
      true ∧ l < 8 ∧ (s.cn k).levels.length = 8 ∧ s.flag .CAN_TXQ_RESULT_BUSY k = false ∧ s.flag
      .CAN_TXQ_CMDRES_BUSY k = false ∧ (s.cn k).tx ≠ some (.level l) ∧ m < 8 ∧ s.pairMode = true ∧ s.brState = 5
      ∧ s.rd .BR_PEER % 16 = 4 ∧ s.rd .CAN_STAT_STATE k = 4 ∧ s.level k l ≠ [] ∧ (s.level k l).length < 128 ∧
      s.braid.arrived = [] ∧ s.masterRuns who = true) :=
  ⟨⟨((State.reset).setCn 15 { levels := [[],[],[],[],[],[],[],[{ tag := 5 }, { tag := 6 }]] }), ⟨3, .safety⟩, 15,
    7, { tag := 5 }, [{ tag := 6 }], by decide⟩, ⟨((State.reset).setCn 15
    { levels := [[],[],[],[],[],[],[],[{ tag := 5 }, { tag := 6 }]] }), ⟨3, .safety⟩, 15, 7, by decide⟩, ⟨(((st
    [(.CAN_TXPOOL_NTX, 4, 0)])).setCn 15 { levels := [[],[],[],[],[],[],[],[{ tag := 5 }, { tag := 6 }]] }), ⟨3,
    .safety⟩, 15, 7, 0, 3, by decide⟩, ⟨(((st [(.BR_CTL_MODE, 1, 0), (.BR_STAT_STATE, 5, 0), (.BR_PEER, 4, 0),
    (.CAN_STAT_STATE, 4, 15)])).setCn 15 { levels := [[],[],[],[],[],[],[],[{ tag := 5 }, { tag := 6 }]] }), ⟨3,
    .safety⟩, 15, 7, 0, by decide⟩⟩

theorem witness_CanTransmissionAttempts :
    (∃ (s : State) (k : Nat) (x : TxSlot), k < 16 ∧ s.rd .CAN_STAT_STATE k = 2 ∧ s.busUp k = true ∧ (s.cn k).tx =
      none ∧ ((s.revokeHeads k).canView k).choice k = some x ∧ s.awake = true)
    ∧ (∃ (s : State) (k : Nat), k < 16 ∧ (s.cn k).tx ≠ none ∧ (s.cn k).pendCmd = none ∧ (s.cn k).leaving = false ∧
      s.awake = true)
    ∧ (∃ (s : State) (k : Nat) (l : Nat) (e : CanElem) (rest : List CanElem), k < 16 ∧ l < 8 ∧ (s.cn k).levels.length
      = 8 ∧ (s.cn k).tx = some (.level l) ∧ s.busUp k = true ∧ s.claim = true ∧ s.level k l = e :: rest ∧
      ((s.level k l).any (·.onBus) = false ∨ e.onBus = true) ∧ e.origin = 0 ∧ e.proxy = false ∧ s.braid.jopen =
      [] ∧ s.flag .CAN_CTL_LOOP k = false ∧ (s.cn k).pendCmd = none ∧ (s.cn k).leaving = false ∧ s.awake = true)
    ∧ (∃ (s : State) (k : Nat) (c : Nat), k < 16 ∧ c < 8 ∧ s.busUp k = true ∧ (s.cn k).tx ≠ none ∧ s.rd
      .CAN_STAT_STATE k = 2 ∧ s.rd .CAN_ECNT_TEC k < 120 ∧ s.rd .CAN_ECNT_REC k < 128 ∧ (s.cn k).pendCmd = none
      ∧ (s.cn k).leaving = false ∧ s.awake = true)
    ∧ (∃ (s : State) (k : Nat) (c : Nat), k < 16 ∧ c < 8 ∧ s.busUp k = true ∧ (s.cn k).tx = none ∧ s.rd
      .CAN_STAT_STATE k = 2 ∧ s.rd .CAN_ECNT_TEC k < 120 ∧ s.rd .CAN_ECNT_REC k < 128 ∧ s.awake = true)
    ∧ (∃ (s : State) (k : Nat), k < 16 ∧ s.busUp k = true ∧ (s.cn k).tx ≠ none ∧ s.rd .CAN_STAT_STATE k = 3 ∧ 248 ≤
      s.rd .CAN_ECNT_TEC k ∧ s.rd .CAN_ECNT_TEC k < 256 ∧ (s.cn k).pendCmd = none ∧ (s.cn k).leaving = false ∧
      s.awake = true) :=
  ⟨⟨(((st [(.CAN_STAT_STATE, 2, 15), (.XCVR_STAT_MODE, 0, 15), (.CAN_TXDONE_RD, 0, 15)])).setCn 15
    { levels := [[],[],[],[],[],[],[],[{ tag := 5 }, { tag := 6 }]] }), 15, .level 7, by decide⟩,
    ⟨((State.reset).setCn 15
    { tx := some (.level 7), levels := [[],[],[],[],[],[],[],[{ tag := 5 }, { tag := 6 }]] }), 15, by decide⟩,
    ⟨(((st [(.CAN_STAT_STATE, 2, 15), (.XCVR_STAT_MODE, 0, 15), (.BR_STAT_CLAIM, 1, 0)])).setCn 15
    { tx := some (.level 7), levels := [[],[],[],[],[],[],[],[{ tag := 5 }, { tag := 6 }]] }), 15, 7,
    { tag := 5 }, [{ tag := 6 }], by decide⟩, ⟨(((st [(.CAN_STAT_STATE, 2, 15), (.XCVR_STAT_MODE, 0, 15),
    (.CAN_ECNT_TEC, 119, 15)])).setCn 15
    { tx := some (.level 7), levels := [[],[],[],[],[],[],[],[{ tag := 5 }, { tag := 6 }]] }), 15, 7, by
    decide⟩, ⟨(st [(.CAN_STAT_STATE, 2, 15), (.XCVR_STAT_MODE, 0, 15)]), 15, 7, by decide⟩, ⟨(((st
    [(.CAN_STAT_STATE, 3, 15), (.XCVR_STAT_MODE, 0, 15), (.CAN_ECNT_TEC, 248, 15)])).setCn 15
    { tx := some (.level 7), levels := [[],[],[],[],[],[],[],[{ tag := 5 }, { tag := 6 }]] }), 15, by decide⟩⟩

theorem witness_CanReception :
    (∃ (s : State) (k : Nat) (c : Nat) (x : Bool), k < 16 ∧ c < 8 ∧ s.busUp k = true ∧ s.rd .CAN_STAT_STATE k = 2 ∧
      s.rd .CAN_ECNT_TEC k < 128 ∧ s.rd .CAN_ECNT_REC k < 120 ∧ (x && s.flag .CAN_CTL_TMS k) = false ∧ s.awake =
      true)
    ∧ (∃ (s : State) (k : Nat), k < 16 ∧ s.busUp k = true ∧ s.rd .CAN_STAT_STATE k = 2 ∧ s.awake = true)
    ∧ (∃ (s : State) (k : Nat) (f : CanFrame), k < 16 ∧ s.rd .CAN_STAT_STATE k = 2 ∧ s.busUp k = true ∧ s.fmtOk k
      f.fmt = true ∧ s.pairMode = false ∧ s.isSdo k f = false ∧ (s.cn k).stage.length < 4 ∧ s.awake = true) :=
  ⟨⟨(st [(.CAN_STAT_STATE, 2, 15), (.XCVR_STAT_MODE, 0, 15), (.CAN_ECNT_REC, 119, 15)]), 15, 7, false, by decide⟩,
    ⟨(st [(.CAN_STAT_STATE, 2, 15), (.XCVR_STAT_MODE, 0, 15)]), 15, by decide⟩, ⟨(st [(.CAN_STAT_STATE, 2, 15),
    (.XCVR_STAT_MODE, 0, 15)]), 15, { id := 0x123, sof := 5, eof := 9 }, by decide⟩⟩

theorem witness_WeirRoutesStagedFrames :
    (∃ (s : State) (k : Nat) (d : Nat) (i : Nat) (f : CanFrame) (r : RouteEntry), s.nextStaged = some (k, f) ∧
      s.flag .WE_CTL_EN = true ∧ s.lookup k f = some (i, r) ∧ d < 16 ∧ d ≠ k ∧ r.w2 / 2 ^ 16 = 2 ^ d ∧ bits r.w3
      0 2 = 0 ∧ bit r.w3 4 = false ∧ s.segShut d = false ∧ s.canTake d f = true ∧ (s.cn d).levels.length = 8 ∧
      s.awake = true)
    ∧ (∃ (s : State) (k : Nat) (f : CanFrame), s.nextStaged = some (k, f) ∧ (s.flag .WE_CTL_EN = false ∨ (s.lookup k f
      = none ∧ s.flag .WE_CTL_MISS = false)) ∧ s.awake = true) :=
  ⟨⟨{ ((st [(.WE_CTL_EN, 1, 0), (.CAN_TXPOOL_NTX, 16, 15)]).setCn 3 { stage := [{ id := 0x123, dlc := 2, len := 2, data := [1, 2], eof := 9 }] }) with route := [(9, ⟨0x123, 0, 2 ^ 3 + 2 ^ 31, 2 ^ 31⟩)] },
    3, 15, 9, { id := 0x123, dlc := 2, len := 2, data := [1, 2], eof := 9 }, ⟨0x123, 0, 2 ^ 3 + 2 ^ 31, 2 ^ 31⟩,
    by decide⟩, ⟨((st [(.WE_CTL_EN, 1, 0), (.WE_CTL_MISS, 0, 0)]).setCn 3
    { stage := [{ id := 0x123, dlc := 2, len := 2, data := [1, 2], eof := 9 }] }), 3,
    { id := 0x123, dlc := 2, len := 2, data := [1, 2], eof := 9 }, by decide⟩⟩

theorem witness_RouteTablesTakeWholeEntries :
    (∃ (s : State) (who : Initiator) (i : Nat), i < 4096 ∧ s.routeError (s.worldOf who) i = 0 ∧ s.masterRuns who =
      true)
    ∧ (∃ (s : State) (who : Initiator) (i : Nat) (c : Nat), i < 4096 ∧ s.routeError (s.worldOf who) i = c ∧ 0 < c ∧
      s.masterRuns who = true)
    ∧ (∃ (s : State) (who : Initiator) (i : Nat), i < 4096 ∧ (bit (NMap.at {} s.route i).w3 31 && !owns (s.worldOf
      who) (World.ofCode (bits (NMap.at {} s.route i).w3 28 2))) = false ∧ s.masterRuns who = true)
    ∧ (∃ (s : State) (who : Initiator) (i : Nat), i < 64 ∧ s.streamForeign (s.worldOf who) i = false ∧ (s.strm
      i).gathered = [] ∧ s.masterRuns who = true) :=
  ⟨⟨(st [(.WE_STAGE, 291, 0), (.WE_STAGE, (2 ^ 31), 3)]), ⟨3, .safety⟩, 4095, by decide⟩, ⟨(st [(.WE_STAGE, (2 ^
    30), 3)]), ⟨3, .safety⟩, 0, 3, by decide⟩,
    ⟨{ State.reset with route := [(9, ⟨0x123, 0, 2 ^ 3 + 2 ^ 31, 2 ^ 31⟩)] }, ⟨8, .normal⟩, 9, by decide⟩,
    ⟨State.reset, ⟨3, .safety⟩, 63, by decide⟩⟩

theorem witness_EncapsulationStreamsCount :
    (∃ (s : State) (pdu : List Nat) (n : Nat) (x : Stream), pdu.getD 0 0 = 0x82 ∧ s.stream.find? (fun e => bit
      (e.2.words.getD 4 0) 0 && bit (e.2.words.getD 4 0) 1 && leBytes 4 (e.2.words.getD 0 0) ++ leBytes 4
      (e.2.words.getD 1 0) == (pdu.drop 4).take 8) = some (n, x) ∧ s.flag .WE_CTL_EN = true ∧ ((∀ l, x.last =
      some l → (l + 1) % 256 = pdu.getD 3 0)) ∧ s.awake = true)
    ∧ (∃ (s : State) (pdu : List Nat) (n : Nat) (l : Nat) (x : Stream), pdu.getD 0 0 = 0x82 ∧ s.stream.find? (fun e =>
      bit (e.2.words.getD 4 0) 0 && bit (e.2.words.getD 4 0) 1 && leBytes 4 (e.2.words.getD 0 0) ++ leBytes 4
      (e.2.words.getD 1 0) == (pdu.drop 4).take 8) = some (n, x) ∧ s.flag .WE_CTL_EN = false ∧ x.last = some l ∧
      (l + 1) % 256 ≠ pdu.getD 3 0 ∧ s.awake = true)
    ∧ (∃ (s : State) (n : Nat), n < 64 ∧ (s.streamHandover n).2 ≠ [] ∧ s.awake = true)
    ∧ (∃ (s : State) (n : Nat), n < 64 ∧ (s.streamHandover n).2 = [] ∧ s.awake = true)
    ∧ (∃ (s : State) (n : Nat), (s.strm n).gathered.all (fun m => m.2.2.isNone) = true) :=
  ⟨⟨((st [(.WE_CTL_EN, 1, 0)]).setStrm 63 { words := [0x01010101, 0x01010101, 0, 0, 3, 0, 0, 0] }), ([0x82, 0x80,
    0, 7] ++ List.replicate 8 1), 63, { words := [0x01010101, 0x01010101, 0, 0, 3, 0, 0, 0] }, by decide⟩, ⟨((st
    [(.WE_CTL_EN, 0, 0)]).setStrm 63 { words := [0x01010101, 0x01010101, 0, 0, 3, 0, 0, 0], last := some 9 }),
    ([0x82, 0x80, 40, 7] ++ List.replicate 8 1 ++ [2, 5] ++ List.replicate 18 0 ++ [4, 5] ++ List.replicate 18
    0), 63, 9, { words := [0x01010101, 0x01010101, 0, 0, 3, 0, 0, 0], last := some 9 }, by decide⟩,
    ⟨(State.reset.setStrm 63 { gathered := [(0, List.replicate 16 1, none)], seq := 255 }), 63, by decide⟩,
    ⟨(State.reset.setStrm 63 { gathered := [(0, List.replicate 16 1, some (3, { id := 5 }))], seq := 255 }), 63,
    by decide⟩, ⟨(State.reset.setStrm 63 { gathered := [(0, List.replicate 16 1, none)] }), 63, by decide⟩⟩

theorem witness_SleepRoundsRunAndEnd :
    (∃ (s : State) (who : Initiator) (n : Nat), n < 8 ∧ s.worldOf who = .safety ∧ s.segChans n ≠ [] ∧ (s.segChans
      n).all (fun k => !bit (s.rd .MR_REFCH) k) = true ∧ s.rd .WE_SLP_STAT_STATE n = 0 ∧ (s.sg n).phase = 0 ∧
      s.runsSegs = true ∧ s.masterRuns who = true)
    ∧ (∃ (s : State) (who : Initiator) (n : Nat) (k : Nat), n < 8 ∧ k < 16 ∧ s.segOf k = n ∧ bit (s.rd .MR_REFCH) k =
      true ∧ s.masterRuns who = true)
    ∧ (∃ (s : State) (n : Nat), n < 8 ∧ ((s.sg n).phase = 1 ∨ (s.sg n).phase = 3) ∧ s.awake = true)
    ∧ (∃ (s : State) (n : Nat), n < 8 ∧ (s.sg n).phase = 2 ∧ (s.sg n).heldBy ≠ [] ∧ s.awake = true)
    ∧ (∃ (s : State) (n : Nat), n < 8 ∧ (s.sg n).phase = 2 ∧ (s.sg n).heldBy = [] ∧ (List.range 4).all (fun i => s.rd
      .XCVR_VOTERS (4 * n + i) == 0) = true ∧ s.segOn n = [] ∧ s.awake = true)
    ∧ (∃ (s : State) (n : Nat) (k : Nat), n < 8 ∧ k < 16 ∧ (s.sg n).phase = 4 ∧ s.rd .WE_SLP_STAT_STATE n = 2 ∧
      s.segOf k = n ∧ s.awake = true)
    ∧ (∃ (s : State) (n : Nat), n < 8 ∧ (s.sg n).phase = 5 ∧ s.flag .WE_SLP_CTL_REQ n = true ∧ s.rd .WE_SLP_STAT_STATE
      n = 0 ∧ s.runsSegs = true ∧ s.awake = true) :=
  ⟨⟨(st [(.WE_SLP_STAT_ROUND, 255, 0)]), ⟨3, .safety⟩, 0, by decide⟩, ⟨(st [(.MR_REFCH, 8, 0)]), ⟨3, .safety⟩, 0,
    3, by decide⟩, ⟨(((st [(.WE_SLP_STAT_STATE, 1, 7)])).setSg 7 { phase := 1 }), 7, by decide⟩,
    ⟨((State.reset).setSg 7 { phase := 2, heldBy := [127] }), 7, by decide⟩, ⟨((State.reset).setSg 7
    { phase := 2 }), 7, by decide⟩, ⟨(((st [(.WE_SLP_STAT_STATE, 2, 0)])).setSg 0 { phase := 4 }), 0, 15, by
    decide⟩, ⟨(((st [(.WE_SLP_CTL_REQ, 1, 7)])).setSg 7 { phase := 5 }), 7, by decide⟩⟩

theorem witness_SegmentsAndTransceiversWake :
    (∃ (s : State) (n : Nat) (c : Nat), n < 8 ∧ c < 16 ∧ s.runsSegs = true ∧ s.rd .WE_SLP_STAT_STATE n = 2 ∧ s.awake
      = true)
    ∧ (∃ (s : State) (n : Nat), n < 8 ∧ s.runsSegs = true ∧ s.rd .WE_SLP_STAT_STATE n = 3 ∧ s.awake = true)
    ∧ (∃ (s : State) (n : Nat) (k : Nat), n < 8 ∧ k < 16 ∧ s.segOf k = n ∧ s.runsSegs = true ∧ s.rd .WE_SLP_STAT_STATE
      n = 4 ∧ s.awake = true)
    ∧ (∃ (s : State) (k : Nat), k < 16 ∧ s.rd .XCVR_STAT_MODE k = 3 ∧ s.flag .XCVR_CTL_WAKEEN k = true)
    ∧ (∃ (s : State) (n : Nat), n < 4 ∧ s.unpowered = false ∧ s.rd .SYS_PWR_STAT_STATE = 4 ∧ s.pw.woken = false)
    ∧ (∃ (k : Nat), k < 16) :=
  ⟨⟨(st [(.WE_SLP_STAT_STATE, 2, 7)]), 7, 15, by decide⟩, ⟨(st [(.WE_SLP_STAT_STATE, 3, 7)]), 7, by decide⟩, ⟨(st
    [(.WE_SLP_STAT_STATE, 4, 0)]), 0, 15, by decide⟩, ⟨(st [(.XCVR_STAT_MODE, 3, 15), (.XCVR_CTL_WAKEEN, 1,
    15)]), 15, by decide⟩, ⟨(st [(.SYS_PWR_STAT_STATE, 4, 0)]), 3, by decide⟩, ⟨15, by decide⟩⟩

theorem witness_EthernetFramesInAndOut :
    (∃ (s : State) (p : Nat), p < 8 ∧ s.portUp p = true ∧ s.flag .CF_CTL_EN = true ∧ s.awake = true)
    ∧ (∃ (s : State) (p : Nat) (b : List Nat), p < 8 ∧ s.portUp p = true ∧ s.flag .CF_CTL_EN = true ∧ (b.length + 4 <
      64 ∨ s.rd .CFP_MAXLEN p < b.length + 4) ∧ s.awake = true)
    ∧ (∃ (s : State) (p : Nat) (b : List Nat), p < 8 ∧ s.portUp p = true ∧ s.flag .CF_CTL_EN = true ∧ 64 ≤ b.length +
      4 ∧ b.length + 4 ≤ s.rd .CFP_MAXLEN p ∧ ethType (ethInner b) ≠ 0x8808 ∧ s.awake = true)
    ∧ (∃ (s : State) (p : Nat) (q : Nat) (f : EthFrame) (rest : List EthFrame), p < 8 ∧ s.portUp p = true ∧ s.claim =
      true ∧ q < 8 ∧ s.queue p q = f :: rest ∧ (s.pt p).queues.length = 8 ∧ (List.range 8).all (fun x => x ≤ q
      || (s.queue p x).isEmpty) = true ∧ f.revoke = false ∧ f.desc = none ∧ s.awake = true)
    ∧ (∃ (s : State) (p : Nat) (b : List Nat), p < 8 ∧ s.portUp p = true ∧ s.flag .CF_CTL_EN = true ∧ 64 ≤ b.length +
      4 ∧ b.length + 4 ≤ s.rd .CFP_MAXLEN p ∧ ethType (ethInner b) = 0x8808 ∧ s.awake = true)
    ∧ (∃ (s : State) (q : Nat) (f : EthFrame) (rest : List EthFrame), s.portUp 8 = true ∧ q < 8 ∧ s.queue 8 q = f ::
      rest ∧ (List.range 8).all (fun x => x ≤ q || (s.queue 8 x).isEmpty) = true ∧ f.revoke = false ∧ f.desc =
      none ∧ s.awake = true)
    ∧ (∃ (s : State) (x : Nat) (l : List Nat), s.portUp 9 = true ∧ s.braid.out.getLast? = some (x, l) ∧ s.awake =
      true)
    ∧ (∃ (s : State), (s.portUp 9 = false ∨ s.braid.out = []) ∧ s.awake = true) :=
  ⟨⟨(st [(.CFP_CTL_EN, 1, 7), (.CFP_STAT_LINK, 1, 7), (.CF_CTL_EN, 1, 0)]), 7, by decide⟩, ⟨(st [(.CFP_CTL_EN, 1,
    7), (.CFP_STAT_LINK, 1, 7), (.CF_CTL_EN, 1, 0)]), 7, List.replicate 59 1, by decide⟩, ⟨(st [(.CFP_CTL_EN, 1,
    7), (.CFP_STAT_LINK, 1, 7), (.CF_CTL_EN, 1, 0), (.CFP_MAXLEN, 1522, 7)]), 7, List.replicate 60 1, by
    decide⟩, ⟨((st [(.CFP_CTL_EN, 1, 7), (.CFP_STAT_LINK, 1, 7), (.BR_STAT_CLAIM, 1, 0)]).setPt 7
    { queues := [[], [{ id := 1, bytes := List.replicate 60 1, vid := 0, pcp := 0, gen := 0, inPort := 8, revoke := false, desc := none, len := 64 }], [], [], [], [], [], []] }),
    7, 1,
    { id := 1, bytes := List.replicate 60 1, vid := 0, pcp := 0, gen := 0, inPort := 8, revoke := false, desc := none, len := 64 },
    [], by decide⟩, ⟨(st [(.CFP_CTL_EN, 1, 7), (.CFP_STAT_LINK, 1, 7), (.CF_CTL_EN, 1, 0), (.CFP_MAXLEN, 1522,
    7)]), 7, (List.replicate 12 1 ++ [0x88, 0x08] ++ List.replicate 46 0), by decide⟩, ⟨((st [(.CFP_CTL_EN, 1,
    8)]).setPt 8
    { queues := [[], [{ id := 1, bytes := List.replicate 60 1, vid := 0, pcp := 0, gen := 0, inPort := 3, revoke := false, desc := none, len := 64, host := [2] }], [], [], [], [], [], []] }),
    1,
    { id := 1, bytes := List.replicate 60 1, vid := 0, pcp := 0, gen := 0, inPort := 3, revoke := false, desc := none, len := 64, host := [2] },
    [], by decide⟩,
    ⟨{ (st [(.CFP_CTL_EN, 1, 9), (.CFP_STAT_LINK, 1, 9)]) with braid := { out := [(3, [9]), (2, [1, 2, 3])] } },
    2, [1, 2, 3], by decide⟩, ⟨State.reset, by decide⟩⟩

theorem witness_HostQueuesAndTablesOfTheSwitch :
    (∃ (s : State) (who : Initiator) (i : Nat) (n : Nat), i < 16 ∧ owns (s.worldOf who) (World.ofCode (s.rd
      .HQ_CFG_WORLD i)) = true ∧ n < s.hqSize i ∧ n < 2 ^ (Fld.info .HQ_TAIL).width ∧ s.masterRuns who = true)
    ∧ (∃ (s : State) (who : Initiator) (i : Nat) (n : Nat) (d : Nat), 16 ≤ i ∧ i < 32 ∧ s.flag .HQ_CFG_EN i = true ∧
      owns (s.worldOf who) (World.ofCode (s.rd .HQ_CFG_WORLD i)) = true ∧ d = s.hqDesc i (s.rd .HQ_HEAD i) ∧
      s.rd .HQ_HEAD i ≠ n ∧ n = (s.rd .HQ_HEAD i + 1) % s.hqSize i ∧ n < 2 ^ (Fld.info .HQ_TAIL).width ∧ s.flag
      .CF_CTL_EN = true ∧ bit (s.byteAt (d + 8)) 5 = true ∧ s.byteAt (d + 8) % 16 < 8 ∧ s.portUp (s.byteAt (d +
      8) % 16) = true ∧ s.flag .CFP_CTL_EN 8 = true ∧ s.descOk i d = true ∧ s.hqOk i (leVal (s.bytesAt d 5))
      (cut 14 (s.byteAt (d + 6) + 256 * s.byteAt (d + 7))) .read = true ∧ s.lenOk 8 (s.dataAt (leVal (s.bytesAt
      d 5)) (cut 14 (s.byteAt (d + 6) + 256 * s.byteAt (d + 7)))) = true ∧ s.rd .CFP_SAMPLE_N 8 = 0 ∧
      s.masterRuns who = true)
    ∧ (∃ (s : State) (who : Initiator) (i : Nat), 0 < i ∧ i < 4095 ∧ foreign (s.worldOf who) (bit (NMap.at 0
      s.conf.vlan i) 31) (bits (NMap.at 0 s.conf.vlan i) 28 2) = false ∧ bits (s.cfStage 0) 20 8 = 0 ∧ bit
      (s.cfStage 0) 30 = false ∧ s.masterRuns who = true)
    ∧ (∃ (s : State) (who : Initiator) (e : MacEntry), s.macFind (s.cfStage 0 + 2 ^ 32 * cut 16 (s.cfStage 1)) (bits
      (s.cfStage 1) 16 12) = some e ∧ e.static = false ∧ s.masterRuns who = true) :=
  ⟨⟨State.reset, ⟨0, .secure⟩, 15, 63, by decide⟩, ⟨((st [(.HQ_CFG_EN, 1, 31), (.HQ_HEAD, 63, 31), (.HQ_CFG_WORLD,
    2, 31), (.HQ_BASE_LO, 0x10001000, 31), (.CF_CTL_EN, 1, 0), (.CFP_CTL_EN, 1, 8), (.CFP_CTL_EN, 1, 7),
    (.CFP_STAT_LINK, 1, 7)]).setBytes 0x100017E0 [0, 0x20, 0, 0x10, 0, 0, 60, 0, 0x27, 0]), ⟨0, .secure⟩, 31, 0,
    0x100017E0, by decide⟩, ⟨(st [(.CF_STAGE, (2 ^ 31 + 5), 0)]), ⟨8, .normal⟩, 4094, by decide⟩, ⟨((st
    [(.CF_STAGE, 5, 0), (.CF_STAGE, 65536, 1)]).setMac [⟨5, 1, 2, false, 0, 0⟩]), ⟨8, .normal⟩, ⟨5, 1, 2, false,
    0, 0⟩, by decide⟩⟩

theorem witness_SwitchTimersLinksAndClock :
    (∃ (s : State), s.rd .CF_CTL_AGE ≠ 0 ∧ s.awake = true)
    ∧ (∃ (s : State) (p : Nat), p < 10 ∧ s.awake = true)
    ∧ (∃ (s : State) (p : Nat), p < 10 ∧ s.flag .CFP_STAT_LINK p = true ∧ s.awake = true)
    ∧ (∃ (s : State) (p : Nat), p < 10 ∧ s.flag .CFP_CTL_EN p = true ∧ s.flag .CFP_STAT_LINK p = false ∧ s.awake =
      true)
    ∧ (∃ (s : State) (who : Initiator), owns (s.worldOf who) (World.ofCode (s.rd .CF_PTP_CTL_WORLD)) = true ∧
      s.masterRuns who = true)
    ∧ (∃ (s : State) (who : Initiator), owns (s.worldOf who) (World.ofCode (s.rd .CF_PTP_CTL_WORLD)) = true ∧
      s.masterRuns who = true)
    ∧ (∃ (s : State), s.awake = true)
    ∧ (∃ (s : State), s.awake = true) :=
  ⟨⟨{ (st [(.CF_CTL_AGE, 300, 0)]).setMac [⟨5, 1, 2, false, 0, 0⟩, ⟨5, 1, 2, false, 0, 5⟩] with now := 30000000000 },
    by decide⟩, ⟨(State.reset.setPt 9 { bc := 3 }), 9, by decide⟩, ⟨((st [(.CFP_STAT_LINK, 1, 9)]).setMac [⟨5,
    1, 512, false, 0, 0⟩]), 9, by decide⟩, ⟨(st [(.CFP_CTL_EN, 1, 9), (.CFP_STAT_LINK, 0, 9)]), 9, by decide⟩,
    ⟨(st [(.CF_PTP_SEC_LO, 7, 0)]), ⟨0, .secure⟩, by decide⟩, ⟨State.reset, ⟨0, .secure⟩, by decide⟩,
    ⟨State.reset, by decide⟩, ⟨State.reset, by decide⟩⟩

theorem witness_HeartbeatsMissesAndPresence :
    (∃ (s : State), s.pairMode = true ∧ (s.claim = false ∨ s.braid.kept = true) ∧ s.flag .CFP_CTL_EN 9 = true ∧
      s.flag .CFP_STAT_LINK 9 = true ∧ s.room 9 7 (cellsFor ((s.p9Frame 0x01 s.lastSeq s.heartbeat).length + 4))
      = true ∧ s.awake = true)
    ∧ (∃ (s : State), s.pairMode = true ∧ (s.claim = false ∨ s.braid.kept = true) ∧ s.flag .CFP_CTL_EN 9 = false ∧
      s.awake = true)
    ∧ (∃ (s : State), s.pairMode = true ∧ s.standby = false ∧ s.awake = true)
    ∧ (∃ (s : State), s.pairMode = true ∧ s.brState = 2 ∧ s.awake = true)
    ∧ (∃ (s : State), s.pairMode = true ∧ s.standby = true ∧ s.braid.p9Miss = 2 ∧ s.flag .BR_STAT_HBOK = true ∧
      s.braid.hbMiss = 0 ∧ s.awake = true)
    ∧ (∃ (s : State), s.pairMode = true ∧ s.standby = true ∧ s.braid.hbMiss = 2 ∧ s.flag .BR_STAT_P9OK = false ∧
      s.flag .BR_STAT_PCLAIM = false ∧ s.flag .BR_STAT_SEATED = true ∧ s.braid.presenceAt = none ∧ s.braid.latch
      = false ∧ s.awake = true)
    ∧ (∃ (s : State) (u : Nat), s.pairMode = true ∧ s.standby = false ∧ s.flag .BR_STAT_P9OK = true ∧ s.braid.p9Miss =
      0 ∧ s.braid.bothAt = some u ∧ u + 1000000 ≤ s.now ∧ s.awake = true)
    ∧ (∃ (s : State) (k : Nat), s.flag .BR_STAT_FENCING = true ∧ k < 16 ∧ bit (s.rd .BR_FENCE_FENCECH) k = true ∧
      s.awake = true)
    ∧ (∃ (s : State) (who : Initiator), s.worldOf who = .safety ∧ s.masterRuns who = true)
    ∧ (∃ (s : State), s.pairMode = true ∧ (s.brState = 5 ∨ s.brState = 6) ∧ s.awake = true) :=
  ⟨⟨{ (st [(.BR_CTL_MODE, 1, 0), (.BR_STAT_CLAIM, 1, 0), (.CFP_CTL_EN, 1, 9), (.CFP_STAT_LINK, 1, 9)]) with braid := { kept := true } },
    by decide⟩, ⟨{ (st [(.BR_CTL_MODE, 1, 0), (.BR_STAT_CLAIM, 1, 0)]) with braid := { kept := true } }, by
    decide⟩, ⟨{ (st [(.BR_CTL_MODE, 1, 0)]) with braid := { hbMiss := 2 } }, by decide⟩, ⟨(st [(.BR_CTL_MODE, 1,
    0), (.BR_STAT_STATE, 2, 0)]), by decide⟩,
    ⟨{ (st [(.BR_CTL_MODE, 1, 0), (.BR_STAT_STATE, 4, 0), (.BR_STAT_P9OK, 1, 0), (.BR_STAT_HBOK, 1, 0)]) with braid := { p9Miss := 2 } },
    by decide⟩,
    ⟨{ (st [(.BR_CTL_MODE, 1, 0), (.BR_STAT_STATE, 4, 0), (.BR_STAT_SEATED, 1, 0)]) with braid := { hbMiss := 2 } },
    by decide⟩,
    ⟨{ (st [(.BR_CTL_MODE, 1, 0), (.BR_STAT_FENCING, 1, 0), (.BR_STAT_P9OK, 1, 0)]).setCn 3 { presence := true } with now := 1000005, braid := { bothAt := some 5 } },
    5, by decide⟩, ⟨(st [(.BR_STAT_FENCING, 1, 0), (.BR_FENCE_FENCECH, 32768, 0)]), 15, by decide⟩,
    ⟨State.reset, ⟨3, .safety⟩, by decide⟩,
    ⟨{ (st [(.BR_CTL_MODE, 1, 0), (.BR_STAT_STATE, 5, 0), (.BR_STAT_CLAIM, 1, 0)]) with braid := { kept := true, latch := true } },
    by decide⟩⟩

theorem witness_ClaimIsTakenAndGivenUp :
    (∃ (s : State), s.pairMode = false ∧ s.claim = false ∧ s.flag .BR_STAT_PCLAIM = false ∧ s.braid.restored = true
      ∧ s.braid.entering = false ∧ s.awake = true)
    ∧ (∃ (s : State), s.pairMode = true ∧ s.braid.window = true ∧ s.flag .BR_STAT_UNIT = true ∧ s.awake = true)
    ∧ (∃ (s : State), s.pairMode = true ∧ s.standby = false)
    ∧ (∃ (s : State), s.pairMode = true ∧ s.braid.latch = true ∧ s.flag .BR_STAT_UNIT = true ∧ s.awake = true)
    ∧ (∃ (s : State) (who : Initiator), s.worldOf who = .safety ∧ s.pairMode = true ∧ (s.brState = 5 ∨ s.brState = 6 ∨
      s.braid.latch = true) ∧ s.masterRuns who = true)
    ∧ (∃ (s : State) (who : Initiator), s.worldOf who = .safety ∧ s.pairMode = true ∧ (s.brState = 5 ∨ s.brState = 6)
      ∧ s.flag .CFP_CTL_EN 9 = true ∧ s.flag .CFP_STAT_LINK 9 = true ∧ s.room 9 7 (cellsFor ((s.p9Frame 0x01
      s.lastSeq ({ s with braid := { s.braid with gave := 1 } } : State).heartbeat).length + 4)) = true ∧
      s.masterRuns who = true)
    ∧ (∃ (s : State) (who : Initiator), s.worldOf who = .safety ∧ s.swapOk = true ∧ s.masterRuns who = true)
    ∧ (∃ (s : State) (who : Initiator), s.worldOf who = .safety ∧ s.swapOk = false ∧ s.masterRuns who = true)
    ∧ (∃ (s : State) (who : Initiator), s.worldOf who = .safety ∧ s.adoptOk = true ∧ s.masterRuns who = true)
    ∧ (∃ (s : State) (w : Nat), s.pairMode = true ∧ s.brState = 0 ∧ s.flag .BR_STAT_P9OK = false ∧ s.flag
      .BR_STAT_HBOK = false ∧ s.flag .BR_STAT_SEATED = true ∧ s.flag .BR_STAT_PCLAIM = false ∧ s.rd
      .BR_FENCE_FENCECH ≠ 0 ∧ s.flag .SYS_WAKE_RESTORE = false ∧ s.braid.latch = false ∧ w = (if s.flag
      .BR_STAT_UNIT then 400000000 else 200000000) ∧ s.awake = true)
    ∧ (∃ (s : State), s.awake = true) :=
  ⟨⟨{ State.reset with braid := { restored := true } }, by decide⟩,
    ⟨{ (st [(.BR_CTL_MODE, 1, 0), (.BR_STAT_UNIT, 1, 0)]) with braid := { window := true, latch := true } }, by
    decide⟩, ⟨{ (st [(.BR_CTL_MODE, 1, 0), (.BR_STAT_PCLAIM, 1, 0)]) with braid := { relAt := none } }, by
    decide⟩,
    ⟨{ (st [(.BR_CTL_MODE, 1, 0), (.BR_STAT_STATE, 6, 0), (.BR_STAT_UNIT, 1, 0), (.BR_STAT_CLAIM, 1, 0)]) with braid := { latch := true } },
    by decide⟩,
    ⟨{ (st [(.BR_CTL_MODE, 1, 0), (.BR_STAT_STATE, 6, 0), (.BR_STAT_CLAIM, 1, 0)]) with braid := { latch := true } },
    ⟨3, .safety⟩, by decide⟩,
    ⟨{ (st [(.BR_CTL_MODE, 1, 0), (.BR_STAT_STATE, 6, 0), (.BR_STAT_CLAIM, 1, 0), (.CFP_CTL_EN, 1, 9), (.CFP_STAT_LINK, 1, 9)]) with braid := { latch := true } },
    ⟨3, .safety⟩, by decide⟩,
    ⟨{ (st [(.BR_CTL_MODE, 1, 0), (.BR_STAT_STATE, 5, 0), (.BR_PEER, 4, 0)]) with braid := { agree := 65535 } },
    ⟨3, .safety⟩, by decide⟩, ⟨State.reset, ⟨3, .safety⟩, by decide⟩, ⟨(st [(.BR_CTL_MODE, 1, 0),
    (.BR_STAT_STATE, 2, 0)]), ⟨3, .safety⟩, by decide⟩, ⟨(st [(.BR_CTL_MODE, 1, 0), (.BR_STAT_SEATED, 1, 0),
    (.BR_FENCE_FENCECH, 1, 0), (.BR_STAT_UNIT, 1, 0)]), 400000000, by decide⟩, ⟨State.reset, by decide⟩⟩

theorem witness_MirrorRecordsInOrder :
    (∃ (s : State) (q : Nat) (lag : Nat) (x : BraidRec), s.pairMode = true ∧ (s.brState = 3 ∨ s.brState = 4) ∧ q < 2
      ^ 48 ∧ q = (s.braid.rxSeq + 1) % 2 ^ 48 ∧ lag ≤ 8000 ∧ takenInOrder x = true ∧ s.recordStuck x = false ∧
      s.awake = true)
    ∧ (∃ (s : State) (q : Nat) (x : BraidRec), s.pairMode = true ∧ (s.brState = 3 ∨ s.brState = 4) ∧ q < 2 ^ 48 ∧ q =
      (s.braid.rxSeq + 1) % 2 ^ 48 ∧ takenInOrder x = true ∧ s.recordStuck x = true ∧ s.awake = true)
    ∧ (∃ (s : State) (q : Nat) (x : BraidRec), s.pairMode = true ∧ (s.brState = 4 ∨ (s.brState = 3 ∧ s.braid.rxSeq ≠
      0)) ∧ q < 2 ^ 48 ∧ s.braid.rxSeq + 1 < q ∧ q ≤ s.braid.rxSeq + 65536 ∧ takenInOrder x = true ∧ s.flag
      .CFP_CTL_EN 9 = true ∧ s.flag .CFP_STAT_LINK 9 = true ∧ s.room 9 7 (cellsFor ((s.p9Frame 0x08 s.lastSeq
      (leBytes 6 (s.braid.rxSeq + 1))).length + 4)) = true ∧ s.awake = true)
    ∧ (∃ (s : State) (q : Nat) (x : BraidRec), s.pairMode = true ∧ s.brState = 4 ∧ q < 2 ^ 48 ∧ s.braid.rxSeq + 65536
      < q ∧ takenInOrder x = true ∧ s.awake = true)
    ∧ (∃ (s : State) (a : Nat) (b : Nat) (m : Nat), s.pairMode = true ∧ a < 2 ^ 24 ∧ b < 256 ∧ m < 2 ^ 32 ∧ s.awake =
      true)
    ∧ (∃ (s : State) (q : Nat) (n : Nat) (a : Nat), s.pairMode = true ∧ (s.brState = 5 ∨ s.brState = 4) ∧ q < 2 ^ 48 ∧
      q ≤ s.lastSeq ∧ a ≤ q ∧ s.braid.releases = [(a, .gaugeClose n)] ∧ s.braid.waiting = [] ∧ s.awake = true)
    ∧ (∃ (s : State) (q : Nat) (r : BraidRec) (l : List (Nat × BraidRec)), s.sending = true ∧ (s.braid.sent.filter
      (fun e => q ≤ e.1)).reverse = (q, r) :: l ∧ s.awake = true)
    ∧ (∃ (s : State) (who : Initiator) (w : Nat), w < 3 ∧ s.worldOf who = .safety ∧ s.sending = true ∧ s.rd .BR_PEER %
      16 = 3 ∧ s.rangeOk 0x14 .safety (s.regionAddr w) (s.rd .BR_STATE_LEN w) .read = true ∧ s.masterRuns who =
      true)
    ∧ (∃ (s : State) (who : Initiator) (w : Nat), w < 3 ∧ s.worldOf who = .safety ∧ s.sending = true ∧ s.rd .BR_PEER %
      16 = 3 ∧ s.rangeOk 0x14 .safety (s.regionAddr w) (s.rd .BR_STATE_LEN w) .read = false ∧ s.masterRuns who =
      true)
    ∧ (∃ (s : State) (who : Initiator), s.worldOf who = .safety ∧ who.master ≠ 0xFF ∧ s.syncOk = true ∧ s.masterRuns
      who = true)
    ∧ (∃ (s : State) (n : Nat), s.pairMode = true ∧ s.standby = true ∧ s.flag .BR_CTL_TEST = true ∧ s.rd .BR_LAG <
      4000 ∧ n < 14 ∧ n < s.braid.testTurns.length ∧ s.awake = true)
    ∧ (∃ (s : State), s.awake = true) :=
  ⟨⟨{ (st [(.BR_CTL_MODE, 1, 0), (.BR_STAT_STATE, 4, 0)]) with braid := { rxSeq := 2 ^ 48 - 1 } }, 0, 8000,
    .segment 7 1 255 0, by decide⟩,
    ⟨{ (st [(.BR_CTL_MODE, 1, 0), (.BR_STAT_STATE, 4, 0), (.BR_JUSED, 0xFFFFFFFF, 0)]) with braid := { rxSeq := 7 } },
    8, .journal { jseq := 5, kind := 5, ref := 3, size := 2, work := .evt 3 {} true, bseq := 4 }, by decide⟩,
    ⟨(st [(.BR_CTL_MODE, 1, 0), (.BR_STAT_STATE, 4, 0), (.CFP_CTL_EN, 1, 9), (.CFP_STAT_LINK, 1, 9)]), 2,
    .segment 7 1 255 0, by decide⟩, ⟨(st [(.BR_CTL_MODE, 1, 0), (.BR_STAT_STATE, 4, 0)]), 65537, .segment 7 1
    255 0, by decide⟩, ⟨(st [(.BR_CTL_MODE, 1, 0), (.BR_STAT_STATE, 6, 0)]), 5, 255, 7, by decide⟩,
    ⟨{ (st [(.BR_CTL_MODE, 1, 0), (.BR_STAT_STATE, 5, 0), (.BR_SEQ_LO, 9, 0)]) with braid := { releases := [(9, .gaugeClose 3)] } },
    9, 3, 9, by decide⟩,
    ⟨{ (st [(.BR_CTL_MODE, 1, 0), (.BR_STAT_STATE, 5, 0)]) with braid := { sent := [(4, .decision 1 2), (3, .decision 1 1), (2, .decision 1 0)] } },
    3, .decision 1 1, [(4, .decision 1 2)], by decide⟩, ⟨(st [(.BR_CTL_MODE, 1, 0), (.BR_STAT_STATE, 6, 0),
    (.BR_PEER, 3, 0), (.BR_STATE_LEN, 4, 2), (.BR_STATE_ADDR_LO, 0x10000000, 2), (.HW_RGN_BASE_LO, 0x10000000,
    31), (.HW_RGN_SIZE, 1, 31), (.HW_RGN_PERM_S, 1, 31), (.HW_RGN_PERM_VALID, 1, 31)]), ⟨3, .safety⟩, 2, by
    decide⟩, ⟨(st [(.BR_CTL_MODE, 1, 0), (.BR_STAT_STATE, 6, 0), (.BR_PEER, 3, 0), (.BR_STATE_LEN, 4, 2),
    (.BR_STATE_ADDR_LO, 0x10000000, 2)]), ⟨3, .safety⟩, 2, by decide⟩, ⟨(st [(.BR_CTL_MODE, 1, 0),
    (.BR_STAT_STATE, 2, 0), (.BR_STAT_SEATED, 1, 0), (.BR_STAT_P9OK, 1, 0), (.BR_PEER, 22, 0)]), ⟨3, .safety⟩,
    by decide⟩, ⟨(st [(.BR_CTL_MODE, 1, 0), (.BR_STAT_STATE, 4, 0), (.BR_CTL_TEST, 1, 0)]), 13, by decide⟩,
    ⟨State.reset, by decide⟩⟩

theorem witness_PairsMemoryErrorsAndFerry :
    (∃ (s : State) (p : Nat) (c : Nat) (v : Nat), p < 2 ∧ 1 ≤ c ∧ c ≤ 3 ∧ v < 2 ^ 32 ∧ s.flag .LS_STAT_FROZEN p =
      false ∧ s.flag .LS_STAT_DBGBRK p = false ∧ s.pairMode = false ∧ s.awake = true)
    ∧ (∃ (s : State) (p : Nat), p < 2 ∧ s.flag .LS_STAT_FROZEN p = false ∧ s.flag .LS_STAT_DBGBRK p = false ∧
      s.pairMode = true ∧ s.braid.latch = true ∧ s.awake = true)
    ∧ (∃ (s : State) (who : Initiator) (p : Nat), p < 2 ∧ who.master = 2 - p ∧ s.flag .LS_STAT_ERR p = true ∧
      s.masterRuns who = true)
    ∧ (∃ (s : State) (who : Initiator) (p : Nat), p < 2 ∧ who.master = 2 - p ∧ s.masterRuns who = true)
    ∧ (∃ (s : State) (p : Nat), p < 2 ∧ s.debugOpen = true ∧ s.flag .HW_DBG_SID = true ∧ s.flag .LS_STAT_DBGBRK p =
      false ∧ s.pairMode = false)
    ∧ (∃ (s : State), s.flag .LS_STAT_FROZEN 0 = true ∧ s.flag .LS_STAT_FROZEN 1 = true ∧ s.awake = true)
    ∧ (∃ (s : State) (who : Initiator) (a : Nat) (m : Nat), m < 6 ∧ a < 2 ^ 40 ∧ who.master < 256 ∧ s.masterRuns who =
      true)
    ∧ (∃ (s : State) (g : Nat), g < 4 ∧ s.dieReach g = true ∧ s.pw.off = false ∧ (s.di g).missed < 3 ∧ s.awake = true)
    ∧ (∃ (s : State) (g : Nat), g < 4 ∧ s.dieReach g = true ∧ s.pw.off = false ∧ (s.di g).missed < 3 ∧ s.flag
      .FG_CTL_EN = false ∧ s.awake = true)
    ∧ (∃ (s : State) (g : Nat) (d : Die), g < 4 ∧ s.di g = d ∧ d.up = true ∧ s.pw.off = false ∧ d.news = [] ∧
      s.ferry.reports.filter (·.die == g) = [] ∧ s.ferry.writes.filter (·.die == g) = [] ∧
      s.ferry.rebooted.contains g = false ∧ s.awake = true)
    ∧ (∃ (s : State) (g : Nat) (k : Nat) (v : Nat) (b : Bool) (full : Bool) (d : Die), g < 4 ∧ k < 48 ∧ v < 2 ^ 51 ∧
      s.di g = d ∧ d.up = true ∧ s.pw.off = false ∧ d.news = [(k, b, v, full)] ∧ s.ferry.reports.filter (·.die
      == g) = [] ∧ s.ferry.writes.filter (·.die == g) = [] ∧ s.ferry.rebooted.contains g = false ∧ s.flag
      .FG_CTL_EN = false ∧ s.awake = true)
    ∧ (∃ (s : State) (g : Nat) (r : DieReport), g < 4 ∧ (s.di g).up = true ∧ s.pw.off = false ∧ (s.di g).news = [] ∧
      s.ferry.reports = [r] ∧ r.die = g ∧ s.ferry.writes = [] ∧ s.ferry.rebooted.contains g = false ∧ s.eseq <
      0xFFFFFFFF ∧ s.awake = true)
    ∧ (∃ (s : State) (g : Nat), g < 4 ∧ (s.di g).pairFlag = true ∧ (s.di g).up = true ∧ s.flag .FG_CTL_EN = false ∧
      s.awake = true)
    ∧ (∃ (s : State) (g : Nat), g < 4 ∧ s.awake = true)
    ∧ (∃ (s : State) (g : Nat) (d : Die), g < 4 ∧ s.di g = d ∧ 8 ≤ d.crcRun ∧ 2 ≤ d.retrains ∧ s.ferry.writes = [] ∧
      s.awake = true)
    ∧ (∃ (s : State), s.awake = true) :=
  ⟨⟨State.reset, 1, 3, (2 ^ 32 - 1), by decide⟩,
    ⟨{ (st [(.BR_CTL_MODE, 1, 0), (.BR_STAT_STATE, 5, 0), (.BR_STAT_CLAIM, 1, 0)]) with braid := { latch := true } },
    1, by decide⟩, ⟨(st [(.LS_STAT_ERR, 1, 1), (.LS_STAT_FROZEN, 1, 1)]), ⟨1, .safety⟩, 1, by decide⟩,
    ⟨State.reset, ⟨2, .safety⟩, 0, by decide⟩, ⟨(st [(.HW_STAT_READY, 1, 0), (.HW_DBG_SID, 1, 0)]), 1, by
    decide⟩, ⟨(st [(.LS_STAT_FROZEN, 1, 0), (.LS_STAT_FROZEN, 1, 1)]), by decide⟩, ⟨State.reset, ⟨255, .normal⟩,
    (2 ^ 40 - 1), 5, by decide⟩, ⟨State.reset, 3, by decide⟩, ⟨State.reset, 3, by decide⟩, ⟨(State.reset.setDi 3
    { missed := 2, fifo := [⟨1, 36, true, false, 0⟩] }), 3, { missed := 2, fifo := [⟨1, 36, true, false, 0⟩] },
    by decide⟩, ⟨(State.reset.setDi 3 { news := [(40, true, 2 ^ 50, true)] }), 3, 40, (2 ^ 50), true, true,
    { news := [(40, true, 2 ^ 50, true)] }, by decide⟩,
    ⟨{ State.reset with ferry := { reports := [⟨3, 77, 1, [31, 5], .normal⟩] } }, 3, ⟨3, 77, 1, [31, 5],
    .normal⟩, by decide⟩, ⟨((st [(.SL_WD_STAT_ACT, 1, 3)]).setDi 3 { pairFlag := true }), 3, by decide⟩,
    ⟨State.reset, 3, by decide⟩, ⟨((st [(.FY_STAT_UP, 15, 0), (.FY_STAT_REACH, 15, 0)]).setDi 3
    { crcRun := 8, retrains := 2 }), 3, { crcRun := 8, retrains := 2 }, by decide⟩, ⟨State.reset, by decide⟩⟩

theorem witness_MailboxesAndLocks :
    (∃ (s : State) (who : Initiator) (e : Nat) (r : Nat) (h : Nat), e < 8 ∧ r < 8 ∧ e ≠ r ∧ h < 2 ^ 32 ∧ who.master
      = eddyMaster e ∧ (s.ed (8 * e + r)).words.length < 4 ∧ s.masterRuns who = true)
    ∧ (∃ (s : State) (who : Initiator) (e : Nat) (r : Nat), e < 8 ∧ r < 8 ∧ e ≠ r ∧ who.master = eddyMaster e ∧ 4 ≤
      (s.ed (8 * e + r)).words.length ∧ s.masterRuns who = true)
    ∧ (∃ (s : State) (who : Initiator) (e : Nat) (r : Nat), e < 8 ∧ r < 8 ∧ e ≠ r ∧ who.master = eddyMaster e ∧ (s.ed
      (8 * e + r)).words ≠ [] ∧ s.masterRuns who = true)
    ∧ (∃ (s : State) (who : Initiator) (e : Nat) (r : Nat) (w : Nat) (l : List Nat), e < 8 ∧ r < 8 ∧ e ≠ r ∧
      who.master = eddyMaster r ∧ (s.ed (8 * e + r)).words = w :: l ∧ s.masterRuns who = true)
    ∧ (∃ (s : State) (e : Nat) (r : Nat), e < 8 ∧ r < 8 ∧ e ≠ r ∧ (s.ed (8 * e + r)).timer = true ∧ s.awake = true)
    ∧ (∃ (s : State) (who : Initiator) (n : Nat), n < 64 ∧ who.master < 256 ∧ lockOpen n (s.worldOf who) = true ∧
      (s.lk n).owner = none ∧ s.masterRuns who = true)
    ∧ (∃ (s : State) (who : Initiator) (n : Nat), n < 64 ∧ who.master < 256 ∧ (s.lk n).owner = some who.master ∧
      s.masterRuns who = true) :=
  ⟨⟨(State.reset.setEd 6 { words := [1, 2, 3] }), ⟨8, .normal⟩, 0, 6, 5, by decide⟩, ⟨(State.reset.setEd 6
    { words := [1, 2, 3, 4] }), ⟨8, .normal⟩, 0, 6, by decide⟩, ⟨(State.reset.setEd 6 { words := [1] }), ⟨8,
    .normal⟩, 0, 6, by decide⟩, ⟨(State.reset.setEd 6 { words := [1] }), ⟨0, .secure⟩, 0, 6, 1, [], by decide⟩,
    ⟨(State.reset.setEd 6 { words := [1], timer := true }), 0, 6, by decide⟩, ⟨State.reset, ⟨8, .normal⟩, 31, by
    decide⟩, ⟨(State.reset.setLk 63 ⟨some 0, false⟩), ⟨0, .secure⟩, 63, by decide⟩⟩

theorem witness_DeltaQueuesRunTheirDescriptors :
    (∃ (s : State) (who : Initiator) (q : Nat) (n : Nat) (d : List Nat), q < 64 ∧ owns (s.worldOf who) (World.ofCode
      (s.rd .DM_FCFG_WORLD (s.rd .DM_QCFG_FUNC q))) = true ∧ s.rd .DQ_TAIL q < s.ringSize q ∧ n = (s.rd .DQ_TAIL
      q + 1) % s.ringSize q ∧ s.ringSize q ≤ 4096 ∧ 1 < s.ringSize q ∧ d = s.bytesAt (s.descAddr q (s.rd
      .DQ_TAIL q)) 64 ∧ s.dbCode q [(s.rd .DQ_TAIL q, d)] = 0 ∧ s.pairMode = false ∧ s.brState < 3 ∧
      s.braid.arrived = [] ∧ s.jRoom (.delta q (s.rd .DQ_TAIL q) d) = true ∧ s.masterRuns who = true)
    ∧ (∃ (s : State) (who : Initiator) (q : Nat) (n : Nat) (d : List Nat), q < 64 ∧ owns (s.worldOf who) (World.ofCode
      (s.rd .DM_FCFG_WORLD (s.rd .DM_QCFG_FUNC q))) = true ∧ s.rd .DQ_TAIL q < s.ringSize q ∧ n = (s.rd .DQ_TAIL
      q + 1) % s.ringSize q ∧ 1 < s.ringSize q ∧ d = s.bytesAt (s.descAddr q (s.rd .DQ_TAIL q)) 64 ∧ s.dbCode q
      [(s.rd .DQ_TAIL q, d)] = 0 ∧ s.pairMode = true ∧ s.brState = 5 ∧ s.braid.arrived = [] ∧ s.masterRuns who =
      true)
    ∧ (∃ (s : State) (who : Initiator) (q : Nat) (n : Nat) (c : Nat), q < 64 ∧ owns (s.worldOf who) (World.ofCode
      (s.rd .DM_FCFG_WORLD (s.rd .DM_QCFG_FUNC q))) = true ∧ n < s.ringSize q ∧ s.dbCode q [] = c ∧ (c = 1 ∨ c =
      2 ∨ c = 3) ∧ s.masterRuns who = true)
    ∧ (∃ (s : State) (who : Initiator) (q : Nat), q < 64 ∧ owns (s.worldOf who) (World.ofCode (s.rd .DM_FCFG_WORLD
      (s.rd .DM_QCFG_FUNC q))) = true ∧ s.flag .DQ_CTL_EN q = false ∧ s.masterRuns who = true)
    ∧ (∃ (s : State) (e : Nat) (q : Nat) (i : Nat) (j : Nat) (d : List Nat) (l : List (Nat × List Nat × Nat)), e < 8 ∧
      s.delta.stage.length = 8 ∧ (s.delta.stage.getD e []).length < 8 ∧ s.roundOver (engineClass e) = false ∧
      ((List.range 64).map (fun i => (s.delta.last.getD (engineClass e) 63 + 1 + i) % 64)).find? (fun q => s.rd
      .DM_QCFG_CLASS q = engineClass e && s.queueReady q) = some q ∧ (s.dqu q).ring = (i, d, j) :: l ∧ s.awake =
      true)
    ∧ (∃ (s : State) (q : Nat) (o : DeltaOp), q < 64 ∧ (s.dqu q).fly = some o ∧ (s.delta.stage.getD o.unit []).head? =
      some q ∧ o.stop = none ∧ o.fate = none ∧ (s.opRun (s.rd .DM_QCFG_FUNC q) o).status ≠ 1 ∧ s.awake = true)
    ∧ (∃ (s : State) (q : Nat) (f : Nat) (o : DeltaOp), q < 64 ∧ (s.dqu q).fly = some o ∧ (s.delta.stage.getD o.unit
      []).head? = some q ∧ o.stop = none ∧ o.fate = some f ∧ s.awake = true)
    ∧ (∃ (s : State) (q : Nat) (o : DeltaOp), q < 64 ∧ (s.dqu q).fly = some o ∧ (s.delta.stage.getD o.unit []).head? =
      some q ∧ o.stop = none ∧ o.fate = none ∧ dOp o.desc ≠ 0x02 ∧ s.awake = true)
    ∧ (∃ (s : State) (who : Initiator) (q : Nat) (v : Nat), q < 64 ∧ 1 ≤ v ∧ v ≤ 255 ∧ s.fnWrite who (s.rd
      .DM_QCFG_FUNC q) = true ∧ s.masterRuns who = true)
    ∧ (∃ (s : State) (n : Nat), n < 32 ∧ bit (s.rd .DM_RSTBUSY) n = false ∧ s.awake = true)
    ∧ (∃ (s : State) (n : Nat), n < 32 ∧ bit (s.rd .DM_RSTBUSY) n = true ∧ s.awake = true)
    ∧ (∃ (s : State) (n : Nat), n < 32 ∧ bit (s.rd .DM_RSTBUSY) n = true ∧ s.inflOf n = 0 ∧ s.awake = true) :=
  ⟨⟨((st [(.DQ_CTL_EN, 1, 63), (.DM_QCFG_FUNC, 31, 63), (.DM_FCFG_EN, 1, 31), (.DM_FCFG_WORLD, 2, 31),
    (.DM_CTL_EN, 1, 0), (.DQ_RING_LO, 0x10000000, 63), (.DQ_TAIL, 15, 63)]).setBytes 0x100003C0 (1 ::
    List.replicate 63 0)), ⟨0, .secure⟩, 63, 0, (1 :: List.replicate 63 0), by decide⟩, ⟨((st [(.BR_CTL_MODE, 1,
    0), (.BR_STAT_STATE, 5, 0), (.DQ_CTL_EN, 1, 63), (.DM_QCFG_FUNC, 31, 63), (.DM_FCFG_EN, 1, 31),
    (.DM_FCFG_WORLD, 2, 31), (.DM_CTL_EN, 1, 0), (.DQ_RING_LO, 0x10000000, 63), (.DQ_TAIL, 15, 63)]).setBytes
    0x100003C0 (1 :: List.replicate 63 0)), ⟨0, .secure⟩, 63, 0, (1 :: List.replicate 63 0), by decide⟩,
    ⟨State.reset, ⟨8, .normal⟩, 0, 15, 1, by decide⟩, ⟨(st [(.DQ_TAIL, 5, 63), (.DM_QCFG_FUNC, 3, 63)]), ⟨8,
    .normal⟩, 63, by decide⟩, ⟨((st [(.DQ_STAT_PEND, 1, 63)]).setDq 63
    { ring := [(5, (1 :: List.replicate 63 0), 9)], credit := 4096 }), 3, 63, 5, 9, (1 :: List.replicate 63 0),
    [], by decide⟩,
    ⟨{ (State.reset.setDq 63 { fly := some { unit := 7 } }) with delta := { stage := [[], [], [], [], [], [], [], [63]] } },
    63, { unit := 7 }, by decide⟩,
    ⟨{ (State.reset.setDq 63 { fly := some { unit := 7, fate := some 5 } }) with delta := { stage := [[], [], [], [], [], [], [], [63]] } },
    63, 5, { unit := 7, fate := some 5 }, by decide⟩,
    ⟨{ (State.reset.setDq 63 { fly := some { unit := 7 } }) with delta := { stage := [[], [], [], [], [], [], [], [63]] } },
    63, { unit := 7 }, by decide⟩, ⟨State.reset, ⟨8, .normal⟩, 63, 255, by decide⟩, ⟨((st [(.DM_QCFG_FUNC, 31,
    63), (.DM_QCFG_RSTMODE, 1, 63)]).setDq 63 { fly := some {} }), 31, by decide⟩, ⟨((st [(.DM_RSTBUSY, 2 ^ 31,
    0), (.DM_QCFG_FUNC, 31, 63)]).setDq 63 { fly := some {} }), 31, by decide⟩, ⟨((st [(.DM_RSTBUSY, 2 ^ 31, 0),
    (.DM_QCFG_FUNC, 31, 63)]).setDq 63 { ring := [(5, (1 :: List.replicate 63 0), 9)] }), 31, by decide⟩⟩

theorem witness_CallsRandomAndReturns :
    (∃ (s : State) (h : Nat) (p : Nat) (v : Nat), h < 4 ∧ s.head.calling.getD h none = none ∧ s.head.calling.length
      = 4 ∧ v < 65536 ∧ services.contains v = true ∧ p < 32 ∧ (s.ed (8 * h + 6)).words = [] ∧ s.awake = true)
    ∧ (∃ (s : State) (h : Nat) (v : Nat) (ok : Bool) (x : Hart), h < 4 ∧ s.head.calling.getD h none = none ∧ (ok =
      false ∨ services.contains (v % 2 ^ 64) = false) ∧ NMap.at {} s.hart h = x ∧ x.x.length = 32 ∧ s.awake =
      true)
    ∧ (∃ (s : State) (h : Nat) (x : Hart), h < 4 ∧ (s.head.calling.getD h none).isSome = true ∧ NMap.at {} s.hart h =
      x ∧ x.x.length = 32 ∧ s.awake = true)
    ∧ (∃ (s : State) (h : Nat) (x : Hart), h < 4 ∧ NMap.at {} s.hart h = x ∧ x.mode = 3 ∧ s.awake = true)
    ∧ (∃ (s : State) (h : Nat) (x : Hart), h < 4 ∧ NMap.at {} s.hart h = x ∧ x.mode ≠ 3 ∧ s.awake = true)
    ∧ (∃ (s : State) (e : Nat) (c : Call), s.nextCall = some e ∧ (s.ed (8 * e + 6)).words.headD 0 % 65536 = 1 ∧ s.flag
      .HW_STAT_READY = true ∧ s.head.halted = false ∧ c = s.callOf e ∧ s.awake = true)
    ∧ (∃ (s : State) (e : Nat) (c : Call) (x : Hart), s.nextCall = some e ∧ (s.ed (8 * e + 6)).words.headD 0 % 65536 =
      1 ∧ s.flag .HW_STAT_READY = true ∧ s.head.halted = false ∧ c = s.callOf e ∧ e < 4 ∧ s.head.calling.getD e
      none = some c.seq ∧ s.flag .HW_STAT_TRNGFAIL = false ∧ NMap.at {} s.hart e = x ∧ x.x.length = 32 ∧ s.awake
      = true)
    ∧ (∃ (s : State) (e : Nat) (c : Call), s.nextCall = some e ∧ (s.ed (8 * e + 6)).words.headD 0 % 65536 = 32 ∧
      s.flag .HW_STAT_READY = true ∧ s.head.halted = false ∧ c = s.callOf e ∧ c.arg.getD 0 0 < 6 ∧ s.bufOk c
      (cut 40 (c.arg.getD 1 0)) 48 .write = true ∧ s.awake = true) :=
  ⟨⟨State.reset, 3, 31, 32, by decide⟩, ⟨State.reset, 3, 32, false, {}, by decide⟩,
    ⟨{ State.reset with head := { calling := [none, none, none, some 5] } }, 3, {}, by decide⟩, ⟨State.reset, 3,
    {}, by decide⟩, ⟨{ State.reset with hart := [(3, { mode := 1, pc := 4 })] }, 3, { mode := 1, pc := 4 }, by
    decide⟩,
    ⟨{ ((st [(.HW_STAT_READY, 1, 0), (.HW_STAT_KEYLESS, 0, 0)]).setEd 6 { words := [(1 + 5 * 2 ^ 32), 0, 0, 0] }) with head := { slots := [] } },
    0,
    (({ ((st [(.HW_STAT_READY, 1, 0), (.HW_STAT_KEYLESS, 0, 0)]).setEd 6 { words := [(1 + 5 * 2 ^ 32), 0, 0, 0] }) with head := { slots := [] } }).callOf
    0), by decide⟩,
    ⟨{ ((st [(.HW_STAT_READY, 1, 0), (.HW_STAT_KEYLESS, 0, 0)]).setEd 6 { words := [(1 + 5 * 2 ^ 32), 0, 0, 0] }) with head := { slots := [], calling := [some 5, none, none, none] } },
    0,
    (({ ((st [(.HW_STAT_READY, 1, 0), (.HW_STAT_KEYLESS, 0, 0)]).setEd 6 { words := [(1 + 5 * 2 ^ 32), 0, 0, 0] }) with head := { slots := [], calling := [some 5, none, none, none] } }).callOf
    0), {}, by decide⟩,
    ⟨{ ((st [(.HW_STAT_READY, 1, 0), (.HW_STAT_KEYLESS, 0, 0), (.HW_RGN_BASE_LO, 0x10000000, 0), (.HW_RGN_SIZE, 1, 0), (.HW_RGN_PERM_N, 3, 0), (.HW_RGN_PERM_VALID, 1, 0)]).setEd 6 { words := [(32 + 5 * 2 ^ 32), 5, 0x10000FD0, 0] }) with head := { slots := [], measure := List.replicate 6 (List.replicate 48 3) } },
    0,
    (({ ((st [(.HW_STAT_READY, 1, 0), (.HW_STAT_KEYLESS, 0, 0), (.HW_RGN_BASE_LO, 0x10000000, 0), (.HW_RGN_SIZE, 1, 0), (.HW_RGN_PERM_N, 3, 0), (.HW_RGN_PERM_VALID, 1, 0)]).setEd 6 { words := [(32 + 5 * 2 ^ 32), 5, 0x10000FD0, 0] }) with head := { slots := [], measure := List.replicate 6 (List.replicate 48 3) } }).callOf
    0), by decide⟩⟩

theorem witness_KeyServicesActOnTheirSlot :
    (∃ (s : State) (e : Nat) (c : Call) (n : Nat), s.nextCall = some e ∧ (s.ed (8 * e + 6)).words.headD 0 % 65536 =
      18 ∧ s.flag .HW_STAT_READY = true ∧ s.head.halted = false ∧ s.flag .HW_STAT_KEYLESS = false ∧ c = s.callOf
      e ∧ s.useKey c (c.lo 0) (fun _ => true) = .inr n ∧ s.awake = true)
    ∧ (∃ (s : State) (e : Nat) (c : Call) (n : Nat), s.nextCall = some e ∧ (s.ed (8 * e + 6)).words.headD 0 % 65536 =
      17 ∧ s.flag .HW_STAT_READY = true ∧ s.head.halted = false ∧ s.flag .HW_STAT_KEYLESS = false ∧ c = s.callOf
      e ∧ s.useKey c (c.lo 0) (fun _ => true) = .inr n ∧ 4 ≤ n ∧ s.awake = true)
    ∧ (∃ (s : State) (e : Nat) (c : Call) (n : Nat) (m : Nat), s.nextCall = some e ∧ (s.ed (8 * e + 6)).words.headD 0
      % 65536 = 16 ∧ s.flag .HW_STAT_READY = true ∧ s.head.halted = false ∧ s.flag .HW_STAT_KEYLESS = false ∧ c
      = s.callOf e ∧ attrRange (c.hi 0) = true ∧ s.useKey c (c.lo 0) (fun k => bit k.attr 5) = .inr n ∧ attrOwn
      c (c.hi 0) = true ∧ (bit (c.hi 0) 0 = false ∨ bit (s.slot n).attr 0 = true) ∧ (s.flag .HW_STAT_TRNGFAIL =
      false ∨ (bits (c.hi 0) 7 3 ≠ 3 ∧ bits (c.hi 0) 7 3 ≠ 4)) ∧ s.freeSlot = some m ∧ s.awake = true)
    ∧ (∃ (s : State) (e : Nat) (c : Call) (n : Nat) (w : Nat), s.nextCall = some e ∧ (s.ed (8 * e + 6)).words.headD 0
      % 65536 = 19 ∧ s.flag .HW_STAT_READY = true ∧ s.head.halted = false ∧ s.flag .HW_STAT_KEYLESS = false ∧ c
      = s.callOf e ∧ s.useKey c (c.lo 0) (fun k => bit k.attr 0) = .inr n ∧ s.useKey c (c.hi 0) wraps = .inr w ∧
      (s.slot n).world = (s.slot w).world ∧ s.bufOk c (cut 40 (c.arg.getD 1 0)) 64 .write = true ∧ s.awake =
      true)
    ∧ (∃ (s : State) (e : Nat) (c : Call) (w : Nat) (m : Nat), s.nextCall = some e ∧ (s.ed (8 * e + 6)).words.headD 0
      % 65536 = 20 ∧ s.flag .HW_STAT_READY = true ∧ s.head.halted = false ∧ s.flag .HW_STAT_KEYLESS = false ∧ c
      = s.callOf e ∧ attrRange (c.hi 0) = true ∧ s.useKey c (c.lo 0) wraps = .inr w ∧ attrOwn c (c.hi 0) = true
      ∧ World.ofCode (bits (c.hi 0) 10 2) = (s.slot w).world ∧ s.bufOk c (cut 40 (c.arg.getD 1 0)) (blobLen
      (keyBytes (bits (c.hi 0) 7 3))) .read = true ∧ s.freeSlot = some m ∧ s.awake = true)
    ∧ (∃ (s : State) (e : Nat) (c : Call) (n : Nat), s.nextCall = some e ∧ (s.ed (8 * e + 6)).words.headD 0 % 65536 =
      21 ∧ s.flag .HW_STAT_READY = true ∧ s.head.halted = false ∧ s.flag .HW_STAT_KEYLESS = false ∧ c = s.callOf
      e ∧ s.useKey c (c.lo 0) (fun k => k.type = 3 || k.type = 4) = .inr n ∧ s.bufOk c (cut 40 (c.arg.getD 1 0))
      96 .write = true ∧ s.awake = true) :=
  ⟨⟨{ ((st [(.HW_STAT_READY, 1, 0), (.HW_STAT_KEYLESS, 0, 0)]).setEd 6 { words := [(18 + 5 * 2 ^ 32), (8 + 7 * 256), 0, 0] }) with head := { slots := [(8, { a := [1, 2], b := [3, 4], gen := 7, attr := 256 })] } },
    0,
    (({ ((st [(.HW_STAT_READY, 1, 0), (.HW_STAT_KEYLESS, 0, 0)]).setEd 6 { words := [(18 + 5 * 2 ^ 32), (8 + 7 * 256), 0, 0] }) with head := { slots := [(8, { a := [1, 2], b := [3, 4], gen := 7, attr := 256 })] } }).callOf
    0), 8, by decide⟩,
    ⟨{ ((st [(.HW_STAT_READY, 1, 0), (.HW_STAT_KEYLESS, 0, 0)]).setEd 6 { words := [(17 + 5 * 2 ^ 32), (8 + 7 * 256), 0, 0] }) with head := { slots := [(8, { a := [1, 2], b := [3, 4], gen := 7, attr := 256 })] } },
    0,
    (({ ((st [(.HW_STAT_READY, 1, 0), (.HW_STAT_KEYLESS, 0, 0)]).setEd 6 { words := [(17 + 5 * 2 ^ 32), (8 + 7 * 256), 0, 0] }) with head := { slots := [(8, { a := [1, 2], b := [3, 4], gen := 7, attr := 256 })] } }).callOf
    0), 8, by decide⟩,
    ⟨{ ((st [(.HW_STAT_READY, 1, 0), (.HW_STAT_KEYLESS, 0, 0)]).setEd 6 { words := [(16 + 5 * 2 ^ 32), (8 + 7 * 256 + 128 * 2 ^ 32), 0, 0] }) with head := { slots := [(8, { a := [1, 2], b := [3, 4], gen := 7, attr := (256 + 32) })] } },
    0,
    (({ ((st [(.HW_STAT_READY, 1, 0), (.HW_STAT_KEYLESS, 0, 0)]).setEd 6 { words := [(16 + 5 * 2 ^ 32), (8 + 7 * 256 + 128 * 2 ^ 32), 0, 0] }) with head := { slots := [(8, { a := [1, 2], b := [3, 4], gen := 7, attr := (256 + 32) })] } }).callOf
    0), 8, 9, by decide⟩,
    ⟨{ ((st [(.HW_STAT_READY, 1, 0), (.HW_STAT_KEYLESS, 0, 0), (.HW_RGN_BASE_LO, 0x10000000, 0), (.HW_RGN_SIZE, 1, 0), (.HW_RGN_PERM_N, 3, 0), (.HW_RGN_PERM_VALID, 1, 0)]).setEd 6 { words := [(19 + 5 * 2 ^ 32), (8 + 7 * 256 + (8 + 7 * 256) * 2 ^ 32), 0x10000000, 0] }) with head := { slots := [(8, { a := [1, 2], b := [3, 4], gen := 7, attr := (256 + 64 + 1) })] } },
    0,
    (({ ((st [(.HW_STAT_READY, 1, 0), (.HW_STAT_KEYLESS, 0, 0), (.HW_RGN_BASE_LO, 0x10000000, 0), (.HW_RGN_SIZE, 1, 0), (.HW_RGN_PERM_N, 3, 0), (.HW_RGN_PERM_VALID, 1, 0)]).setEd 6 { words := [(19 + 5 * 2 ^ 32), (8 + 7 * 256 + (8 + 7 * 256) * 2 ^ 32), 0x10000000, 0] }) with head := { slots := [(8, { a := [1, 2], b := [3, 4], gen := 7, attr := (256 + 64 + 1) })] } }).callOf
    0), 8, 8, by decide⟩,
    ⟨{ ((st [(.HW_STAT_READY, 1, 0), (.HW_STAT_KEYLESS, 0, 0), (.HW_RGN_BASE_LO, 0x10000000, 0), (.HW_RGN_SIZE, 1, 0), (.HW_RGN_PERM_N, 3, 0), (.HW_RGN_PERM_VALID, 1, 0)]).setEd 6 { words := [(20 + 5 * 2 ^ 32), (8 + 7 * 256 + 128 * 2 ^ 32), 0x10000000, 0] }) with head := { slots := [(8, { a := [1, 2], b := [3, 4], gen := 7, attr := (256 + 64) })] } },
    0,
    (({ ((st [(.HW_STAT_READY, 1, 0), (.HW_STAT_KEYLESS, 0, 0), (.HW_RGN_BASE_LO, 0x10000000, 0), (.HW_RGN_SIZE, 1, 0), (.HW_RGN_PERM_N, 3, 0), (.HW_RGN_PERM_VALID, 1, 0)]).setEd 6 { words := [(20 + 5 * 2 ^ 32), (8 + 7 * 256 + 128 * 2 ^ 32), 0x10000000, 0] }) with head := { slots := [(8, { a := [1, 2], b := [3, 4], gen := 7, attr := (256 + 64) })] } }).callOf
    0), 8, 9, by decide⟩,
    ⟨{ ((st [(.HW_STAT_READY, 1, 0), (.HW_STAT_KEYLESS, 0, 0), (.HW_RGN_BASE_LO, 0x10000000, 0), (.HW_RGN_SIZE, 1, 0), (.HW_RGN_PERM_N, 3, 0), (.HW_RGN_PERM_VALID, 1, 0)]).setEd 6 { words := [(21 + 5 * 2 ^ 32), (8 + 7 * 256), 0x10000000, 0] }) with head := { slots := [(8, { a := [1, 2], b := [3, 4], gen := 7, attr := (3 * 128) })] } },
    0,
    (({ ((st [(.HW_STAT_READY, 1, 0), (.HW_STAT_KEYLESS, 0, 0), (.HW_RGN_BASE_LO, 0x10000000, 0), (.HW_RGN_SIZE, 1, 0), (.HW_RGN_PERM_N, 3, 0), (.HW_RGN_PERM_VALID, 1, 0)]).setEd 6 { words := [(21 + 5 * 2 ^ 32), (8 + 7 * 256), 0x10000000, 0] }) with head := { slots := [(8, { a := [1, 2], b := [3, 4], gen := 7, attr := (3 * 128) })] } }).callOf
    0), 8, by decide⟩⟩

theorem witness_HeadwaterGuardsAndRestarts :
    (∃ (s : State), s.pw.key = true ∧ s.overridden 2 0x2A04 false = false ∧ s.flag .HW_STAT_TRNGFAIL = false ∧
      s.awake = true)
    ∧ (∃ (s : State) (l : List Nat) (c : List Nat) (t0 : Nat), s.pw.key = true ∧ s.overridden 2 0x2A05 true = false ∧
      l.length = 104 ∧ s.head.challenge = some (t0, c) ∧ s.now ≤ t0 + 6000000000 ∧ leVal (l.take 8) < 64 ∧
      s.locked 2 = false ∧ s.awake = true)
    ∧ (∃ (s : State) (l : List Nat), s.pw.key = true ∧ s.overridden 2 0x2A05 true = false ∧ l.length = 104 ∧ s.tokenOk
      l = false ∧ s.awake = true)
    ∧ (∃ (s : State) (c : Nat), (c ≠ 2 ∨ s.pw.key = false) ∧ s.awake = true)
    ∧ (∃ (s : State) (who : Initiator), s.worldOf who ≠ .normal ∧ s.masterRuns who = true)
    ∧ (∃ (s : State), s.awake = true)
    ∧ (∃ (s : State), s.awake = true)
    ∧ (∃ (s : State), s.awake = true)
    ∧ (∃ (s : State), s.awake = true)
    ∧ (∃ (s : State) (n : Nat), n < 8 ∧ s.unpowered = false ∧ bit (s.rd .TP_CFG) (4 * n) = true ∧ s.rd
      .SYS_PWR_STAT_STATE < 3 ∧ 2 ≤ bits (s.rd .TP_CFG) (4 * n + 1) 2)
    ∧ (∃ (s : State), s.pw.key = true ∧ s.overridden 2 0x2A32 true = false ∧ s.awake = true)
    ∧ (∃ (s : State) (l : List Nat), l.length = 32 ∧ s.awake = true)
    ∧ (∃ (s : State) (l : List Nat), s.head.quoteWait = some l ∧ s.flag .HW_STAT_KEYLESS = false ∧ s.awake = true)
    ∧ (∃ (s : State) (b : Nat), b < 7 ∧ b ≠ 5 ∧ bit s.inUse b = true ∧ s.awake = true)
    ∧ (∃ (s : State) (who : Initiator) (r : Nat) (v : Nat) (i : Nat), r < 8 ∧ s.worldOf who = .secure ∧ s.frozen who 0
      = false ∧ (waCount r).filter (fun j => bits v (2 * j) 2 ≠ bits (s.rd (waFld r).1 (waFld r).2) (2 * j) 2) =
      [i] ∧ bits v (2 * i) 2 ≠ 3 ∧ s.waActive r i = false ∧ s.masterRuns who = true)
    ∧ (∃ (s : State) (who : Initiator) (r : Nat) (v : Nat), r < 8 ∧ s.worldOf who ≠ .secure ∧ (waCount r).filter (fun
      j => bits v (2 * j) 2 ≠ bits (s.rd (waFld r).1 (waFld r).2) (2 * j) 2) ≠ [] ∧ s.masterRuns who = true)
    ∧ (∃ (s : State) (h : Nat), h < 4 ∧ s.unpowered = false ∧ s.debugOpen = true ∧ s.flag .HW_DBG_NID = true ∧ s.rd
      .SYS_PWR_STAT_STATE ≠ 2)
    ∧ (∃ (s : State) (op : TapOp), s.debugOpen = false ∧ op ≠ .idcode) :=
  ⟨⟨{ State.reset with pw := { key := true } }, by decide⟩,
    ⟨{ State.reset with pw := { key := true }, head := { challenge := some (0, List.replicate 32 1) } },
    List.replicate 104 0, List.replicate 32 1, 0, by decide⟩, ⟨{ State.reset with pw := { key := true } },
    List.replicate 104 0, by decide⟩, ⟨State.reset, 2, by decide⟩, ⟨(State.reset.setSlot 9
    { a := [1, 2], b := [3, 4], gen := 7, attr := 256 }), ⟨1, .safety⟩, by decide⟩, ⟨State.reset, by decide⟩,
    ⟨State.reset, by decide⟩, ⟨State.reset, by decide⟩, ⟨State.reset, by decide⟩, ⟨(st [(.TP_CFG, (5 * 2 ^ 28),
    0)]), 7, by decide⟩, ⟨{ State.reset with pw := { key := true }, head := { fuses := 29 } }, by decide⟩,
    ⟨State.reset, List.replicate 32 1, by decide⟩,
    ⟨{ (st [(.HW_STAT_KEYLESS, 0, 0)]) with head := { quoteWait := some [1] } }, [1], by decide⟩, ⟨(st
    [(.HW_USE, 4, 0)]), 2, by decide⟩, ⟨State.reset, ⟨0, .secure⟩, 5, 0x95555555, 15, by decide⟩, ⟨State.reset,
    ⟨1, .safety⟩, 5, 0x95555555, by decide⟩, ⟨(st [(.HW_STAT_READY, 1, 0), (.HW_DBG_NID, 1, 0)]), 3, by decide⟩,
    ⟨State.reset, .haltHead, by decide⟩⟩

theorem witness_DopRequestsAreServed :
    (∃ (s : State) (b : List Nat), s.brState ≠ 5 ∧ s.odTurn 8 = true ∧ isIp b = true ∧ s.dopOn 8 = true ∧ be b 30 4
      = s.ipOf 8 0 ∧ ipOdd b = false ∧ isDop b = true ∧ dopWhole (b.drop 42) = true ∧ b.getD 45 0 = 1 ∧
      s.odDepth 2 < 16 ∧ (s.dopReq 8 b).value.length = leVal ((b.drop 62).take 2) ∧ (s.dopReq 8 b).value.length
      ≤ 1440 ∧ s.awake = true)
    ∧ (∃ (s : State) (b : List Nat), s.brState < 4 ∧ s.pairMode = false ∧ s.odTurn 8 = true ∧ isIp b = true ∧ s.dopOn
      8 = true ∧ be b 30 4 = s.ipOf 8 0 ∧ ipOdd b = false ∧ isDop b = true ∧ dopWhole (b.drop 42) = true ∧
      b.getD 45 0 = 2 ∧ s.odDepth 2 < 16 ∧ (s.dopReq 8 b).value.length = leVal ((b.drop 62).take 2) ∧ (s.dopReq
      8 b).value.length ≤ 1440 ∧ s.awake = true)
    ∧ (∃ (s : State) (b : List Nat) (r : OdReq), s.pairMode = false ∧ r = s.dopReq 8 b ∧ s.odTurn 8 = true ∧ isIp b =
      true ∧ s.dopOn 8 = true ∧ be b 30 4 = s.ipOf 8 0 ∧ ipOdd b = false ∧ isDop b = true ∧ dopWhole (b.drop 42)
      = true ∧ b.getD 45 0 = 3 ∧ s.odDepth 2 < 16 ∧ (s.dopReq 8 b).value.length = leVal ((b.drop 62).take 2) ∧
      (s.dopReq 8 b).value.length ≤ 1440 ∧ bit (b.getD 57 0) 0 = false ∧ r.offset + r.value.length ≤ 131072 ∧
      s.awake = true)
    ∧ (∃ (s : State), s.awake = true)
    ∧ (∃ (s : State) (b : List Nat), ethType b = 0x0806 ∧ (b.drop 14).take 8 = [0, 1, 8, 0, 6, 4, 0, 1] ∧ s.dopOn 8 =
      true ∧ be b 38 4 = s.ipOf 8 0 ∧ s.awake = true)
    ∧ (∃ (s : State) (b : List Nat), isIp b = true ∧ s.dopOn 8 = true ∧ be b 30 4 = s.ipOf 8 0 ∧ ipOdd b = false ∧
      b.getD 23 0 = 1 ∧ (b.drop 34).take 2 = [8, 0] ∧ s.reaches 8 ((b.drop 26).take 4) = true ∧ s.awake = true)
    ∧ (∃ (s : State), s.awake = true)
    ∧ (∃ (s : State) (c : Nat), c < 5 ∧ s.rescue = false ∧ s.overridden c 0x2001 true = false ∧ s.awake = true)
    ∧ (∃ (s : State) (c : Nat) (v : Nat), c < 5 ∧ s.rescue = false ∧ s.overridden c 0x2001 true = false ∧ v % 256 ≠ 1
      ∧ s.awake = true) :=
  ⟨⟨(st [(.OD_CTL_SVC, 1, 0)]), [1, 1, 1, 1, 1, 1, 1, 1, 1, 1, 1, 1, 8, 0, 69, 0, 0, 56, 0, 0, 0, 0, 64, 17, 0, 0,
    10, 0, 0, 1, 169, 254, 61, 1, 18, 52, 110, 0, 0, 36, 0, 0, 161, 208, 1, 1, 1, 2, 3, 4, 0, 0, 0, 0, 24, 16,
    1, 0, 0, 0, 0, 0, 0, 0, 0, 0, 0, 0, 0, 0], by decide⟩, ⟨(st [(.OD_CTL_SVC, 1, 0)]), [1, 1, 1, 1, 1, 1, 1, 1,
    1, 1, 1, 1, 8, 0, 69, 0, 0, 57, 0, 0, 0, 0, 64, 17, 0, 0, 10, 0, 0, 1, 169, 254, 61, 1, 18, 52, 110, 0, 0,
    37, 0, 0, 161, 208, 1, 2, 1, 2, 3, 4, 0, 0, 0, 0, 1, 32, 0, 0, 0, 0, 0, 0, 1, 0, 0, 0, 0, 0, 0, 0, 1], by
    decide⟩, ⟨(st [(.OD_CTL_SVC, 1, 0)]), [1, 1, 1, 1, 1, 1, 1, 1, 1, 1, 1, 1, 8, 0, 69, 0, 0, 58, 0, 0, 0, 0,
    64, 17, 0, 0, 10, 0, 0, 1, 169, 254, 61, 1, 18, 52, 110, 0, 0, 38, 0, 0, 161, 208, 1, 3, 1, 2, 3, 4, 0, 0,
    0, 0, 24, 16, 1, 0, 5, 0, 0, 0, 2, 0, 0, 0, 0, 0, 0, 0, 7, 8], ((st [(.OD_CTL_SVC, 1, 0)])).dopReq 8 [1, 1,
    1, 1, 1, 1, 1, 1, 1, 1, 1, 1, 8, 0, 69, 0, 0, 58, 0, 0, 0, 0, 64, 17, 0, 0, 10, 0, 0, 1, 169, 254, 61, 1,
    18, 52, 110, 0, 0, 38, 0, 0, 161, 208, 1, 3, 1, 2, 3, 4, 0, 0, 0, 0, 24, 16, 1, 0, 5, 0, 0, 0, 2, 0, 0, 0,
    0, 0, 0, 0, 7, 8], by decide⟩, ⟨State.reset, by decide⟩, ⟨(st [(.OD_CTL_SVC, 1, 0)]), [255, 255, 255, 255,
    255, 255, 2, 2, 2, 2, 2, 2, 8, 6, 0, 1, 8, 0, 6, 4, 0, 1, 2, 2, 2, 2, 2, 2, 10, 0, 0, 1, 0, 0, 0, 0, 0, 0,
    169, 254, 61, 1], by decide⟩, ⟨(st [(.OD_CTL_SVC, 1, 0)]), [1, 1, 1, 1, 1, 1, 2, 2, 2, 2, 2, 2, 8, 0, 69, 0,
    0, 29, 0, 0, 0, 0, 64, 1, 0, 0, 169, 254, 0, 1, 169, 254, 61, 1, 8, 0, 0, 0, 9], by decide⟩, ⟨State.reset,
    by decide⟩, ⟨State.reset, 4, by decide⟩, ⟨State.reset, 4, 2, by decide⟩⟩

theorem witness_SdoAndMailboxRequestsAreServed :
    (∃ (s : State) (k : Nat) (i : Nat) (b : List Nat), k < 16 ∧ s.flag .OD_CTL_SDO = true ∧ s.rescue = false ∧
      s.handed.find? (fun x => x.1 == 0x200 + k) = some (i, b) ∧ b.getD 0 0 / 32 = 2 ∧ (s.path k).xfer = none ∧
      s.awake = true)
    ∧ (∃ (s : State) (k : Nat) (i : Nat) (b : List Nat), k < 16 ∧ s.flag .OD_CTL_SDO = true ∧ s.rescue = false ∧
      s.handed.find? (fun x => x.1 == 0x200 + k) = some (i, b) ∧ b.getD 0 0 / 32 = 1 ∧ bit (b.getD 0 0) 1 = true
      ∧ bit (b.getD 0 0) 0 = true ∧ (s.path k).xfer = none ∧ s.awake = true)
    ∧ (∃ (s : State) (k : Nat) (i : Nat) (b : List Nat), k < 16 ∧ s.flag .OD_CTL_SDO = true ∧ s.rescue = false ∧
      s.handed.find? (fun x => x.1 == 0x200 + k) = some (i, b) ∧ b.getD 0 0 / 32 = 1 ∧ bit (b.getD 0 0) 1 =
      false ∧ bit (b.getD 0 0) 0 = false ∧ (s.path k).xfer = none ∧ s.odPre (sdoReq k b true [] 0) none = 0 ∧
      s.awake = true)
    ∧ (∃ (s : State) (k : Nat) (i : Nat) (b : List Nat) (x : SdoXfer), k < 16 ∧ s.flag .OD_CTL_SDO = true ∧ s.rescue =
      false ∧ s.handed.find? (fun x => x.1 == 0x200 + k) = some (i, b) ∧ b.getD 0 0 / 32 = 0 ∧ bit (b.getD 0 0)
      0 = false ∧ (s.path k).xfer = some x ∧ x.download = true ∧ bit (b.getD 0 0) 4 = x.toggle ∧ s.awake = true)
    ∧ (∃ (s : State) (k : Nat) (i : Nat) (b : List Nat) (x : SdoXfer), k < 16 ∧ s.flag .OD_CTL_SDO = true ∧ s.rescue =
      false ∧ s.handed.find? (fun x => x.1 == 0x200 + k) = some (i, b) ∧ b.getD 0 0 / 32 = 3 ∧ (s.path k).xfer =
      some x ∧ x.download = false ∧ bit (b.getD 0 0) 4 = x.toggle ∧ 7 < x.data.length ∧ s.awake = true)
    ∧ (∃ (s : State) (k : Nat) (x : SdoXfer), k < 16 ∧ (s.path k).xfer = some x ∧ s.awake = true)
    ∧ (∃ (s : State) (e : Nat) (a : Nat) (b : Nat) (d : Nat) (l : List Nat), e < 7 ∧ (s.ed (8 * e + 7)).words = a :: b
      :: d :: l ∧ bits a 24 2 = 1 ∧ s.rescue = false ∧ s.standby = false ∧ s.brState ≠ 5 ∧ s.odTurn (0x300 + e)
      = true ∧ s.awake = true)
    ∧ (∃ (s : State) (e : Nat) (a : Nat) (b : Nat) (d : Nat) (l : List Nat) (r : OdReq), e < 7 ∧ (s.ed (8 * e +
      7)).words = a :: b :: d :: l ∧ bits a 24 2 = 2 ∧ s.rescue = false ∧ s.standby = false ∧ s.brState ≠ 5 ∧
      s.odTurn (0x300 + e) = true ∧ r =
      { route := .eddy e (b % 2 ^ 40) (d % 2 ^ 24), cls := 4, path := 0x20 + e, world := endpointWorld e, index := bits a 0 16, sub := bits a 16 8, write := true, wsn := a / 2 ^ 32 }
      ∧ s.odPre r (some (d % 2 ^ 24)) = 0 ∧ s.rangeOk 0x12 (World.ofCode r.world) (b % 2 ^ 40) (d % 2 ^ 24)
      .read = true ∧ s.awake = true) :=
  ⟨⟨{ (st [(.OD_CTL_SDO, 1, 0)]) with handed := [(527, [0x40, 0x08, 0x10, 0, 0, 0, 0, 0])] }, 15, 0x20F, [0x40,
    0x08, 0x10, 0, 0, 0, 0, 0], by decide⟩,
    ⟨{ (st [(.OD_CTL_SDO, 1, 0)]) with handed := [(527, [0x2F, 0x01, 0x20, 0, 1, 0, 0, 0])] }, 15, 0x20F, [0x2F,
    0x01, 0x20, 0, 1, 0, 0, 0], by decide⟩,
    ⟨{ (st [(.OD_CTL_SDO, 1, 0)]) with handed := [(527, [0x20, 0x01, 0x20, 0, 0, 0, 0, 0])] }, 15, 0x20F, [0x20,
    0x01, 0x20, 0, 0, 0, 0, 0], by decide⟩,
    ⟨{ (st [(.OD_CTL_SDO, 1, 0)]) with handed := [(527, [0, 1, 2, 3, 4, 5, 6, 7])], od := { paths := [(15, { xfer := some ⟨true, 0x2B01, 0, [1], some 9, false, 0, 0⟩ })] } },
    15, 0x20F, [0, 1, 2, 3, 4, 5, 6, 7], ⟨true, 0x2B01, 0, [1], some 9, false, 0, 0⟩, by decide⟩,
    ⟨{ (st [(.OD_CTL_SDO, 1, 0)]) with handed := [(527, [0x60, 0, 0, 0, 0, 0, 0, 0])], od := { paths := [(15, { xfer := some ⟨false, 0x1008, 0, [1, 2, 3, 4, 5, 6, 7, 8], none, false, 0, 0⟩ })] } },
    15, 0x20F, [0x60, 0, 0, 0, 0, 0, 0, 0], ⟨false, 0x1008, 0, [1, 2, 3, 4, 5, 6, 7, 8], none, false, 0, 0⟩, by
    decide⟩,
    ⟨{ (st [(.OD_CTL_SDO, 1, 0)]) with handed := [(527, [])], od := { paths := [(15, { xfer := some ⟨false, 0x1008, 0, [1, 2, 3, 4, 5, 6, 7, 8], none, false, 0, 0⟩ })] } },
    15, ⟨false, 0x1008, 0, [1, 2, 3, 4, 5, 6, 7, 8], none, false, 0, 0⟩, by decide⟩, ⟨(State.reset.setEd 55
    { words := [0x01001008, 0x10000000, 64] }), 6, 0x01001008, 0x10000000, 64, [], by decide⟩,
    ⟨(State.reset.setEd 55 { words := [0x02002001, 0x10000000, 1] }), 6, 0x02002001, 0x10000000, 1, [],
    { route := .eddy 6 0x10000000 1, cls := 4, path := 0x26, world := 2, index := 0x2001, sub := 0, write := true, wsn := 0 },
    by decide⟩⟩

theorem witness_PowerRequestsAreAcceptedOrRefused :
    (∃ (s : State) (who : Initiator), s.pairMode = false ∧ s.powerWhy (s.worldOf who) 1 (s.fromPartner who) = 0 ∧
      s.rd .SYS_PWR_STAT_STATE = 0 ∧ s.pw.wokenSegs = [] ∧ s.masterRuns who = true)
    ∧ (∃ (s : State) (who : Initiator), s.pairMode = false ∧ s.powerWhy (s.worldOf who) 1 (s.fromPartner who) = 0 ∧
      s.rd .SYS_PWR_STAT_STATE = 2 ∧ s.masterRuns who = true)
    ∧ (∃ (s : State) (who : Initiator), s.pairMode = false ∧ s.powerWhy (s.worldOf who) 2 (s.fromPartner who) = 0 ∧
      s.masterRuns who = true)
    ∧ (∃ (s : State) (who : Initiator), s.pairMode = false ∧ s.powerWhy (s.worldOf who) 3 (s.fromPartner who) = 0 ∧
      s.masterRuns who = true)
    ∧ (∃ (s : State) (who : Initiator), s.pairMode = false ∧ s.powerWhy (s.worldOf who) 4 (s.fromPartner who) = 0 ∧
      s.masterRuns who = true)
    ∧ (∃ (s : State) (who : Initiator), s.pairMode = true ∧ s.rd .SYS_PWR_STAT_STATE ≠ 0 ∧ s.powerWhy (s.worldOf who)
      3 (s.fromPartner who) = 0 ∧ s.masterRuns who = true)
    ∧ (∃ (s : State) (who : Initiator), s.worldOf who ≠ .normal ∧ s.powerWhy (s.worldOf who) 3 (s.fromPartner who) = 2
      ∧ s.masterRuns who = true)
    ∧ (∃ (s : State) (who : Initiator) (y : Nat), s.powerWhy (s.worldOf who) 4 (s.fromPartner who) = y ∧ 0 < y ∧ y ≠ 2
      ∧ y < 16 ∧ s.masterRuns who = true) :=
  ⟨⟨State.reset, ⟨1, .safety⟩, by decide⟩, ⟨(st [(.SYS_PWR_STAT_STATE, 2, 0)]), ⟨1, .safety⟩, by decide⟩, ⟨(st
    [(.SYS_PWR_STAT_STATE, 1, 0)]), ⟨1, .safety⟩, by decide⟩, ⟨(st [(.SYS_PWR_STAT_STATE, 1, 0)]), ⟨1, .safety⟩,
    by decide⟩, ⟨(st [(.SYS_PWR_STAT_STATE, 1, 0)]), ⟨1, .safety⟩, by decide⟩, ⟨(st [(.SYS_PWR_STAT_STATE, 1,
    0), (.BR_CTL_MODE, 1, 0), (.BR_STAT_STATE, 5, 0), (.BR_PEER, 4, 0)]), ⟨1, .safety⟩, by decide⟩, ⟨(st
    [(.SYS_PWR_STAT_STATE, 1, 0), (.HW_USE, 1, 0)]), ⟨1, .safety⟩, by decide⟩, ⟨(st [(.SYS_PWR_STAT_STATE, 1,
    0)]), ⟨8, .normal⟩, 6, by decide⟩⟩

theorem witness_EntryAndWake :
    (∃ (s : State), s.pw.waitUse = none ∧ s.pw.target = 3 ∧ s.allFailsafe = true ∧ (s.clrF
      .SYS_PWR_STAT_PENDING).powerWhy (World.ofCode s.pw.world) 3 (s.brState != 5) = 0 ∧ s.awake = true)
    ∧ (∃ (s : State), s.pw.target = 4 ∧ s.segsUsed.any (fun n => s.rd .WE_SLP_STAT_STATE n != 3) = true ∧ s.awake =
      true)
    ∧ (∃ (s : State), s.rd .SYS_PWR_STAT_STATE = 3 ∧ s.pw.woken = true)
    ∧ (∃ (s : State), s.rd .SYS_PWR_STAT_STATE = 4 ∧ s.pw.woken = true)
    ∧ (∃ (s : State) (who : Initiator) (h : Held) (r : Nat), s.worldOf who ≠ .normal ∧ s.flag .SYS_WAKE_RESTORE = true
      ∧ s.pw.held = some h ∧ r = s.formConfsum.checkResult h ∧ s.masterRuns who = true)
    ∧ (∃ (s : State), s.flag .SYS_WAKE_RESTORE = true ∧ s.awake = true) :=
  ⟨⟨{ (st [(.SYS_PWR_STAT_STATE, 1, 0), (.SYS_PWR_STAT_PENDING, 1, 0)]) with pw := { target := 3, world := 1 } },
    by decide⟩,
    ⟨{ (st [(.SYS_PWR_STAT_STATE, 1, 0), (.SYS_PWR_STAT_PENDING, 1, 0)]) with pw := { target := 4, world := 1 } },
    by decide⟩, ⟨{ (st [(.SYS_PWR_STAT_STATE, 3, 0)]) with pw := { woken := true } }, by decide⟩,
    ⟨{ (st [(.SYS_PWR_STAT_STATE, 4, 0)]) with pw := { woken := true } }, by decide⟩,
    ⟨{ (st [(.SYS_WAKE_RESTORE, 1, 0)]) with pw := { held := some ⟨0, 0, 0, []⟩ } }, ⟨1, .safety⟩, ⟨0, 0, 0,
    []⟩, (State.formConfsum
    { (st [(.SYS_WAKE_RESTORE, 1, 0)]) with pw := { held := some ⟨0, 0, 0, []⟩ } }).checkResult ⟨0, 0, 0, []⟩,
    by decide, by decide, rfl, rfl, by decide⟩, ⟨(st [(.SYS_WAKE_RESTORE, 1, 0)]), by decide⟩⟩

theorem witness_ResetsPinsAndLocks :
    (∃ (s : State) (who : Initiator), who.master ≠ 0xFF ∧ s.worldOf who ≠ .normal ∧ s.masterRuns who = true)
    ∧ (∃ (s : State) (who : Initiator), who.master ≠ 0xFF ∧ s.worldOf who = .normal ∧ s.masterRuns who = true)
    ∧ (∃ (s : State), s.rd .SYS_PWR_STAT_STATE = 0 ∧ s.pw.wokenSegs = [] ∧ s.awake = true)
    ∧ (∃ (s : State) (who : Initiator) (n : Nat), n < 5 ∧ lockSetter n (s.worldOf who) = true ∧ s.masterRuns who =
      true)
    ∧ (∃ (s : State) (who : Initiator) (n : Nat), n < 5 ∧ lockSetter n (s.worldOf who) = false ∧ s.masterRuns who =
      true)
    ∧ (∃ (k : Nat), k < 16)
    ∧ (∃ (s : State) (b : Bool), s.pw.key ≠ b ∧ s.unpowered = false ∧ s.rd .SYS_PWR_STAT_STATE < 3) :=
  ⟨⟨State.reset, ⟨1, .safety⟩, by decide⟩, ⟨State.reset, ⟨8, .normal⟩, by decide⟩, ⟨State.reset, by decide⟩,
    ⟨State.reset, ⟨1, .safety⟩, 4, by decide⟩, ⟨State.reset, ⟨8, .normal⟩, 0, by decide⟩, ⟨15, by decide⟩,
    ⟨State.reset, true, by decide⟩⟩

set_option maxRecDepth 100000 in
theorem witness_FieldUpdateRuns :
    (∃ (s : State) (who : Initiator) (u : Nat) (m : List Nat), s.worldOf who ≠ .normal ∧ s.pairMode = false ∧ (u = 0
      ∨ u = s.rd .BR_STAT_UNIT + 1) ∧ u < 3 ∧ s.copyError true = 0 ∧ s.upd.card.bind (·.mft) = some m ∧
      s.masterRuns who = true)
    ∧ (∃ (s : State) (who : Initiator) (u : Nat), s.worldOf who ≠ .normal ∧ s.pairMode = false ∧ (u = 0 ∨ u = s.rd
      .BR_STAT_UNIT + 1) ∧ u < 3 ∧ s.upd.copying = none ∧ s.masterRuns who = true)
    ∧ (∃ (s : State) (who : Initiator) (u : Nat), s.worldOf who ≠ .normal ∧ s.pairMode = false ∧ (u = 0 ∨ u = s.rd
      .BR_STAT_UNIT + 1) ∧ u < 3 ∧ s.upd.copying.isSome = true ∧ s.masterRuns who = true)
    ∧ (∃ (s : State) (m : List Nat), s.upd.copying = some m ∧ s.awake = true)
    ∧ (∃ (s : State) (m : List Nat) (c : Nat), s.upd.copying = some m ∧ c ≠ 0 ∧ s.awake = true)
    ∧ (∃ (s : State) (who : Initiator) (u : Nat), s.worldOf who ≠ .normal ∧ s.pairMode = false ∧ (u = 0 ∨ u = s.rd
      .BR_STAT_UNIT + 1) ∧ u < 3 ∧ s.activateError = 0 ∧ s.masterRuns who = true)
    ∧ (∃ (s : State) (who : Initiator) (u : Nat), s.worldOf who ≠ .normal ∧ s.pairMode = false ∧ (u = 0 ∨ u = s.rd
      .BR_STAT_UNIT + 1) ∧ u < 3 ∧ s.activateError = 0 ∧ s.masterRuns who = true)
    ∧ (∃ (s : State) (who : Initiator) (u : Nat), s.worldOf who ≠ .normal ∧ s.pairMode = false ∧ (u = 0 ∨ u = s.rd
      .BR_STAT_UNIT + 1) ∧ u < 3 ∧ s.record.trial = true ∧ s.masterRuns who = true)
    ∧ (∃ (s : State), s.record.trial = true ∧ s.upd.confirmAt.isSome = true ∧ s.awake = true)
    ∧ (∃ (s : State), s.upd.copying = none ∧ s.pairMode = false)
    ∧ (∃ (s : State), s.rd .UPD_STAT_STATE ≠ 6 ∧ s.pairMode = false) :=
  ⟨⟨{ State.reset with upd := { card := some testCard, baseSet := false, factoryRec := false } }, ⟨0, .secure⟩, 0,
    testManifest, by decide +kernel⟩, ⟨State.reset, ⟨0, .secure⟩, 0, by decide⟩,
    ⟨{ State.reset with upd := { copying := some [], card := some { fits := true, mft := none, files := [] } } },
    ⟨0, .secure⟩, 1, by decide⟩,
    ⟨{ State.reset with upd := { copying := some [], card := some { fits := true, mft := none, files := [] } } },
    [], by decide⟩,
    ⟨{ State.reset with upd := { copying := some [], card := some { fits := true, mft := none, files := [] } } },
    [], 7, by decide⟩,
    ⟨{ State.reset.setBytes (recAddr 0) ({ rseq := 1, otherValid := true, mseqL := 1, mseqR := 2 } : ActRec).bytes with upd := { factoryRec := false, baseSet := false } },
    ⟨0, .secure⟩, 1, by decide⟩,
    ⟨{ State.reset.setBytes (recAddr 0) ({ rseq := 1, otherValid := true, mseqL := 1, mseqR := 2 } : ActRec).bytes with upd := { factoryRec := false, baseSet := false } },
    ⟨0, .secure⟩, 0, by decide⟩,
    ⟨{ State.reset.setBytes (recAddr 0) ({ rseq := 1, trial := true, mseqL := 1, mseqR := 2 } : ActRec).bytes with upd := { factoryRec := false, baseSet := false } },
    ⟨0, .secure⟩, 0, by decide⟩,
    ⟨{ State.reset.setBytes (recAddr 0) ({ rseq := 1, trial := true, mseqL := 1, mseqR := 2 } : ActRec).bytes with upd := { factoryRec := false, baseSet := false, confirmAt := some 5 } },
    by decide⟩, ⟨State.reset, by decide⟩, ⟨State.reset, by decide⟩⟩

set_option maxRecDepth 100000 in
theorem witness_RegisterAccessStoresAndReads :
    (∃ (s : State) (who : Initiator) (a : Nat) (v : Nat), a % 4 = 0 ∧ v < 2 ^ 32 ∧ s.memOk who.master (s.worldOf
      who) a 4 .write = true ∧ s.masterRuns who = true)
    ∧ (∃ (s : State) (who : Initiator) (v : Nat), s.worldOf who ≠ .normal ∧ 1 ≤ v ∧ v ≤ 255 ∧ v ≠ s.rd .SYS_SLPTO ∧
      s.masterRuns who = true)
    ∧ (∃ (s : State) (who : Initiator) (v : Nat), s.worldOf who = .normal ∧ 1 ≤ v ∧ v ≤ 255 ∧ v ≠ s.rd .SYS_SLPTO ∧
      s.masterRuns who = true)
    ∧ (∃ (s : State) (who : Initiator) (a : Nat), a % 4 ≠ 0 ∧ s.masterRuns who = true)
    ∧ (∃ (s : State) (who : Initiator) (a : Nat), a % 4 = 0 ∧ s.memOk who.master (s.worldOf who) a 4 .read = true ∧
      s.masterRuns who = true)
    ∧ (∃ (s : State) (who : Initiator), s.worldOf who ≠ .normal ∧ s.flag .MR_STAT_LOSS = true ∧ s.flag .MR_STAT_FRANGE
      = false ∧ s.flag .MR_STAT_REFUSED = false ∧ s.flag .MR_STAT_REFLATE = false ∧ s.irqs.contains 17 = false ∧
      s.masterRuns who = true)
    ∧ (∃ (s : State) (who : Initiator), s.masterRuns who = true) :=
  ⟨⟨State.reset, ⟨0, .secure⟩, 0x8FFFFFFFC, 4294967295, by decide⟩, ⟨State.reset, ⟨1, .safety⟩, 255, by decide⟩,
    ⟨State.reset, ⟨8, .normal⟩, 1, by decide⟩, ⟨State.reset, ⟨1, .safety⟩, 0x10000001, by decide⟩, ⟨State.reset,
    ⟨0, .secure⟩, 0x10000000, by decide⟩, ⟨(st [(.MR_STAT_LOSS, 1, 0)]), ⟨1, .safety⟩, by decide⟩, ⟨(st
    [(.GA_CNT_BAD, 7, 0)]), ⟨8, .normal⟩, by decide⟩⟩

theorem witness_AdmissionRefusesTurnOnOnly :
    (∃ (s : State) (who : Initiator) (k : Nat) (a : Nat) (d : Nat) (c : Instr), k < 32 ∧ s.dieReach (dieOf k) = true
      ∧ owns (s.worldOf who) (s.chanWorld k) = true ∧ s.isFollow k = false ∧ s.rd .SL_CFG_MODE k ≠ 3 ∧ s.flag
      .SL_WD_STAT_FAILSAFE (dieOf k) = false ∧ s.rd .SL_PROT_STAT_CAUSE k = 0 ∧ s.flag .SL_PROT_STAT_SPLOCK k =
      false ∧ s.flag .SL_WD_STAT_SERVED (dieOf k) = true ∧ (c, a, d) ∈ [(Instr.channelOn who k, 1, 0),
      (.channelOnHard who k, 2, 0), (.channelPwm who k d, 3, d)] ∧ s.masterRuns who = true ∧ d ≤ 1000 ∧ (s.rd
      .SL_STAT_STATE k = 0 ∨ s.rd .SL_STAT_STATE k = 4) ∧ s.flag .SL_UV_STAT_UVOFF (dieOf k) = false ∧ s.flag
      .SL_FEED_CFG_ADMIT (dieOf k) = true ∧ 20 * (s.rd .SL_FEED_LIM (dieOf k) : Int) < s.rdI .SL_FEED_SUM (dieOf
      k) + 20 * (s.rd .SL_BUDGET_NOM k : Int))
    ∧ (∃ (s : State) (who : Initiator) (k : Nat), k < 32 ∧ s.dieReach (dieOf k) = true ∧ owns (s.worldOf who)
      (s.chanWorld k) = true ∧ s.isFollow k = false ∧ s.rd .SL_CFG_MODE k ≠ 3 ∧ s.flag .SL_WD_STAT_FAILSAFE
      (dieOf k) = false ∧ s.masterRuns who = true)
    ∧ (∃ (s : State) (who : Initiator) (k : Nat) (d : Nat), k < 32 ∧ s.dieReach (dieOf k) = true ∧ owns (s.worldOf
      who) (s.chanWorld k) = true ∧ s.isFollow k = false ∧ s.rd .SL_CFG_MODE k ≠ 3 ∧ s.flag .SL_WD_STAT_FAILSAFE
      (dieOf k) = false ∧ s.rd .SL_PROT_STAT_CAUSE k = 0 ∧ s.flag .SL_PROT_STAT_SPLOCK k = false ∧ s.flag
      .SL_WD_STAT_SERVED (dieOf k) = true ∧ d ≤ 1000 ∧ s.rd .SL_STAT_STATE k = 3 ∧ s.masterRuns who = true) :=
  ⟨⟨(st [(.SL_WD_STAT_SERVED, 1, 3), (.SL_FEED_CFG_ADMIT, 1, 3), (.SL_BUDGET_NOM, 10, 31), (.SL_FEED_LIM, 9, 3)]),
    ⟨1, .safety⟩, 31, 3, 1000, .channelPwm ⟨1, .safety⟩ 31 1000, by decide⟩, ⟨(st [(.SL_WD_STAT_SERVED, 1, 3),
    (.SL_FEED_CFG_ADMIT, 1, 3), (.SL_BUDGET_NOM, 10, 31), (.SL_FEED_LIM, 9, 3), (.SL_STAT_STATE, 3, 31)]), ⟨1,
    .safety⟩, 31, by decide⟩, ⟨(st [(.SL_WD_STAT_SERVED, 1, 3), (.SL_FEED_CFG_ADMIT, 1, 3), (.SL_BUDGET_NOM, 10,
    31), (.SL_FEED_LIM, 9, 3), (.SL_STAT_STATE, 3, 31)]), ⟨1, .safety⟩, 31, 1000, by decide⟩⟩

theorem witness_ClearLeavesFaultForItsWorld :
    (∃ (s : State) (who : Initiator) (k : Nat), k < 32 ∧ s.dieReach (dieOf k) = true ∧ s.isFollow k = false ∧ 0 <
      s.rd .SL_PROT_STAT_CAUSE k ∧ s.flag .SL_PROT_STAT_TLATCH k = false ∧ s.flag .SL_PROT_STAT_SPLOCK k = false
      ∧ (s.rd .SL_PROT_STAT_CAUSE k = 4 ∧ s.worldOf who = .safety ∨ s.rd .SL_PROT_STAT_CAUSE k ≠ 4 ∧ owns
      (s.worldOf who) (s.chanWorld k) = true) ∧ s.masterRuns who = true)
    ∧ (∃ (s : State) (who : Initiator) (k : Nat), k < 32 ∧ s.dieReach (dieOf k) = true ∧ s.isFollow k = false ∧ 0 <
      s.rd .SL_PROT_STAT_CAUSE k ∧ s.flag .SL_PROT_STAT_TLATCH k = false ∧ s.flag .SL_PROT_STAT_SPLOCK k = true
      ∧ (s.rd .SL_PROT_STAT_CAUSE k = 4 ∧ s.worldOf who = .safety ∨ s.rd .SL_PROT_STAT_CAUSE k ≠ 4 ∧ owns
      (s.worldOf who) (s.chanWorld k) = true) ∧ s.masterRuns who = true)
    ∧ (∃ (s : State) (who : Initiator) (k : Nat), k < 32 ∧ s.dieReach (dieOf k) = true ∧ s.isFollow k = false ∧ s.rd
      .SL_PROT_STAT_CAUSE k = 0 ∧ s.masterRuns who = true)
    ∧ (∃ (s : State) (who : Initiator) (k : Nat), k < 32 ∧ s.dieReach (dieOf k) = true ∧ s.isFollow k = false ∧ 0 <
      s.rd .SL_PROT_STAT_CAUSE k ∧ s.flag .SL_PROT_STAT_TLATCH k = true ∧ s.masterRuns who = true)
    ∧ (∃ (s : State) (who : Initiator) (k : Nat), k < 32 ∧ s.dieReach (dieOf k) = true ∧ s.isFollow k = false ∧ 0 <
      s.rd .SL_PROT_STAT_CAUSE k ∧ s.flag .SL_PROT_STAT_TLATCH k = false ∧ (¬(s.rd .SL_PROT_STAT_CAUSE k = 4 ∧
      s.worldOf who = .safety ∨ s.rd .SL_PROT_STAT_CAUSE k ≠ 4 ∧ owns (s.worldOf who) (s.chanWorld k) = true)) ∧
      s.masterRuns who = true) :=
  ⟨⟨(st [(.SL_PROT_STAT_CAUSE, 4, 31), (.SL_STAT_STATE, 5, 31)]), ⟨1, .safety⟩, 31, by decide⟩, ⟨(st
    [(.SL_PROT_STAT_CAUSE, 4, 31), (.SL_STAT_STATE, 6, 31), (.SL_PROT_STAT_SPLOCK, 1, 31)]), ⟨1, .safety⟩, 31,
    by decide⟩, ⟨(st [(.SL_PROT_STAT_TLATCH, 1, 31)]), ⟨8, .normal⟩, 31, by decide⟩, ⟨(st
    [(.SL_PROT_STAT_TLATCH, 1, 31), (.SL_PROT_STAT_CAUSE, 4, 31)]), ⟨8, .normal⟩, 31, by decide⟩, ⟨(st
    [(.SL_PROT_STAT_CAUSE, 4, 31)]), ⟨0, .secure⟩, 31, by decide⟩⟩

theorem witness_CommandsKeepTheQueue : ∃ s t c, exec c s = .next t :=
  ⟨State.reset, _, .logicInputChange true false, rfl⟩

theorem witness_MemoryStaysCanonical : ∃ s t, memoryWf s ∧ step s = .next t :=
  ⟨State.reset, _, ⟨by decide, by decide⟩, rfl⟩

theorem witness_FieldsStayInWidth : ∃ s t, (∀ f i, State.rd s f i < 2 ^ (Fld.info f).width) ∧ step s = .next t :=
  ⟨State.reset, _, Fld.reset_lt, rfl⟩

theorem witness_EveryCommandAnswersANextState :
    (∃ s i, actsUnpowered i = false ∧ State.awake s = false)
    ∧ (∃ s i who, sentBy i = some who ∧ State.masterRuns s who = false) :=
  ⟨⟨st [(.SYS_PWR_STAT_STATE, 3, 0)], .phaseTimeRead, by decide⟩,
    ⟨st [(.SYS_PWR_STAT_STATE, 2, 0)], .eddyPush ⟨8, .normal⟩ 0 0 0, ⟨8, .normal⟩, by decide⟩⟩

theorem witness_ResetStateIsCanonical_memory : memoryWf State.reset := ⟨by decide, by decide⟩

/-! ## Ill-formed commands are refused by the check -/

theorem test_illformed_channel : (Instr.channelOn ⟨1, .safety⟩ 32).wellFormed = false := by decide
theorem test_wellformed_channel : (Instr.channelOn ⟨1, .safety⟩ 31).wellFormed = true := by decide
theorem test_illformed_cell : (Instr.reinitCell 6144).wellFormed = false := by decide
theorem test_illformed_address : (Instr.registerWrite ⟨1, .safety⟩ (2 ^ 40) 0).wellFormed = false := by decide
theorem test_illformed_sender : (Instr.channelOff ⟨0x05, .safety⟩ 0).wellFormed = false := by decide
theorem test_illformed_byte : (Instr.dopRead 8 [256]).wellFormed = false := by decide

/-! ## Examples of the manual -/

/-- R74, the example of scheduling across the wrap: W2 names CH3, on, an immediate target of type 1. -/
theorem test_wrap_entry_word : let e : EvtEntry := { w0 := 0x012AAAAB, w2 := 0x80000311 }
    e.valid = true ∧ e.lateOk = false ∧ e.tindex = 3 ∧ e.action = 1 ∧ e.ttype = 1 ∧ e.time = 0x12AAAAB := by decide

/-- R142, the example of the flashing beacon: the off entry of CH14. -/
theorem test_beacon_entry_word : let e : EvtEntry := { w2 := 0x80000E01, w3 := 0x32000000 }
    e.valid = true ∧ e.tindex = 14 ∧ e.action = 0 ∧ e.ttype = 1 := by decide

/-- R173, the example of the contactor coil, step 1. -/
theorem test_first_clamp_pulse :
    (match exec (.clampPulseEnd 1 1657) (st [(.SP_BUDGET, 23000, 1)]) with
      | .next t => (t.rd .SP_LAST 1, t.rd .SP_SUM 1, t.rd .SL_PROT_STAT_SPLOCK 1)
      | _ => (0, 0, 0)) = (1657, 1657, 0) := by decide

/-- The same example, step 2: the fourteenth pulse, 2.6 s after the first, locks the channel; 7.4 s remain. -/
theorem test_fourteenth_clamp_pulse :
    (match exec (.clampPulseEnd 1 1657) ((st [(.SP_BUDGET, 23000, 1)]).setCh 1
        { buckets := (List.range 27).map fun i => if i % 2 = 0 ∧ 0 < i then 1657 else 0 }) with
      | .next t => (t.rd .SP_SUM 1, t.rd .SL_PROT_STAT_SPLOCK 1, t.rd .SL_STAT_STATE 1, t.rd .SP_FREE_IN 1)
      | _ => (0, 0, 0, 0)) = (23198, 1, 6, 74) := by decide

/-- R421, the example of a DOP WRITE from the plant: INDEX, SUB, WSN and the value are read from their bytes. -/
theorem test_dop_write_fields :
    let r := State.reset.dopReq 0 (List.replicate 42 0 ++ [0xA1, 0xD0, 1, 2, 0x34, 0x12, 0, 0, 0x41, 0, 0, 3, 0x0A, 0x21, 2, 0,
      0, 0, 0, 0, 1, 0, 0, 0, 0, 0, 0, 0, 1])
    (r.index, r.sub, r.wsn, r.value, r.write) = (0x210A, 2, 0x03000041, [1], true) := by decide +kernel

/-- R400, the example of a revocation: slots 20 and 21 go to generations 4 and 8, cleared, and VALUE is 2. -/
theorem test_key_revocation :
    let r := State.revoke { State.reset with head := { slots := [(20, { gen := 3, attr := 5 * 2 ^ 7 + 1 * 2 ^ 17 }), (21, { gen := 7, attr := 2 * 2 ^ 7 + 20 * 2 ^ 17 })] } } 20
    ((r.1.slot 20).gen, (r.1.slot 21).gen, (r.1.slot 21).attr, r.2) = (4, 8, 0, 2) := by decide +kernel

/-- The check value of the CRC-32 of IEEE 802.3: the digits 1 to 9 give 0xCBF4_3926 (computed by hand from the polynomial). -/
theorem test_crc32 : crc32 [0x31, 0x32, 0x33, 0x34, 0x35, 0x36, 0x37, 0x38, 0x39] = 0xCBF43926 := by decide +kernel

end Sys2Proof.Tests
end

section
/-!
PROOFS of O4 and O57. O4 goes through one relation: every next state that a command answers has evolved from the state before it
by a handful of primitive operations (Evolves), each of which keeps the fields within their widths. One lemma per operation and
per command of the model, in the order of the model's files, carries the relation from the primitives up to exec and step.
-/
namespace Sys2Proof.Machine

/-! ## The primitive operations -/

/-- `t` comes from `s₀` by the primitive operations out of which every meaning is built: register writes, clears of whole
fields, stores and wipes of memory, stores to the eMMC, and changes of the parts that no register, no memory and no queue
shows. What each of them keeps, every command keeps: by induction on this relation. -/
inductive Evolves (s₀ : State) : State → Prop
  | refl : Evolves s₀ s₀
  | wr {s : State} {f : Fld} {v i : Nat} (h : Evolves s₀ s) : Evolves s₀ (s.wr f v i)
  | clearFields {s : State} (h : Evolves s₀ s) (p : Fld → Bool) :
      Evolves s₀ { s with regs := s.regs.filter fun e => p e.1.1 }
  | setBytes {s : State} {a : Nat} {l : List Nat} (h : Evolves s₀ s) : Evolves s₀ (s.setBytes a l)
  | filterMem {s : State} {p : Host.Cell → Bool} (h : Evolves s₀ s) : Evolves s₀ { s with mem := s.mem.filter p }
  | emmcBytes {s : State} {a : Nat} {l : List Nat} (h : Evolves s₀ s) :
      Evolves s₀ { s with emmc := Memory.wrBytes s.emmc a l }
  | ofParts {s t : State} (h : Evolves s₀ s) (hr : t.regs = s.regs) (hm : t.mem = s.mem) (he : t.emmc = s.emmc)
      (hp : t.pending = s.pending) : Evolves s₀ t

/-- Every next state that the outcome holds has evolved from `s₀`. -/
def Leads (s₀ : State) (o : Out) : Prop := ∀ t, o = .next t → Evolves s₀ t

/-- The state that an object write ends in has evolved from `s₀`. -/
def Ends (s₀ : State) (o : ObjOut) : Prop := Evolves s₀ o.2.2

namespace Evolves
variable {s₀ s : State}

/-- An update of any of the parts that no register and no memory shows. -/
theorem aside {shadow now release resp irqs eseq elog free mr evt gauge chan die io gate can route stream seg conf port handed
    braid factory ferry errWorld eddy locks dq delta head hart upd pw od} (h : Evolves s₀ s) :
    Evolves s₀ ⟨s.regs, shadow, s.mem, now, release, resp, irqs, eseq, elog, free, mr, evt, gauge, chan, die, io, gate, can, route,
      stream, seg, conf, port, handed, braid, factory, ferry, errWorld, eddy, locks, s.emmc, dq, delta, head, hart, upd, pw, od,
      s.pending⟩ :=
  .ofParts h rfl rfl rfl rfl

theorem ite {c : Prop} [Decidable c] {a b : State} (ha : Evolves s₀ a) (hb : Evolves s₀ b) : Evolves s₀ (if c then a else b) := by
  split <;> assumption

theorem when {c : Bool} {g : State → State} (h : Evolves s₀ s) (hg : ∀ s, Evolves s₀ s → Evolves s₀ (g s)) :
    Evolves s₀ (s.when c g) := by
  cases c
  · exact h
  · exact hg s h

/-- The same where each of the two branches gives the state first among other things. -/
theorem ite_fst {α : Type} {c : Prop} [Decidable c] {a b : State × α} (ha : Evolves s₀ a.1) (hb : Evolves s₀ b.1) :
    Evolves s₀ (if c then a else b).1 := by
  split <;> assumption

/-- The state of an outcome that comes with a value. -/
theorem fst {α : Type} {x : State × α} {t : State} {a : α} (h : Evolves s₀ x.1) (e : x = (t, a)) : Evolves s₀ t := by
  subst e
  exact h

theorem getD_map {α : Type} {o : Option α} {g : α → State} (h : Evolves s₀ s) (hg : ∀ x, Evolves s₀ (g x)) :
    Evolves s₀ ((o.map g).getD s) := by
  cases o
  · exact h
  · exact hg _

/-- A fold whose accumulator holds a state: where each round keeps it evolved, the end does. -/
theorem foldlOf {α β : Type} (p : β → State) {g : β → α → β} (hg : ∀ b x, Evolves s₀ (p b) → Evolves s₀ (p (g b x)))
    {l : List α} {b : β} (h : Evolves s₀ (p b)) : Evolves s₀ (p (l.foldl g b)) := by
  induction l generalizing b with
  | nil => exact h
  | cons x _ ih => exact ih (hg b x h)

theorem each {α : Type} {l : List α} {g : State → α → State} (h : Evolves s₀ s)
    (hg : ∀ s x, Evolves s₀ s → Evolves s₀ (g s x)) : Evolves s₀ (s.each l g) := foldlOf id hg h

theorem setWord {a v} (h : Evolves s₀ s) : Evolves s₀ (s.setWord a v) := h.setBytes
theorem wipe {a n} (h : Evolves s₀ s) : Evolves s₀ (s.wipe a n) := h.filterMem

end Evolves

namespace Leads
variable {s₀ s : State}

theorem next (h : Evolves s₀ s) : Leads s₀ (.next s) := by
  rintro t ⟨⟩
  exact h

theorem ite {c : Prop} [Decidable c] {a b : Out} (ha : Leads s₀ a) (hb : Leads s₀ b) : Leads s₀ (if c then a else b) := by
  split <;> assumption

theorem running {o : Out} (h : Evolves s₀ s) (ho : Leads s₀ o) : Leads s₀ (s.running o) := .ite ho (.next h)

theorem asMaster {who} {o : Out} (h : Evolves s₀ s) (ho : Leads s₀ o) : Leads s₀ (s.asMaster who o) := .ite ho (.next h)

end Leads

namespace Ends
variable {s₀ s : State}

theorem of {a b : Nat} (h : Evolves s₀ s) : Ends s₀ (a, b, s) := h

theorem ite {c : Prop} [Decidable c] {a b : ObjOut} (ha : Ends s₀ a) (hb : Ends s₀ b) : Ends s₀ (if c then a else b) := by
  split <;> assumption

end Ends
end Sys2Proof.Machine

namespace Sys2Proof.Machine

/-! ## Operations and commands evolve the state -/

variable {s₀ s : State}

/-! ### Registers, memory, the event log and interrupts -/

theorem Evolves.inc {f i n} (h : Evolves s₀ s) : Evolves s₀ (s.inc f i n) := .wr h

theorem Evolves.wrI {f x i} (h : Evolves s₀ s) : Evolves s₀ (s.wrI f x i) := .wr h

theorem Evolves.putBit {f n b i} (h : Evolves s₀ s) : Evolves s₀ (s.putBit f n b i) := by
  unfold State.putBit; exact .ite h (.wr h)

theorem Evolves.advance {dt} (h : Evolves s₀ s) : Evolves s₀ (s.advance dt) := .aside h

theorem Evolves.waitAngle {a} (h : Evolves s₀ s) : Evolves s₀ (s.waitAngle a) := .aside h

theorem Evolves.logStamped {stamp src evt who data} (h : Evolves s₀ s) :
    Evolves s₀ (s.logStamped stamp src evt who data) :=
  .aside h

theorem Evolves.store {a l} (h : Evolves s₀ s) : Evolves s₀ (s.store a l) := by
  unfold State.store; exact .ite (.setBytes h) (.aside (.setBytes h))

theorem Evolves.raise {n} (h : Evolves s₀ s) : Evolves s₀ (s.raise n) := by
  unfold State.raise; exact .ite h (.aside h)

theorem Evolves.raiseFor {normal safety w} (h : Evolves s₀ s) : Evolves s₀ (s.raiseFor normal safety w) := .raise h

theorem Evolves.raiseOf {n w} (h : Evolves s₀ s) : Evolves s₀ (s.raiseOf n w) := .raise h

theorem Evolves.lower {n} (h : Evolves s₀ s) : Evolves s₀ (s.lower n) := .aside h

theorem Evolves.slIrq {g w} (h : Evolves s₀ s) : Evolves s₀ (s.slIrq g w) := by
  unfold State.slIrq; exact .ite h (.raiseFor h)

theorem Evolves.ioIrq {g w} (h : Evolves s₀ s) : Evolves s₀ (s.ioIrq g w) := by
  unfold State.ioIrq; exact .ite h (.raiseFor h)

theorem Evolves.denied {master w a n} (h : Evolves s₀ s) : Evolves s₀ (s.denied master w a n) := .logStamped h

theorem Evolves.releaseLocks {master} (h : Evolves s₀ s) : Evolves s₀ (s.releaseLocks master) :=
  .each h fun _ _ h' => .aside h'

theorem Evolves.ferryFail {die offset who tag code} (h : Evolves s₀ s) :
    Evolves s₀ (s.ferryFail die offset who tag code) := by
  unfold State.ferryFail
  split
  · exact .inc h
  · exact .raiseFor (.wr (.wr (.wr (.wr (.wr (.wr (.wr (.wr (.wr (.aside h))))))))))

theorem Evolves.dieLost {g offset who} (h : Evolves s₀ s) : Evolves s₀ (s.dieLost g offset who) := by
  unfold State.dieLost; exact .ite (.ferryFail (.aside h)) (.aside h)

theorem Evolves.sent {g offset who bad} (h : Evolves s₀ s) : Evolves s₀ (s.sent g offset who bad) := by
  unfold State.sent; exact .ite (.aside h) h

theorem Evolves.toDie {g offset who f} (h : Evolves s₀ s) (hf : ∀ s, Evolves s₀ s → Evolves s₀ (f s)) :
    Evolves s₀ (s.toDie g offset who f) := by
  unfold State.toDie; exact .ite (hf _ (.sent h)) (.dieLost h)

theorem Evolves.writesLost {g code} (h : Evolves s₀ s) : Evolves s₀ (s.writesLost g code) :=
  .each (.aside (.aside h)) fun _ _ h' => .ferryFail (.aside h')

/-! ### Records on P9, decisions and the journal -/

theorem Evolves.mirror {type b} (h : Evolves s₀ s) : Evolves s₀ (s.mirror type b) := by
  unfold State.mirror; exact .ite h (.ite (.inc h) (.ite (.inc h) (.wr (.aside h))))

theorem Evolves.sendRec {r} (h : Evolves s₀ s) : Evolves s₀ (s.sendRec r) := by
  unfold State.sendRec; exact .ite h (.mirror (.aside (.wr (.wr h))))

theorem Evolves.sendFree {type body} (h : Evolves s₀ s) : Evolves s₀ (s.sendFree type body) := .mirror h

theorem Evolves.decision {kind content} (h : Evolves s₀ s) : Evolves s₀ (s.decision kind content) := by
  unfold State.decision; exact .ite (.sendRec h) (.ite (.aside h) h)

theorem Evolves.jView (h : Evolves s₀ s) : Evolves s₀ s.jView := .wr (.wr (.wr (.aside h)))

theorem Evolves.mramStore {a l} (h : Evolves s₀ s) : Evolves s₀ (s.mramStore a l) := by
  unfold State.mramStore; exact .ite (.setBytes h) (.denied h)

theorem Evolves.jAppend {kind ref payload} (h : Evolves s₀ s) : Evolves s₀ (s.jAppend kind ref payload) :=
  .aside (.mramStore h)

theorem Evolves.jChain {opening} : ∀ {n rest} {s : State}, Evolves s₀ s → Evolves s₀ (s.jChain opening n rest)
  | 0, _, _, h => h
  | _ + 1, _, _, h => .ite h (Evolves.jChain (.jAppend h))

theorem Evolves.jWork {w wait} (h : Evolves s₀ s) : Evolves s₀ (s.jWork w wait) :=
  .jView (.aside (.jChain (.jAppend h)))

theorem Evolves.submit {w busy finish} (h : Evolves s₀ s) (hbusy : ∀ s, Evolves s₀ s → Evolves s₀ (busy s))
    (hfinish : ∀ x s, Evolves s₀ s → Evolves s₀ (finish x s)) : Evolves s₀ (s.submit w busy finish) := by
  unfold State.submit
  dsimp only
  split
  · exact hfinish _ _ (.aside h)
  · split
    · split
      · exact hbusy _ (.aside (.aside h))
      · exact hbusy _ (.aside h)
    · exact .ite (hfinish _ _ (.jWork (.sendRec h))) (hbusy _ (.aside (.wr h)))
    · exact .ite (hbusy _ (.jWork (.sendRec h))) (hbusy _ (.aside (.wr h)))

theorem Evolves.complete {jseq} (h : Evolves s₀ s) : Evolves s₀ (s.complete jseq) := by
  unfold State.complete; exact .ite (.jView (.aside (.jAppend h))) h

theorem Evolves.keptHere {which} (h : Evolves s₀ s) : Evolves s₀ (s.keptHere which) := .aside h

theorem Evolves.completeElem {e} (h : Evolves s₀ s) : Evolves s₀ (s.completeElem e) := by
  unfold State.completeElem
  split
  · exact .ite (.complete h) (.aside h)
  · exact .complete h

theorem Evolves.dispatchMark {jseq time count} (h : Evolves s₀ s) : Evolves s₀ (s.dispatchMark jseq time count) := by
  unfold State.dispatchMark; exact .ite (.jView (.aside (.jAppend h))) h

theorem Evolves.confWrite (h : Evolves s₀ s) : Evolves s₀ s.confWrite := .wr h

theorem Evolves.doRelease {x1} (h : Evolves s₀ s) : Evolves s₀ (s.doRelease x1) := by
  unfold State.doRelease
  split
  · exact .raiseFor (.wr (.wr h))
  · exact .raiseFor (.wr h)
  · exact .aside h
  · exact .raiseOf (.wr h)
  · exact .aside h
  · exact h
  · exact .aside h

theorem Evolves.releaseAfter {r} (h : Evolves s₀ s) : Evolves s₀ (s.releaseAfter r) := by
  unfold State.releaseAfter; exact .ite (.aside h) (.doRelease h)

theorem Evolves.releaseInput {b r} (h : Evolves s₀ s) : Evolves s₀ (s.releaseInput b r) := .releaseAfter (.sendRec h)

/-! ### CAN channels: levels, placing and completion -/

theorem Evolves.canView {k} (h : Evolves s₀ s) : Evolves s₀ (s.canView k) :=
  .wr (.wr (.each h fun _ _ h' => .when (.wr (.wr (.wr h'))) fun _ h'' => .wr h''))

theorem Evolves.setLevel {k l q} (h : Evolves s₀ s) : Evolves s₀ (s.setLevel k l q) := .canView (.aside h)

theorem Evolves.append {k l e} (h : Evolves s₀ s) : Evolves s₀ (s.append k l e) :=
  .canView (.when (.setLevel (.setBytes h)) fun _ h' => .wr h')

theorem Evolves.writeDone {k rec} (h : Evolves s₀ s) : Evolves s₀ (s.writeDone k rec) := by
  unfold State.writeDone; exact .ite (.aside h) (.canView (.wr (.wr (.setBytes h))))

theorem Evolves.drainDone {k} (h : Evolves s₀ s) : Evolves s₀ (s.drainDone k) := by
  unfold State.drainDone
  exact .ite (.wr (.each (.aside h) fun _ _ h' => .writeDone h')) (.each (.aside h) fun _ _ h' => .writeDone h')

theorem Evolves.ringWrite {k r f route noroute} (h : Evolves s₀ s) : Evolves s₀ (s.ringWrite k r f route noroute) := by
  unfold State.ringWrite; exact .ite (.aside (.wr (.inc h))) (.releaseAfter (.aside (.setBytes h)))

theorem Evolves.modElem {k l g} (h : Evolves s₀ s) : Evolves s₀ (s.modElem k l g) := by
  unfold State.modElem
  split
  · exact .setLevel h
  · exact h

theorem Evolves.refSent {k sof} (h : Evolves s₀ s) : Evolves s₀ (s.refSent k sof) := .aside h

theorem Evolves.onBus {k} (h : Evolves s₀ s) : Evolves s₀ (s.onBus k) := by
  unfold State.onBus
  exact .ite (.canView (.wr (.wr (.wr (.wr h))))) (.canView (.each (.wr (.wr (.wr (.wr h)))) fun _ _ h' => .wr h'))

theorem Evolves.toMonitor {k} (h : Evolves s₀ s) : Evolves s₀ (s.toMonitor k) :=
  .canView (.wr (.wr (.wr (.wr (.aside h)))))

theorem Evolves.confine {k} (h : Evolves s₀ s) : Evolves s₀ (s.confine k) := by
  unfold State.confine
  exact .ite (.wr h) (.ite (.logStamped (.canView (.each (.wr (.wr (.wr (.wr h)))) fun _ _ h' => .when h' fun _ h'' =>
    .wr h''))) (.ite (.ite (.wr (.wr (.wr h))) (.wr h)) (.wr (.wr h))))

theorem Evolves.canError {k code dataPhase} (h : Evolves s₀ s) : Evolves s₀ (s.canError k code dataPhase) :=
  .inc (.wr (.wr h))

theorem Evolves.canClaimGained {k} (h : Evolves s₀ s) : Evolves s₀ (s.canClaimGained k) := by
  unfold State.canClaimGained; exact .ite (.wr (.wr (.wr (.canView (.aside h))))) (.canView (.aside h))

theorem Evolves.canClaimLost {k} (h : Evolves s₀ s) : Evolves s₀ (s.canClaimLost k) := by
  unfold State.canClaimLost; exact .ite h (.ite (.aside h) (.toMonitor h))

theorem Evolves.noneMoved {k} (h : Evolves s₀ s) : Evolves s₀ (s.noneMoved k) := by
  unfold State.noneMoved; exact .ite h (.canClaimLost h)

theorem Evolves.dropHead {k l} (h : Evolves s₀ s) : Evolves s₀ (s.dropHead k l) := by
  unfold State.dropHead
  split
  · exact .noneMoved (.setLevel h)
  · exact h

/-! ### Weir: lookup, revocation and streams -/

theorem Evolves.weView (h : Evolves s₀ s) : Evolves s₀ s.weView := .wr h

theorem Evolves.revoked (h : Evolves s₀ s) : Evolves s₀ s.revoked := .wr (.inc h)

theorem Evolves.revokeHead {k} : ∀ {l} {s : State}, Evolves s₀ s → Evolves s₀ (s.revokeHead k l).1
  | [], _, h => h
  | _ :: _, _, h => .ite_fst (Evolves.revokeHead (.revoked h)) h

theorem Evolves.revokeHeads {k} (h : Evolves s₀ s) : Evolves s₀ (s.revokeHeads k) :=
  .noneMoved (.weView (.each h fun _ _ h' => .ite h' (.setLevel (.revokeHead h'))))

theorem Evolves.setXcvr {k mode} (h : Evolves s₀ s) : Evolves s₀ (s.setXcvr k mode) := .wr (.wr h)

theorem Evolves.segXcvr {n mode} (h : Evolves s₀ s) : Evolves s₀ (s.segXcvr n mode) :=
  .each h fun _ _ h' => .setXcvr h'

theorem Evolves.xcvrFollow (h : Evolves s₀ s) : Evolves s₀ s.xcvrFollow := by
  unfold State.xcvrFollow; exact .ite (.each h fun _ _ h' => .setXcvr h') h

theorem Evolves.segTaken {n st} (h : Evolves s₀ s) : Evolves s₀ (s.segTaken n st) :=
  .xcvrFollow (.wr (.when h fun _ h' => .wr (.wr h')))

theorem Evolves.segState {n st} (h : Evolves s₀ s) : Evolves s₀ (s.segState n st) := .sendRec (.wr h)

theorem Evolves.queueSleep {n type window} (h : Evolves s₀ s) : Evolves s₀ (s.queueSleep n type window) := by
  unfold State.queueSleep
  exact .ite (.each h fun _ _ h' => .when h' fun _ h'' => .append h'') (.aside (.each h fun _ _ h' => .when h' fun _
    h'' => .append h''))

theorem Evolves.wakeFrames {n} (h : Evolves s₀ s) : Evolves s₀ (s.wakeFrames n) := .queueSleep h

theorem Evolves.roundLists {n held silent} (h : Evolves s₀ s) : Evolves s₀ (s.roundLists n held silent) :=
  .each h fun _ _ h' => .wr (.wr h')

theorem Evolves.segAbort {n src} (h : Evolves s₀ s) : Evolves s₀ (s.segAbort n src) :=
  .wakeFrames (.segState (.roundLists (.aside (.wr (.wr (.wr (.segXcvr h)))))))

theorem Evolves.segWake {n src} (h : Evolves s₀ s) : Evolves s₀ (s.segWake n src) := by
  unfold State.segWake
  refine .ite h ?_
  split
  · exact .segAbort h
  · exact .segState (.wr h)
  · exact h

theorem Evolves.segQueued {k push} (h : Evolves s₀ s) : Evolves s₀ (s.segQueued k push) := by
  unfold State.segQueued; exact .ite (.segWake h) h

theorem Evolves.roundStart {n} (h : Evolves s₀ s) : Evolves s₀ (s.roundStart n) := by
  unfold State.roundStart
  exact .ite (.aside (.queueSleep (.aside (.segState (.wr h))))) (.queueSleep (.aside (.segState (.wr h))))

theorem Evolves.roundMay {n} (h : Evolves s₀ s) : Evolves s₀ (s.roundMay n) := by
  unfold State.roundMay; exact .ite (.roundStart h) h

theorem Evolves.segsClaim {c} (h : Evolves s₀ s) : Evolves s₀ (s.segsClaim c) := by
  unfold State.segsClaim
  refine .each h fun _ _ h' => .ite (.aside h') ?_
  split
  · exact .roundMay (.wr h')
  · exact .aside h'
  · exact .roundMay h'

theorem Evolves.roundRetry {n result} (h : Evolves s₀ s) : Evolves s₀ (s.roundRetry n result) := by
  unfold State.roundRetry; exact .ite (.wr (.aside (.segState (.wr h)))) (.aside (.segState (.wr h)))

theorem Evolves.sleepSent {k n type} (h : Evolves s₀ s) : Evolves s₀ (s.sleepSent k n type) := by
  unfold State.sleepSent
  exact .ite (.ite (.aside h) (.ite (.aside (.aside h)) (.segState (.segXcvr (.aside (.aside h)))))) h

theorem Evolves.vote {k f} (h : Evolves s₀ s) : Evolves s₀ (s.vote k f) := by
  unfold State.vote; exact .ite (.aside h) h

theorem Evolves.retire {k} (h : Evolves s₀ s) : Evolves s₀ (s.retire k) := by
  unfold State.retire
  dsimp only
  split
  · split
    · exact .revokeHeads (.completeElem (.ite (.writeDone (.setLevel (.aside h))) (.setLevel (.aside h))))
    · exact h
  · exact .aside h

theorem Evolves.join {k l e} (h : Evolves s₀ s) : Evolves s₀ (s.join k l e) := by
  unfold State.join; exact .ite (.retire (.append h)) (.append h)

theorem Evolves.place {k l e drop} (h : Evolves s₀ s) (hdrop : ∀ s, Evolves s₀ s → Evolves s₀ (drop s)) :
    Evolves s₀ (s.place k l e drop) := by
  unfold State.place; exact .ite (hdrop _ h) (.ite (.inc h) (.join h))

theorem Evolves.pushDone {k l e jseq} (h : Evolves s₀ s) : Evolves s₀ (s.pushDone k l e jseq) := by
  unfold State.pushDone; exact .segQueued (.join (.wr (.wr h)))

theorem Evolves.moveDone {k op dest dlevel elems jseq} (h : Evolves s₀ s) :
    Evolves s₀ (s.moveDone k op dest dlevel elems jseq) := by
  unfold State.moveDone
  extract_lets s1 s2
  have h1 : Evolves s₀ s1 := .each h fun _ _ h' => .append h'
  have h2 : Evolves s₀ s2 := .ite (.segQueued (.each h fun _ _ h' => .join h')) (.ite (.ite (.wr h1) h1) (.ite h
    (.keptHere (.each h fun _ _ h' => .append h'))))
  exact .weView (.ite (.wr h2) h2)

/-! ### Commands and events of the CAN channels -/

theorem Evolves.canWrite {who k g} (h : Evolves s₀ s) (hg : ∀ s, Evolves s₀ s → Evolves s₀ (g s)) :
    Evolves s₀ (s.canWrite who k g) := by
  unfold State.canWrite; exact .ite (hg _ h) (.wr h)

theorem Leads.canEnable {who k} (h : Evolves s₀ s) : Leads s₀ (execCanEnable who k s) := by
  unfold execCanEnable
  exact .asMaster h (.next (.ite (.aside h) (.canWrite (.aside h) fun _ h' => .ite (.wr (.wr h')) (.confWrite (.wr
    (.wr (.wr (.wr h'))))))))

theorem Leads.canIntegrationDone {k} (h : Evolves s₀ s) : Leads s₀ (execCanIntegrationDone k s) := by
  unfold execCanIntegrationDone; exact .running h (.next (.ite (.onBus h) h))

theorem Leads.canRecover {who k} (h : Evolves s₀ s) : Leads s₀ (execCanRecover who k s) := by
  unfold execCanRecover; exact .asMaster h (.next (.canWrite (.aside h) fun _ h' => .ite (.wr h') (.wr h')))

theorem Leads.canRecoveryDone {k} (h : Evolves s₀ s) : Leads s₀ (execCanRecoveryDone k s) := by
  unfold execCanRecoveryDone; exact .running h (.next (.ite (.onBus h) h))

theorem Evolves.canRelease {k l} (h : Evolves s₀ s) : Evolves s₀ (s.canRelease k l).1 := by
  unfold State.canRelease
  split
  · exact .ite_fst (.setLevel h) (.wr h)
  · exact .wr h

theorem Evolves.withdraw {k l status dest partner stamp elems} (h : Evolves s₀ s) :
    Evolves s₀ (s.withdraw k l status dest partner stamp elems) :=
  .noneMoved (.each h fun _ _ h' => .completeElem (.ite (.writeDone h') h'))

theorem Evolves.cmdAct {k op l dest dlevel stamp} (h : Evolves s₀ s) :
    Evolves s₀ (s.cmdAct k op l dest dlevel stamp) := by
  unfold State.cmdAct
  exact .ite (.ite (.wr (.wr h)) (.wr (.revokeHeads (.wr (.wr (.withdraw (.setLevel h))))))) (.ite (.wr (.wr (.wr h)))
    (.weView (.submit (.wr (.wr (.wr (.ite (.each (.setLevel h) fun _ _ h' => .completeElem h') (.withdraw (.setLevel
    h)))))) (fun _ h' => h') fun _ _ h' => .moveDone h')))

theorem Evolves.proxyCancel {k op l stamp} (h : Evolves s₀ s) : Evolves s₀ (s.proxyCancel k op l stamp) :=
  .revokeHeads (.noneMoved (.each (.setLevel h) fun _ _ h' => .sendFree (.completeElem (.ite (.writeDone h') h'))))

theorem Evolves.runPend {k sent} (h : Evolves s₀ s) : Evolves s₀ (s.runPend k sent) := by
  unfold State.runPend
  dsimp only
  split
  · exact h
  · exact .ite (.ite (.aside h) (.proxyCancel (.aside h))) (.ite (.wr (.wr (.wr (.aside h)))) (.cmdAct (.aside h)))

theorem Evolves.cancelOrdered {k op l} (h : Evolves s₀ s) : Evolves s₀ (s.cancelOrdered k op l) :=
  .wr (.wr (.sendRec (.decision h)))

theorem Evolves.cancelIn {k op l} (h : Evolves s₀ s) : Evolves s₀ (s.cancelIn k op l) := by
  unfold State.cancelIn; exact .ite (.aside h) (.proxyCancel h)

theorem Evolves.queueCmd {who k op l dest dlevel} (h : Evolves s₀ s) :
    Evolves s₀ (s.queueCmd who k op l dest dlevel) :=
  .canWrite h fun _ h' => .ite (.wr h') (.ite (.wr (.wr h')) (.ite (.ite (.wr (.wr (.decision (.canRelease h')))) (.wr
    (.wr (.canRelease h')))) (.ite (.wr (.wr h')) (.ite (.wr (.wr h')) (.ite (.wr (.wr h')) (.ite (.cancelOrdered h')
    (.ite (.wr (.wr h')) (.ite (.wr (.aside (.decision h'))) (.cmdAct (.decision h'))))))))))

theorem Leads.canRelease {who k l} (h : Evolves s₀ s) : Leads s₀ (execCanRelease who k l s) := by
  unfold execCanRelease; exact .asMaster h (.next (.queueCmd (.aside h)))

theorem Leads.canCancelHead {who k l} (h : Evolves s₀ s) : Leads s₀ (execCanCancelHead who k l s) := by
  unfold execCanCancelHead; exact .asMaster h (.next (.queueCmd (.aside h)))

theorem Leads.canCancelLevel {who k l} (h : Evolves s₀ s) : Leads s₀ (execCanCancelLevel who k l s) := by
  unfold execCanCancelLevel; exact .asMaster h (.next (.queueCmd (.aside h)))

theorem Leads.canMoveChannel {who k l dest dlevel} (h : Evolves s₀ s) :
    Leads s₀ (execCanMoveChannel who k l dest dlevel s) := by
  unfold execCanMoveChannel; exact .asMaster h (.next (.queueCmd (.aside h)))

theorem Leads.canMovePartner {who k l dlevel} (h : Evolves s₀ s) : Leads s₀ (execCanMovePartner who k l dlevel s) := by
  unfold execCanMovePartner; exact .asMaster h (.next (.queueCmd (.aside h)))

theorem Leads.canCompletionDeferred {k} (h : Evolves s₀ s) : Leads s₀ (execCanCompletionDeferred k s) := by
  unfold execCanCompletionDeferred; exact .running h (.next (.drainDone h))

theorem Leads.canTxPush {who k l} (h : Evolves s₀ s) : Leads s₀ (execCanTxPush who k l s) := by
  unfold execCanTxPush
  exact .asMaster h (.next (.canWrite (.aside h) fun _ h' => .ite (.wr h') (.ite (.wr h') (.ite (.wr h') (.ite (.wr
    h') (.submit (.decision h') (fun _ h'' => .wr h'') fun _ _ h'' => .pushDone h''))))))

theorem Evolves.attemptEnd {k sent} (h : Evolves s₀ s) : Evolves s₀ (s.attemptEnd k sent) := by
  unfold State.attemptEnd
  exact .ite (.toMonitor (.runPend (.canView (.aside h)))) (.runPend (.canView (.aside h)))

theorem Leads.canDisable {who k} (h : Evolves s₀ s) : Leads s₀ (execCanDisable who k s) := by
  unfold execCanDisable
  exact .asMaster h (.next (.ite (.aside h) (.canWrite (.aside h) fun _ h' => .confWrite (.attemptEnd (.wr (.wr (.wr
    (.wr (.wr h')))))))))

theorem Leads.canFrameOffer {k} (h : Evolves s₀ s) : Leads s₀ (execCanFrameOffer k s) := by
  unfold execCanFrameOffer
  refine .running h (.next (.ite ?_ h))
  dsimp only
  split
  · exact .canView (.revokeHeads h)
  · refine .canView (.aside ?_)
    split
    · exact .modElem (.canView (.revokeHeads h))
    · exact .canView (.revokeHeads h)

theorem Leads.canArbitrationLost {k} (h : Evolves s₀ s) : Leads s₀ (execCanArbitrationLost k s) := by
  unfold execCanArbitrationLost; exact .running h (.next (.ite (.attemptEnd h) h))

theorem Evolves.measureDelay {k fmt delay} (h : Evolves s₀ s) : Evolves s₀ (s.measureDelay k fmt delay) := by
  unfold State.measureDelay
  dsimp only
  split
  · exact .ite h (.ite (.wr (.ite h (.wr h))) (.ite h (.wr h)))
  · exact .ite h (.ite (.wr (.ite h (.wr h))) (.ite h (.wr h)))
  · exact h

theorem Evolves.elemSent {k l e} (h : Evolves s₀ s) : Evolves s₀ (s.elemSent k l e) := by
  unfold State.elemSent
  refine .revokeHeads (.ite (.sendFree (.completeElem ?_)) (.completeElem ?_))
  · split
    · exact .writeDone (.inc (.dropHead h))
    · exact .sleepSent (.inc (.dropHead h))
    · exact .inc (.dropHead h)
  · split
    · exact .writeDone (.inc (.dropHead h))
    · exact .sleepSent (.inc (.dropHead h))
    · exact .inc (.dropHead h)

theorem Evolves.stageFrame {k f} (h : Evolves s₀ s) : Evolves s₀ (s.stageFrame k f) := by
  unfold State.stageFrame; exact .ite (.wr (.inc h)) (.aside h)

theorem Evolves.sdoRequest {k f} (h : Evolves s₀ s) : Evolves s₀ (s.sdoRequest k f) := .releaseInput h

theorem Evolves.takeFrame {k f} (h : Evolves s₀ s) : Evolves s₀ (s.takeFrame k f) := by
  unfold State.takeFrame
  exact .ite (.aside (.inc h)) (.ite (.retire (.aside (.ite (.refSent (.aside (.inc h))) (.aside (.inc h))))) (.ite
    (.sdoRequest (.inc h)) (.stageFrame (.inc h))))

theorem Leads.canFrameSent {k sof delay} (h : Evolves s₀ s) : Leads s₀ (execCanFrameSent k sof delay s) := by
  unfold execCanFrameSent
  extract_lets _ _ _ heard counted
  have hh {s f} (h : Evolves s₀ s) : Evolves s₀ (heard s f) := .ite (.takeFrame h) h
  have hc : Evolves s₀ counted := .confine (.wr h)
  refine .running h (.next ?_)
  split
  · exact h
  · refine .ite (.attemptEnd h) (.attemptEnd ?_)
    split
    · exact hh (.refSent (.aside (.inc (.measureDelay hc))))
    · exact .aside (.inc hc)
    · split
      · exact hh (.elemSent (.measureDelay hc))
      · exact hc

theorem Leads.canTxError {k code dataPhase exempt} (h : Evolves s₀ s) :
    Leads s₀ (execCanTxError k code dataPhase exempt s) := by
  unfold execCanTxError
  extract_lets _ _ _ _ _ t
  have ht : Evolves s₀ t := .ite h (.ite (.measureDelay (.aside h)) (.aside h))
  exact .running h (.next (.ite (.ite (.attemptEnd h) h) (.ite (.ite (.confine (.ite (.canError h) (.wr (.canError
    h)))) h) (.attemptEnd (.confine (.ite (.canError ht) (.wr (.canError ht))))))))

theorem Leads.canRxError {k code dataPhase heavy xl} (h : Evolves s₀ s) :
    Leads s₀ (execCanRxError k code dataPhase heavy xl s) := by
  unfold execCanRxError; exact .running h (.next (.ite h (.ite (.canError h) (.confine (.wr (.canError h))))))

theorem Evolves.protoExcept {k} (h : Evolves s₀ s) : Evolves s₀ (s.protoExcept k) := .inc (.wr h)

theorem Leads.canProtocolException {k} (h : Evolves s₀ s) : Leads s₀ (execCanProtocolException k s) := by
  unfold execCanProtocolException; exact .running h (.next (.ite (.protoExcept h) h))

theorem Leads.canFrameReceived {k f} (h : Evolves s₀ s) : Leads s₀ (execCanFrameReceived k f s) := by
  unfold execCanFrameReceived
  exact .running h (.next (.ite h (.ite (.protoExcept h) (.takeFrame (.ite h (.confine (.wr h)))))))

/-! ### Confluence: tables, queues and the host port -/

theorem Evolves.setPtp {ns} (h : Evolves s₀ s) : Evolves s₀ (s.setPtp ns) := .aside h

theorem Evolves.learn {mac vid p} (h : Evolves s₀ s) : Evolves s₀ (s.learn mac vid p) := by
  unfold State.learn
  refine .ite h ?_
  split
  · exact .ite h (.aside h)
  · exact .ite (.inc h) (.aside h)

theorem Evolves.confView (h : Evolves s₀ s) : Evolves s₀ s.confView := .wr (.wr h)

theorem Evolves.enqueue {p q f} (h : Evolves s₀ s) : Evolves s₀ (s.enqueue p q f) := by
  unfold State.enqueue; exact .ite (.inc h) (.confView (.aside h))

theorem Evolves.sendPlain {p q b desc} (h : Evolves s₀ s) : Evolves s₀ (s.sendPlain p q b desc) := .aside (.enqueue h)

theorem Evolves.toHost {i p b trunc orig sseq stamp ptp agreed} (h : Evolves s₀ s) :
    Evolves s₀ (s.toHost i p b trunc orig sseq stamp ptp agreed) := by
  unfold State.toHost
  refine .ite (.inc h) (.ite (.inc (.denied h)) (.ite (.inc h) (.ite (.inc (.denied h)) (.ite (.releaseAfter (.aside
    (.setBytes (.setBytes h)))) ?_))))
  split
  · exact .aside (.aside (.setBytes (.setBytes h)))
  · exact .doRelease (.aside (.setBytes (.setBytes h)))

theorem Evolves.toP8 {f} (h : Evolves s₀ s) : Evolves s₀ (s.toP8 f) := by
  unfold State.toP8
  exact .ite (.aside h) (.ite (.inc h) (.each h fun _ _ h' => .toHost (.when h' fun _ h'' => .sendRec h'')))

theorem Evolves.polFill {p} (h : Evolves s₀ s) : Evolves s₀ (s.polFill p) := .aside h

theorem Evolves.polSize {p cbs} (h : Evolves s₀ s) : Evolves s₀ (s.polSize p cbs) := .aside (.polFill h)

theorem Evolves.police {p len} (h : Evolves s₀ s) : Evolves s₀ (s.police p len).1 := by
  unfold State.police; exact .ite_fst h (.aside (.polFill h))

theorem Evolves.storm {p mac mcast} (h : Evolves s₀ s) : Evolves s₀ (s.storm p mac mcast).1 := by
  unfold State.storm; exact .ite_fst h (.aside h)

theorem Evolves.switch {p b desc} (h : Evolves s₀ s) : Evolves s₀ (s.switch p b desc) := by
  unfold State.switch
  extract_lets
  refine .ite (.inc h) (.ite (.inc h) (.ite (.ite (.inc h) (.releaseInput (.when (.police h) fun _ h' => .inc h'))) ?_))
  split
  next s0 ok e0 =>
    have h0 : Evolves s₀ s0 := .fst (.police h) e0
    refine .ite (.inc h0) ?_
    extract_lets _ _ _ _ s1
    have h1 : Evolves s₀ s1 := .ite (.learn h0) h0
    refine .ite (.inc h0) ?_
    extract_lets
    split
    next s2 stormy e =>
      have h2 : Evolves s₀ s2 := .fst (.ite_fst h1 (.storm h1)) e
      exact .ite (.inc h2) (.ite (.inc h2) (.ite (.inc h2) (.each (.aside h2) fun _ _ h' => .enqueue h')))

theorem Evolves.sample {p b} (h : Evolves s₀ s) : Evolves s₀ (s.sample p b) := by
  unfold State.sample; exact .ite h (.ite (.toHost (.inc (.aside h))) (.aside h))

theorem Evolves.take {p b go} (h : Evolves s₀ s) (hgo : ∀ s, Evolves s₀ s → Evolves s₀ (go s)) :
    Evolves s₀ (s.take p b go) := by
  unfold State.take; exact .ite (.inc h) (.ite (.inc (.sample (.inc h))) (hgo _ (.sample (.inc h))))

theorem Evolves.p9ToP8 {b} (h : Evolves s₀ s) : Evolves s₀ (s.p9ToP8 b) := by
  unfold State.p9ToP8; exact .ite (.aside (.enqueue h)) (.inc h)

theorem Evolves.p8In {b go} (h : Evolves s₀ s) (hgo : ∀ s, Evolves s₀ s → Evolves s₀ (go s)) :
    Evolves s₀ (s.p8In b go) := by
  unfold State.p8In; exact .ite (.take h hgo) h

theorem Evolves.fromP8 {b} (h : Evolves s₀ s) : Evolves s₀ (s.fromP8 b) := .p8In h fun _ h' => .switch h'

theorem Evolves.sendTo {p q b desc} (h : Evolves s₀ s) : Evolves s₀ (s.sendTo p q b desc) := by
  unfold State.sendTo; exact .ite (.sendPlain h) (.ite (.inc h) h)

theorem Evolves.announce (h : Evolves s₀ s) : Evolves s₀ s.announce := .each h fun _ _ h' => .sendTo h'

/-! ### Commands and events of Confluence -/

theorem Evolves.askReplay (h : Evolves s₀ s) : Evolves s₀ s.askReplay := .sendFree (.aside h)

theorem Leads.ethFrameReceive {p bytes good} (h : Evolves s₀ s) : Leads s₀ (execEthFrameReceive p bytes good s) := by
  unfold execEthFrameReceive
  exact .running h (.next (.ite h (.ite (.ite (.askReplay (.inc (.inc h))) (.inc h)) (.take h fun _ h' => .ite (.ite
    h' (.p9ToP8 h')) (.switch h')))))

theorem Evolves.mirrorStart {bad} (h : Evolves s₀ s) : Evolves s₀ (s.mirrorStart bad) := by
  unfold State.mirrorStart
  split
  · exact .aside h
  · exact .aside (.ite (.wr (.inc (.inc (.wr (.aside h))))) (.inc (.wr (.aside h))))

theorem Leads.ethFrameTransmit {p} (h : Evolves s₀ s) : Leads s₀ (execEthFrameTransmit p s) := by
  unfold execEthFrameTransmit
  extract_lets
  refine .running h (.next (.ite (.aside h) (.ite (.mirrorStart h) ?_)))
  split
  · exact .aside h
  · split
    · exact .aside h
    · extract_lets s1 s2 s3
      have h1 : Evolves s₀ s1 := .aside (.confView (.aside h))
      have h3 : Evolves s₀ s3 := by
        unfold s3
        split
        · exact .ite (.setBytes (.inc h1)) (.denied (.inc h1))
        · exact .inc h1
      exact .ite (.inc h1) (.ite (.inc h1) (.aside (.ite (.toP8 h3) h3)))

theorem Leads.mirrorFrameStart {bad} (h : Evolves s₀ s) : Leads s₀ (execMirrorFrameStart bad s) := by
  unfold execMirrorFrameStart; exact .running h (.next (.ite (.aside h) (.mirrorStart h)))

theorem Evolves.hostSend {i d} (h : Evolves s₀ s) : Evolves s₀ (s.hostSend i d) := by
  unfold State.hostSend
  exact .ite (.denied h) (.p8In h fun _ h' => .ite (.switch h') (.ite h' (.ite (.inc h') (.ite (.sendPlain h') (.inc
    h')))))

theorem Evolves.hostDrain {i} : ∀ {n} {s : State}, Evolves s₀ s → Evolves s₀ (s.hostDrain i n)
  | 0, _, h => h
  | _ + 1, _, h => .ite h (.ite (.logStamped h) (.ite h (Evolves.hostDrain (.wr (.setBytes (.hostSend h))))))

theorem Leads.hostQueueDoorbell {who i tail} (h : Evolves s₀ s) : Leads s₀ (execHostQueueDoorbell who i tail s) := by
  unfold execHostQueueDoorbell
  exact .asMaster h (.next (.ite (.wr (.aside h)) (.ite (.hostDrain (.wr (.aside h))) (.wr (.aside h)))))

theorem Evolves.cfResult {code} (h : Evolves s₀ s) : Evolves s₀ (s.cfResult code) := by
  unfold State.cfResult; exact .ite (.confWrite (.confView (.wr (.wr h)))) (.wr h)

theorem Evolves.macCommit {w} (h : Evolves s₀ s) : Evolves s₀ (s.macCommit w) := by
  unfold State.macCommit
  refine .ite (.cfResult h) (.ite (.cfResult h) (.ite (.cfResult (.aside h)) (.ite (.cfResult (.aside h)) ?_)))
  split
  · exact .cfResult h
  · exact .cfResult (.aside h)

theorem Evolves.vlanCommit {w i} (h : Evolves s₀ s) : Evolves s₀ (s.vlanCommit w i) := by
  unfold State.vlanCommit
  exact .ite (.cfResult h) (.ite (.cfResult h) (.ite (.cfResult h) (.cfResult (.aside h))))

theorem Evolves.aclCommit {w i} (h : Evolves s₀ s) : Evolves s₀ (s.aclCommit w i) := by
  unfold State.aclCommit; exact .ite (.cfResult h) (.ite (.cfResult h) (.ite (.cfResult h) (.cfResult (.aside h))))

theorem Leads.cfTableCommit {who table index} (h : Evolves s₀ s) : Leads s₀ (execCfTableCommit who table index s) := by
  unfold execCfTableCommit
  refine .asMaster h (.next ?_)
  split
  · exact .macCommit (.aside h)
  · exact .vlanCommit (.aside h)
  · exact .aclCommit (.aside h)
  · exact .wr (.cfResult (.aside h))

theorem Leads.cfTableRemove {who table index} (h : Evolves s₀ s) : Leads s₀ (execCfTableRemove who table index s) := by
  unfold execCfTableRemove
  extract_lets answered
  have ha : Evolves s₀ answered := .aside h
  refine .asMaster h (.next ?_)
  split
  · split
    · exact .cfResult ha
    · exact .ite (.cfResult ha) (.cfResult (.aside ha))
  · exact .ite (.cfResult ha) (.ite (.cfResult ha) (.ite (.cfResult ha) (.cfResult (.aside ha))))
  · exact .ite (.cfResult ha) (.ite (.cfResult ha) (.ite (.cfResult ha) (.cfResult (.aside ha))))
  · exact .wr (.cfResult ha)

theorem Leads.macAgeing {mac vid} (h : Evolves s₀ s) : Leads s₀ (execMacAgeing mac vid s) := by
  unfold execMacAgeing; exact .running h (.next (.ite h (.aside h)))

theorem Leads.stormWindow {p} (h : Evolves s₀ s) : Leads s₀ (execStormWindow p s) := by
  unfold execStormWindow; exact .running h (.next (.aside h))

theorem Evolves.linkEvent {p up} (h : Evolves s₀ s) : Evolves s₀ (s.linkEvent p up) := .wr (.wr h)

theorem Evolves.emptyQueues {p} (h : Evolves s₀ s) : Evolves s₀ (s.emptyQueues p) := by
  unfold State.emptyQueues; exact .ite (.aside (.aside h)) (.aside h)

theorem Leads.linkDown {p} (h : Evolves s₀ s) : Leads s₀ (execLinkDown p s) := by
  unfold execLinkDown; exact .running h (.next (.ite h (.confView (.aside (.emptyQueues (.inc (.linkEvent h)))))))

theorem Leads.linkUp {p} (h : Evolves s₀ s) : Leads s₀ (execLinkUp p s) := by
  unfold execLinkUp; exact .running h (.next (.ite h (.confView (.emptyQueues (.linkEvent h)))))

theorem Evolves.ptpWrite {who g} (h : Evolves s₀ s) (hg : ∀ s, Evolves s₀ s → Evolves s₀ (g s)) :
    Evolves s₀ (s.ptpWrite who g) := by
  unfold State.ptpWrite; exact .ite (hg _ h) (.wr h)

theorem Leads.ptpClockSet {who} (h : Evolves s₀ s) : Leads s₀ (execPtpClockSet who s) := by
  unfold execPtpClockSet; exact .asMaster h (.next (.ptpWrite (.aside h) fun _ h' => .setPtp h'))

theorem Leads.ptpClockStep {who step} (h : Evolves s₀ s) : Leads s₀ (execPtpClockStep who step s) := by
  unfold execPtpClockStep; exact .asMaster h (.next (.ptpWrite (.aside h) fun _ h' => .setPtp h'))

theorem Evolves.ptpKeep (h : Evolves s₀ s) : Evolves s₀ s.ptpKeep := .aside h

theorem Leads.ptpSyncExpire (h : Evolves s₀ s) : Leads s₀ (execPtpSyncExpire s) := by
  unfold execPtpSyncExpire; exact .running h (.next (.wr (.aside h)))

theorem Leads.ptpClockRead (h : Evolves s₀ s) : Leads s₀ (execPtpClockRead s) := by
  unfold execPtpClockRead; exact .running h (.next (.aside (.wr (.wr (.wr h)))))

/-! ### Load channels: turning on and off -/

theorem Evolves.clampStart {k} (h : Evolves s₀ s) : Evolves s₀ (s.clampStart k) := by
  unfold State.clampStart; exact .ite (.wr (.aside h)) h

theorem Evolves.turnOff {k st} (h : Evolves s₀ s) : Evolves s₀ (s.turnOff k st) :=
  .wr (.wr (.wr (.aside (.clampStart h))))

theorem Evolves.turnOn {k act duty} (h : Evolves s₀ s) : Evolves s₀ (s.turnOn k act duty) := by
  unfold State.turnOn; exact .ite (.wr (.wr h)) (.ite (.wr h) (.wr (.wr (.wr (.wr (.aside h))))))

theorem Evolves.gateOff {g} (h : Evolves s₀ s) : Evolves s₀ (s.gateOff g) :=
  .each h fun _ _ h' => .ite (.turnOff h') h'

theorem Evolves.refuseCmd {k why} (h : Evolves s₀ s) : Evolves s₀ (s.refuseCmd k why) := by
  unfold State.refuseCmd; exact .when (.wr (.wr h)) fun _ h' => .wr h'

theorem Evolves.actOn {k action param} (h : Evolves s₀ s) : Evolves s₀ (s.actOn k action param) := by
  unfold State.actOn
  refine .ite (.ite (.turnOff (.wr (.wr (.aside h)))) (.wr (.wr (.aside h)))) ?_
  extract_lets on _ _ _ full pwm
  have ho : Evolves s₀ on := .wr (.aside h)
  have hf : Evolves s₀ full := .wr (.when (.wr (.aside ho)) fun _ h' => .wr h')
  split
  · exact .ite hf (.ite (.wr (.aside ho)) ho)
  · exact .ite (.wr (.aside ho)) (.ite (.wr (.aside ho)) ho)
  · exact .ite (.aside ho) (.ite hf ho)
  · exact .turnOn ho

theorem Evolves.applyCmd {k action param src} (h : Evolves s₀ s) : Evolves s₀ (s.applyCmd k action param src) := by
  unfold State.applyCmd; exact .ite (.refuseCmd h) (.wr (.wr (.actOn h)))

theorem Evolves.dieReport {g evt data w} (h : Evolves s₀ s) : Evolves s₀ (s.dieReport g evt data w) := .aside h

theorem Evolves.reported {r} (h : Evolves s₀ s) : Evolves s₀ (s.reported r) := .sendRec (.slIrq (.logStamped h))

theorem Evolves.slReport {k evt} (h : Evolves s₀ s) : Evolves s₀ (s.slReport k evt) := .dieReport h

theorem Evolves.groupReport {g evt} (h : Evolves s₀ s) : Evolves s₀ (s.groupReport g evt) := .dieReport h

theorem Evolves.attempt {k} (h : Evolves s₀ s) : Evolves s₀ (s.attempt k) :=
  .turnOn (.wr (.slReport (.wr (.inc (.aside h)))))

theorem Evolves.retryRelease {k} (h : Evolves s₀ s) : Evolves s₀ (s.retryRelease k) := by
  unfold State.retryRelease; exact .ite (.attempt h) h

theorem Evolves.trip {k cause} (h : Evolves s₀ s) : Evolves s₀ (s.trip k cause) :=
  .slReport (.inc (.wr (.aside (.turnOff (.wr h)))))

theorem Evolves.spillView {k} (h : Evolves s₀ s) : Evolves s₀ (s.spillView k) := .wr (.wr h)

theorem Evolves.fgApply {k a} (h : Evolves s₀ s) : Evolves s₀ (s.fgApply k a) :=
  .toDie h fun _ h' => .ite (.ite (.refuseCmd h') (.when (.wr (.applyCmd (.wr h'))) fun _ h'' => .raiseFor h''))
    (.applyCmd h')

theorem Evolves.imageBack {k m} (h : Evolves s₀ s) : Evolves s₀ (s.imageBack k m) := by
  unfold State.imageBack; exact .when (.aside (.each h fun _ _ h' => .wr h')) fun _ h' => .wr h'

theorem Evolves.fgTick {k a} (h : Evolves s₀ s) : Evolves s₀ (s.fgTick k a) := by
  unfold State.fgTick
  dsimp only
  split
  · exact .ite (.fgApply h) (.ite h (.aside (.fgApply (.imageBack h))))
  · exact .aside (.fgApply h)

theorem Evolves.fgIrqs {hits} (h : Evolves s₀ s) : Evolves s₀ (s.fgIrqs hits) := .each h fun _ _ h' => .raiseFor h'

theorem Evolves.fire : ∀ {n evs} {s : State}, Evolves s₀ s → Evolves s₀ (State.fire n evs s)
  | 0, _, _, h => h
  | n + 1, evs, s, h => by
    unfold State.fire
    extract_lets hits s1 s2 all dies decided acted s3
    refine .ite h ?_
    have h2 : Evolves s₀ acted :=
      .aside (.decision (.fgIrqs (.raise (.wr (.each h fun _ _ h' => .logStamped (.putBit (.inc h')))))))
    refine .ite h2 (Evolves.fire (.each h2 fun _ _ h' => ?_))
    split
    · exact h'
    · exact .fgTick h'

theorem Evolves.watched {f} (h : Evolves s₀ s) (hf : ∀ s, Evolves s₀ s → Evolves s₀ (f s)) :
    Evolves s₀ (s.watched f) :=
  .fire (hf _ h)

theorem Evolves.shedStep {g} (h : Evolves s₀ s) : Evolves s₀ (s.shedStep g) := by
  unfold State.shedStep
  split
  · exact .aside (.wr (.wr h))
  · exact .wr (.turnOff (.aside h))

/-! ### Field inputs and outputs -/

theorem Evolves.ioOverTemp {k} (h : Evolves s₀ s) : Evolves s₀ (s.ioOverTemp k) := .ioIrq (.inc (.wr (.wr h)))

theorem Evolves.ioRefresh {k} (h : Evolves s₀ s) : Evolves s₀ (s.ioRefresh k) := .wr (.wr (.ite (.ioOverTemp h) h))

theorem Evolves.ioLimit {k on} (h : Evolves s₀ s) : Evolves s₀ (s.ioLimit k on) := by
  unfold State.ioLimit; exact .when (.wr h) fun _ h' => .ioIrq h'

theorem Evolves.ioCompare {k} (h : Evolves s₀ s) : Evolves s₀ (s.ioCompare k) := by
  unfold State.ioCompare; exact .ite h (.ite (.wr (.wr h)) (.ioLimit (.ite h (.ioIrq (.logStamped (.wr h))))))

theorem Evolves.ioLevel {k b} (h : Evolves s₀ s) : Evolves s₀ (s.ioLevel k b) := .putBit (.wr h)

theorem Evolves.ioRawView {k} (h : Evolves s₀ s) : Evolves s₀ (s.ioRawView k) := .putBit h

theorem Evolves.ioSettle {k} (h : Evolves s₀ s) : Evolves s₀ (s.ioSettle k) := .ioRawView (.ioLevel (.aside h))

theorem Evolves.ioRerun {k} (h : Evolves s₀ s) : Evolves s₀ (s.ioRerun k) := .ioRawView (.aside h)

theorem Evolves.ioEdge {k b stamp} (h : Evolves s₀ s) : Evolves s₀ (s.ioEdge k b stamp) :=
  .ioCompare (.ite (.wr (.wr (.aside (.aside (.aside (.ioLevel h)))))) (.ite (.aside (.aside (.aside (.aside (.ioLevel
    h))))) (.aside (.aside (.ioLevel h)))))

theorem Evolves.ioNews {g} (h : Evolves s₀ s) : Evolves s₀ (s.ioNews g) :=
  .each (.aside h) fun _ _ h' => .fire (.when (.wr (.wr h')) fun _ h'' => .inc h'')

theorem Leads.fieldInputChange {k comp} (h : Evolves s₀ s) : Leads s₀ (execFieldInputChange k comp s) := by
  unfold execFieldInputChange
  extract_lets _ _ _ t
  have ht : Evolves s₀ t := .when (.ioRawView (.aside h)) fun _ h' => .ioLimit h'
  exact .next (.ite ht (.ite (.aside ht) (.ite ht (.aside ht))))

theorem Leads.debounceAccept {k} (h : Evolves s₀ s) : Leads s₀ (execDebounceAccept k s) := .next (.ite (.ioEdge h) h)

theorem Evolves.edgeLost {g chan} (h : Evolves s₀ s) : Evolves s₀ (s.edgeLost g chan) := .wr (.aside (.inc h))

theorem Evolves.edgePut {g chan rec'} (h : Evolves s₀ s) : Evolves s₀ (s.edgePut g chan rec') :=
  .releaseAfter (.aside (.setBytes h))

theorem Leads.edgeRecordWrite {g} (h : Evolves s₀ s) : Leads s₀ (execEdgeRecordWrite g s) := by
  unfold execEdgeRecordWrite
  refine .running h (.next ?_)
  split
  · exact h
  · exact .ite (.aside (.setWord (.setBytes (.aside h)))) (.ite (.edgeLost (.aside h)) (.edgePut (.aside (.sendRec
      (.aside h)))))

theorem Evolves.ioSet {k action src} (h : Evolves s₀ s) : Evolves s₀ (s.ioSet k action src) :=
  .ioCompare (.ioRefresh (.wr (.putBit (.wr (.aside h)))))

theorem Evolves.ioApply {k action src} (h : Evolves s₀ s) : Evolves s₀ (s.ioApply k action src) := by
  unfold State.ioApply; exact .ite (.wr (.wr h)) (.ioSet h)

theorem Evolves.ioCmd {who k action src} (h : Evolves s₀ s) : Evolves s₀ (s.ioCmd who k action src) :=
  .toDie (.decision h) fun _ h' => .ite (.wr h') (.ioApply h')

theorem Leads.fieldOutputOff {who k} (h : Evolves s₀ s) : Leads s₀ (execFieldOutputOff who k s) := by
  unfold execFieldOutputOff; exact .asMaster h (.next (.ioCmd (.aside h)))

theorem Leads.fieldOutputOn {who k} (h : Evolves s₀ s) : Leads s₀ (execFieldOutputOn who k s) := by
  unfold execFieldOutputOn; exact .asMaster h (.next (.ioCmd (.aside h)))

theorem Leads.readbackHoldEnd {k} (h : Evolves s₀ s) : Leads s₀ (execReadbackHoldEnd k s) :=
  .next (.ioCompare (.aside h))

theorem Leads.fieldOutputOvertemp {k} (h : Evolves s₀ s) : Leads s₀ (execFieldOutputOvertemp k s) :=
  .next (.ioRefresh (.aside h))

theorem Leads.fieldOutputOtpRecover {k} (h : Evolves s₀ s) : Leads s₀ (execFieldOutputOtpRecover k s) :=
  .next (.ioRefresh (.wr (.aside h)))

/-! ### Commands and events of the load channels -/

theorem Evolves.chanCmd {who k action param src} (h : Evolves s₀ s) : Evolves s₀ (s.chanCmd who k action param src) :=
  .toDie (.decision h) fun _ h' => .ite (.wr h') (.watched h' fun _ h'' => .applyCmd h'')

theorem Leads.channelOff {who k} (h : Evolves s₀ s) : Leads s₀ (execChannelOff who k s) := by
  unfold execChannelOff; exact .asMaster h (.next (.chanCmd (.aside h)))

theorem Leads.channelOn {who k} (h : Evolves s₀ s) : Leads s₀ (execChannelOn who k s) := by
  unfold execChannelOn; exact .asMaster h (.next (.chanCmd (.aside h)))

theorem Leads.channelOnHard {who k} (h : Evolves s₀ s) : Leads s₀ (execChannelOnHard who k s) := by
  unfold execChannelOnHard; exact .asMaster h (.next (.chanCmd (.aside h)))

theorem Leads.channelPwm {who k duty} (h : Evolves s₀ s) : Leads s₀ (execChannelPwm who k duty s) := by
  unfold execChannelPwm; exact .asMaster h (.next (.chanCmd (.aside h)))

theorem Leads.rampComplete {k} (h : Evolves s₀ s) : Leads s₀ (execRampComplete k s) :=
  .next (.ite (.ite (.wr (.aside h)) (.aside h)) h)

theorem Leads.inrushWindowEnd {k} (h : Evolves s₀ s) : Leads s₀ (execInrushWindowEnd k s) := .next (.ite (.wr h) h)

theorem Leads.pwmEdge {k rise} (h : Evolves s₀ s) : Leads s₀ (execPwmEdge k rise s) :=
  .next (.ite h (.ite (.ite (.wr (.when (.aside h) fun _ h' => .wr h')) (.when (.aside h) fun _ h' => .wr h')) (.ite h
    (.ite (.watched h fun _ h' => .turnOff h') (.aside (.clampStart h))))))

theorem Leads.millisecondMean {g coarse fine onPhase feed tj} (h : Evolves s₀ s) :
    Leads s₀ (execMillisecondMean g coarse fine onPhase feed tj s) := by
  unfold execMillisecondMean
  exact .ite (.next h) (.next (.aside (.each (.wrI (.wrI h)) fun _ _ h' => .wrI (.wr (.wrI (.aside h'))))))

theorem Evolves.streamPut {g rec'} (h : Evolves s₀ s) : Evolves s₀ (s.streamPut g rec') := .wr (.setBytes h)

theorem Evolves.turnPut {g off n body} (h : Evolves s₀ s) : Evolves s₀ (s.turnPut g off n body) :=
  .setWord (.setBytes (.setWord h))

theorem Leads.streamRecordDeposit {g} (h : Evolves s₀ s) : Leads s₀ (execStreamRecordDeposit g s) := by
  unfold execStreamRecordDeposit
  exact .running h (.next (.ite h (.ite (.setWord (.setBytes h)) (.streamPut (.sendRec h)))))

theorem Leads.turnRecordDeposit {g count sums} (h : Evolves s₀ s) : Leads s₀ (execTurnRecordDeposit g count sums s) := by
  unfold execTurnRecordDeposit; exact .running h (.next (.ite h (.ite (.turnPut h) (.turnPut (.sendRec h)))))

theorem Leads.openLoadOff {k mv} (h : Evolves s₀ s) : Leads s₀ (execOpenLoadOff k mv s) :=
  .next (.ite h (.ite (.wr h) (.ite (.slIrq (.wr h)) h)))

theorem Leads.extvChange {k mv} (h : Evolves s₀ s) : Leads s₀ (execExtvChange k mv s) :=
  .next (.ite (.wr h) (.ite (.when (.wr h) fun _ h' => .slIrq h') h))

theorem Leads.openLoadOn {k} (h : Evolves s₀ s) : Leads s₀ (execOpenLoadOn k s) := .next (.ite (.slIrq (.wr h)) h)

theorem Leads.reverseBlock {k} (h : Evolves s₀ s) : Leads s₀ (execReverseBlock k s) :=
  .next (.ite (.slIrq (.wr (.aside h))) h)

theorem Leads.reverseResume {k} (h : Evolves s₀ s) : Leads s₀ (execReverseResume k s) := .next (.ite (.aside h) h)

theorem Leads.sheddingRoundStart {g} (h : Evolves s₀ s) : Leads s₀ (execSheddingRoundStart g s) :=
  .next (.ite h (.watched h fun _ h' => .shedStep (.wr h')))

theorem Leads.shedStep {g} (h : Evolves s₀ s) : Leads s₀ (execShedStep g s) :=
  .next (.ite h (.ite (.aside (.wr h)) (.watched h fun _ h' => .shedStep h')))

theorem Leads.currentLimitEngage {k on} (h : Evolves s₀ s) : Leads s₀ (execCurrentLimitEngage k on s) :=
  .next (.ite (.ite (.wr h) h) (.wr h))

/-! ### Protection of the load channels and dies -/

theorem Leads.shortTrip {k} (h : Evolves s₀ s) : Leads s₀ (execShortTrip k s) :=
  .next (.ite (.watched h fun _ h' => .trip h') h)

theorem Leads.limitTrip {k} (h : Evolves s₀ s) : Leads s₀ (execLimitTrip k s) :=
  .next (.ite (.watched h fun _ h' => .trip h') h)

theorem Leads.thermalShutdown {k tj} (h : Evolves s₀ s) : Leads s₀ (execThermalShutdown k tj s) :=
  .next (.ite (.wrI h) (.ite (.watched (.wr (.wrI h)) fun _ h' => .trip h') (.wr (.wrI h))))

theorem Leads.thermalLatchRelease {k tj} (h : Evolves s₀ s) : Leads s₀ (execThermalLatchRelease k tj s) :=
  .next (.ite (.retryRelease (.wr (.wrI h))) (.wrI h))

theorem Evolves.protCmd {who k f} (h : Evolves s₀ s) (hf : ∀ s, Evolves s₀ s → Evolves s₀ (f s)) :
    Evolves s₀ (s.protCmd who k f) :=
  .toDie h fun _ h' => .ite (.wr (.wr (.wr (.wr h')))) (hf _ h')

theorem Evolves.protRefuse {k pwhy} (h : Evolves s₀ s) : Evolves s₀ (s.protRefuse k pwhy) := .wr (.wr (.wr h))

theorem Leads.thermalLatchClear {who k} (h : Evolves s₀ s) : Leads s₀ (execThermalLatchClear who k s) := by
  unfold execThermalLatchClear
  exact .asMaster h (.next (.protCmd (.aside h) fun _ h' => .ite (.protRefuse h') (.ite (.protRefuse h')
    (.retryRelease (.wr h')))))

theorem Leads.retryAttempt {k} (h : Evolves s₀ s) : Leads s₀ (execRetryAttempt k s) :=
  .next (.ite h (.ite (.aside h) (.attempt h)))

theorem Leads.retryCountReset {k} (h : Evolves s₀ s) : Leads s₀ (execRetryCountReset k s) := .next (.ite (.wr h) h)

theorem Leads.protectionClear {who k} (h : Evolves s₀ s) : Leads s₀ (execProtectionClear who k s) := by
  unfold execProtectionClear
  exact .asMaster h (.next (.protCmd (.aside h) fun _ h' => .ite (.protRefuse h') (.ite (.protRefuse h') (.ite
    (.protRefuse h') (.ite (.protRefuse h') (.wr (.wr (.aside (.wr (.wr (.wr (.slReport h'))))))))))))

theorem Leads.spillwayUnlock {who k} (h : Evolves s₀ s) : Leads s₀ (execSpillwayUnlock who k s) := by
  unfold execSpillwayUnlock
  exact .asMaster h (.next (.protCmd (.aside h) fun _ h' => .watched h' fun _ h'' => .ite (.protRefuse h'') (.ite
    (.protRefuse h'') (.ite (.protRefuse h'') (.retryRelease (.ite (.slReport (.aside (.wr h''))) (.wr (.slReport
    (.aside (.wr h''))))))))))

theorem Leads.clampPulseEnd {k energy} (h : Evolves s₀ s) : Leads s₀ (execClampPulseEnd k energy s) := by
  unfold execClampPulseEnd
  extract_lets _ _ s1 _ _ s2
  have h1 : Evolves s₀ s1 := .spillView (.wr (.wr (.aside h)))
  have h2 : Evolves s₀ s2 := .ite (.slReport (.wr h1)) h1
  exact .next (.ite h2 (.watched h2 fun _ h' => .ite (.ite (.aside (.wr h')) (.slReport (.inc (.aside (.wr h')))))
    (.turnOff (.ite (.aside (.wr h')) (.slReport (.inc (.aside (.wr h'))))))))

theorem Leads.spillwayBucket {g} (h : Evolves s₀ s) : Leads s₀ (execSpillwayBucket g s) :=
  .next (.each h fun _ _ h' => .spillView (.aside h'))

theorem Leads.feedUndervoltage {g} (h : Evolves s₀ s) : Leads s₀ (execFeedUndervoltage g s) :=
  .next (.ite h (.fire (.groupReport (.watched (.aside (.wr (.inc (.wr (.wr (.wr h)))))) fun _ h' => .each h' fun _ _
    h'' => .when (.ite (.turnOff h'') h'') fun _ h''' => .wr h'''))))

theorem Leads.undervoltageRestart {g} (h : Evolves s₀ s) : Leads s₀ (execUndervoltageRestart g s) :=
  .next (.ite h (.groupReport (.each (.each (.wr (.wr h)) fun _ _ h' => .ite (.ite (.turnOn (.wr h')) (.wr h')) h')
    fun _ _ h' => .retryRelease h')))

theorem Leads.feedDip {g below} (h : Evolves s₀ s) : Leads s₀ (execFeedDip g below s) := .next (.wr (.aside h))

theorem Evolves.resetRows {rows idx} (h : Evolves s₀ s) : Evolves s₀ (s.resetRows rows idx) :=
  .each h fun _ _ h' => .each h' fun _ _ h'' => .each h'' fun _ _ h''' => .wr h'''

theorem Evolves.resetDie {g} (h : Evolves s₀ s) : Evolves s₀ (s.resetDie g) :=
  .aside (.aside (.aside (.each (.each (.resetRows (.resetRows (.resetRows (.resetRows h)))) fun _ _ h' => .aside h')
    fun _ _ h' => .aside h')))

theorem Leads.dieReset {g} (h : Evolves s₀ s) : Leads s₀ (execDieReset g s) :=
  .next (.resetDie (.aside (.ite (.aside h) h)))

theorem Evolves.fsInForce {g t} (h : Evolves s₀ s) : Evolves s₀ (s.fsInForce g t) :=
  .wr (.wr (.each h fun _ _ h' => .wr h'))

theorem Leads.dieStart {g} (h : Evolves s₀ s) : Leads s₀ (execDieStart g s) := by
  unfold execDieStart
  refine .ite (.next (.aside (.resetDie h))) (.next (.each ?_ fun _ _ h' => .ioSettle h'))
  split
  · exact .fsInForce (.wr (.aside (.resetDie h)))
  · exact .wr (.fsInForce (.wr (.aside (.resetDie h))))

theorem Leads.floodgateSoftwareTrigger {who mask} (h : Evolves s₀ s) :
    Leads s₀ (execFloodgateSoftwareTrigger who mask s) := by
  unfold execFloodgateSoftwareTrigger; exact .asMaster h (.next (.ite (.wr (.aside h)) (.fire (.aside h))))

theorem Leads.floodgateOffAndLatch {k} (h : Evolves s₀ s) : Leads s₀ (execFloodgateOffAndLatch k s) :=
  .next (.watched h fun _ h' => .fgApply h')

theorem Evolves.firstServe {g} (h : Evolves s₀ s) : Evolves s₀ (s.firstServe g) := by
  unfold State.firstServe; exact .ite h (.wr (.putBit h))

theorem Leads.watchdogServe {who g value} (h : Evolves s₀ s) : Leads s₀ (execWatchdogServe who g value s) := by
  unfold execWatchdogServe
  exact .asMaster h (.next (.toDie (.aside h) fun _ h' => .ite h' (.ite (.aside (.wr (.firstServe h'))) (.aside (.wr
    h')))))

theorem Evolves.failsafeApply {g} (h : Evolves s₀ s) : Evolves s₀ (s.failsafeApply g) :=
  .each (.each h fun _ _ h' => .ite (.applyCmd h') (.ite (.applyCmd h') (.ite (.applyCmd h') (.ite (.turnOn (.wr h'))
    (.wr h'))))) fun _ _ h' => .ite (.ioApply h') (.ite (.ioApply h') (.ioRefresh (.wr h')))

theorem Leads.watchdogExpire {g} (h : Evolves s₀ s) : Leads s₀ (execWatchdogExpire g s) :=
  .next (.ite h (.ite (.ite (.groupReport (.aside (.wr h))) (.aside (.wr h))) (.groupReport (.watched (.aside (.wr h))
    fun _ h' => .failsafeApply (.wr h')))))

theorem Leads.failsafeResume {who g} (h : Evolves s₀ s) : Leads s₀ (execFailsafeResume who g s) := by
  unfold execFailsafeResume
  exact .asMaster h (.next (.toDie (.aside h) fun _ h' => .ite (.wr h') (.each (.each (.ite (.watched (.groupReport
    (.wr h')) fun _ h'' => .gateOff h'') (.groupReport (.wr h'))) fun _ _ h'' => .retryRelease h'') fun _ _ h'' =>
    .ioRefresh h'')))

theorem Leads.failsafeCommit {who g} (h : Evolves s₀ s) : Leads s₀ (execFailsafeCommit who g s) := by
  unfold execFailsafeCommit
  exact .asMaster h (.next (.toDie (.aside h) fun _ h' => .ite (.wr (.wr h')) (.ite (.logStamped (.wr (.wr h'))) (.ite
    (.wr h') (.aside (.wr h'))))))

theorem Leads.failsafeCommitDone {g okA okB} (h : Evolves s₀ s) : Leads s₀ (execFailsafeCommitDone g okA okB s) := by
  unfold execFailsafeCommitDone
  refine .next ?_
  split
  · exact h
  · exact .ite (.wr (.fsInForce (.wr (.aside h)))) (.wr (.wr (.aside h)))

/-! ### Power state requests -/

theorem Evolves.powerRefuse {why} (h : Evolves s₀ s) : Evolves s₀ (s.powerRefuse why) := .wr (.wr h)

theorem Evolves.logSecure {who} (h : Evolves s₀ s) : Evolves s₀ (s.logSecure who) :=
  .each h fun _ _ h' => .logStamped h'

theorem Evolves.startDone (h : Evolves s₀ s) : Evolves s₀ s.startDone :=
  .each (.xcvrFollow (.wr (.wr (.aside h)))) fun _ _ h' => .wakeFrames h'

theorem Evolves.coresReset (h : Evolves s₀ s) : Evolves s₀ s.coresReset :=
  .each (.aside h) fun _ _ h' => .releaseLocks h'

theorem Evolves.powerGo {req world} (h : Evolves s₀ s) : Evolves s₀ (s.powerGo req world) := by
  unfold State.powerGo
  split
  · exact .ite (.startDone h) (.coresReset (.wr h))
  · exact .wr h
  · exact .ite (.each (.aside (.wr h)) fun _ _ h' => .roundMay (.wr h')) (.aside (.wr h))

theorem Evolves.powerAccept {w req ordered} (h : Evolves s₀ s) : Evolves s₀ (s.powerAccept w req ordered) := by
  unfold State.powerAccept; exact .ite (.aside (.ite h (.sendRec h))) (.powerGo h)

theorem Evolves.powerAsk {who req ordered} (h : Evolves s₀ s) : Evolves s₀ (s.powerAsk who req ordered) := by
  unfold State.powerAsk
  dsimp only
  split
  · exact .powerAccept h
  · exact .ite (.logSecure (.powerRefuse h)) (.aside h)
  · exact .powerRefuse h

theorem Leads.powerRequestRun {who} (h : Evolves s₀ s) : Leads s₀ (execPowerRequestRun who s) := by
  unfold execPowerRequestRun; exact .asMaster h (.next (.powerAsk (.aside h)))

theorem Leads.powerRequestTrim {who} (h : Evolves s₀ s) : Leads s₀ (execPowerRequestTrim who s) := by
  unfold execPowerRequestTrim; exact .asMaster h (.next (.powerAsk (.aside h)))

theorem Leads.powerRequestStandby {who} (h : Evolves s₀ s) : Leads s₀ (execPowerRequestStandby who s) := by
  unfold execPowerRequestStandby; exact .asMaster h (.next (.powerAsk (.aside h)))

theorem Leads.powerRequestSleep {who} (h : Evolves s₀ s) : Leads s₀ (execPowerRequestSleep who s) := by
  unfold execPowerRequestSleep; exact .asMaster h (.next (.powerAsk (.aside h)))

theorem Leads.startLate (h : Evolves s₀ s) : Leads s₀ (execStartLate s) := by
  unfold execStartLate; exact .running h (.next (.ite (.wr (.startDone h)) h))

theorem Evolves.entryEnd {why} (h : Evolves s₀ s) : Evolves s₀ (s.entryEnd why) := .aside (.powerRefuse (.wr h))

theorem Leads.sleepEntryTimeout (h : Evolves s₀ s) : Leads s₀ (execSleepEntryTimeout s) := by
  unfold execSleepEntryTimeout; exact .running h (.next (.ite (.entryEnd h) h))

theorem Evolves.powerBoundary (h : Evolves s₀ s) : Evolves s₀ s.powerBoundary := by
  unfold State.powerBoundary
  split
  · exact h
  · exact .powerGo (.aside h)

/-! ### Braid: the claim and changes of state -/

theorem Evolves.noProxies (h : Evolves s₀ s) : Evolves s₀ s.noProxies :=
  .each h fun _ _ h' => .ite h' (.ite (.aside h') (.canClaimLost (.aside h')))

theorem Evolves.brGo {st} (h : Evolves s₀ s) : Evolves s₀ (s.brGo st) := by
  unfold State.brGo
  extract_lets _ s1 _ _ _ _ _ s2
  have h1 : Evolves s₀ s1 := .logStamped (.wr h)
  have h2 : Evolves s₀ s2 := .ite (.each (.aside h1) fun _ _ h' => .wr h') (.aside h1)
  exact .ite h (.ite (.noProxies h2) h2)

theorem Evolves.macInUse (h : Evolves s₀ s) : Evolves s₀ s.macInUse := .wr (.wr h)

theorem Evolves.setClaim {c} (h : Evolves s₀ s) : Evolves s₀ (s.setClaim c) := by
  unfold State.setClaim
  exact .ite h (.segsClaim (.each (.macInUse (.wr (.wr (.wr h)))) fun _ _ h' => .ite (.canClaimGained h')
    (.canClaimLost h')))

theorem Evolves.stopFence (h : Evolves s₀ s) : Evolves s₀ s.stopFence :=
  .each (.wr h) fun _ _ h' => .ite h' (.aside h')

theorem Evolves.dropLatch (h : Evolves s₀ s) : Evolves s₀ s.dropLatch := .setClaim (.stopFence (.aside h))

theorem Evolves.waitFree (h : Evolves s₀ s) : Evolves s₀ s.waitFree := by
  unfold State.waitFree
  split
  · exact .ite h (.aside h)
  · exact h

theorem Evolves.setLatch {cause} (h : Evolves s₀ s) : Evolves s₀ (s.setLatch cause) := by
  unfold State.setLatch; exact .ite h (.aside h)

theorem Evolves.sendBeat (h : Evolves s₀ s) : Evolves s₀ s.sendBeat := .aside (.sendFree h)

theorem Evolves.yieldClaim {swap} (h : Evolves s₀ s) : Evolves s₀ (s.yieldClaim swap) :=
  .aside (.brGo (.dropLatch (.sendBeat (.aside h))))

theorem Evolves.newEpoch {e} (h : Evolves s₀ s) : Evolves s₀ (s.newEpoch e) := .jView (.jAppend (.wr h))

theorem Evolves.startFence (h : Evolves s₀ s) : Evolves s₀ s.startFence := .wr h

theorem Evolves.diverge {kind own active} (h : Evolves s₀ s) : Evolves s₀ (s.diverge kind own active) :=
  .brGo (.logStamped (.inc (.wr h)))

theorem Evolves.compare : ∀ {n} {s : State}, Evolves s₀ s → Evolves s₀ (s.compare n)
  | 0, _, h => h
  | n + 1, s, h => by
    unfold State.compare
    split
    · exact h
    · exact .ite (Evolves.compare (.aside h)) (.diverge (.aside h))

theorem Evolves.compareAll (h : Evolves s₀ s) : Evolves s₀ s.compareAll := by
  unfold State.compareAll
  split
  · exact .diverge (.aside h)
  · exact .compare h

theorem Evolves.compareWindow (h : Evolves s₀ s) : Evolves s₀ s.compareWindow := by
  unfold State.compareWindow
  refine .ite h ?_
  dsimp only
  split
  · exact .diverge (.compareAll h)
  · exact .diverge (.compareAll h)
  · exact .compareAll h

theorem Evolves.braidBoundary (h : Evolves s₀ s) : Evolves s₀ s.braidBoundary := by
  unfold State.braidBoundary
  extract_lets s1 s2 s3 _ s4
  have h1 : Evolves s₀ s1 := .powerBoundary h
  have h2 : Evolves s₀ s2 := .compareWindow h1
  have h3 : Evolves s₀ s3 := .ite (.brGo (.newEpoch h2)) h2
  have h4 : Evolves s₀ s4 := .ite (.aside h3) h3
  exact .ite h1 (.ite (.yieldClaim h4) h4)

/-! ### Ferry links, safety pairs and memory errors -/

theorem Evolves.setAct {g act pair} (h : Evolves s₀ s) : Evolves s₀ (s.setAct g act pair) := by
  unfold State.setAct
  extract_lets _ _ _ _ _ _ t
  have ht : Evolves s₀ t := .ite (.watched (.wr (.aside h)) fun _ h' => .gateOff h') (.ite (.each (.wr (.aside h)) fun
    _ _ h' => .ite (.turnOn h') h') (.wr (.aside h)))
  exact .ite ht (.each ht fun _ _ h' => .ioRefresh (.aside h'))

theorem Leads.ferryPoll {g} (h : Evolves s₀ s) : Leads s₀ (execFerryPoll g s) := by
  unfold execFerryPoll
  exact .running h (.ite (.next (.ite (.aside (.setAct h)) h)) (.next (.ite (.writesLost (.putBit (.aside (.ite
    (.aside (.setAct h)) h)))) (.aside (.ite (.aside (.setAct h)) h)))))

theorem Evolves.dieAnswers {g} (h : Evolves s₀ s) : Evolves s₀ (s.dieAnswers g) :=
  .each (.aside (.ite (.writesLost h) (.each (.aside h) fun _ _ h' => .ferryFail (.aside h')))) fun _ _ h' =>
    .reported h'

theorem Leads.ferryPollResponse {g fails} (h : Evolves s₀ s) : Leads s₀ (execFerryPollResponse g fails s) := by
  unfold execFerryPollResponse
  exact .running h (.next (.ite h (.dieAnswers (.each (.ioNews (.wr (.putBit (.putBit (.aside h))))) fun _ _ h' =>
    .ferryFail (.aside h')))))

theorem Leads.diePollTimeout {g} (h : Evolves s₀ s) : Leads s₀ (execDiePollTimeout g s) := by
  unfold execDiePollTimeout; exact .running h (.next (.ite (.setAct h) h))

theorem Leads.ferryCrcError {g} (h : Evolves s₀ s) : Leads s₀ (execFerryCrcError g s) := by
  unfold execFerryCrcError; exact .running h (.next (.inc (.aside h)))

theorem Leads.ferryRetrain {g ok} (h : Evolves s₀ s) : Leads s₀ (execFerryRetrain g ok s) := by
  unfold execFerryRetrain
  exact .running h (.next (.ite h (.ite (.putBit (.wr (.aside (.inc h)))) (.ite (.wr (.aside (.inc h))) (.writesLost
    (.putBit (.putBit (.wr (.aside (.inc h))))))))))

theorem Leads.ferryReadTimeout (h : Evolves s₀ s) : Leads s₀ (execFerryReadTimeout s) := by
  unfold execFerryReadTimeout; exact .running h (.next (.aside h))

theorem Leads.lockAcquire {who n} (h : Evolves s₀ s) : Leads s₀ (execLockAcquire who n s) := by
  unfold execLockAcquire
  refine .asMaster h (.next (.ite (.aside h) ?_))
  split
  · exact .aside (.aside h)
  · exact .aside h

theorem Leads.lockRelease {who n} (h : Evolves s₀ s) : Leads s₀ (execLockRelease who n s) := by
  unfold execLockRelease; exact .asMaster h (.next (.ite (.aside (.aside h)) (.putBit (.aside h))))

theorem Evolves.pairError (h : Evolves s₀ s) : Evolves s₀ s.pairError := by
  unfold State.pairError; exact .ite (.yieldClaim h) h

theorem Leads.lockstepError {p cause pc} (h : Evolves s₀ s) : Leads s₀ (execLockstepError p cause pc s) := by
  unfold execLockstepError
  exact .running h (.next (.ite h (.pairError (.raise (.raise (.wr (.wr (.wr (.wr h)))))))))

theorem Evolves.pairCmd {who p g} (h : Evolves s₀ s) (hg : ∀ s, Evolves s₀ s → Evolves s₀ (g s)) :
    Evolves s₀ (s.pairCmd who p g) := by
  unfold State.pairCmd; exact .ite (hg _ h) (.wr h)

theorem Leads.pairRestart {who p} (h : Evolves s₀ s) : Leads s₀ (execPairRestart who p s) := by
  unfold execPairRestart
  exact .asMaster h (.next (.pairCmd (.aside h) fun _ h' => .ite h' (.when (.aside (.when (.lower (.releaseLocks (.inc
    (.wr (.wr (.wr h')))))) fun _ h'' => .lower h'')) fun _ h'' => .wr h'')))

theorem Leads.pairSelftest {who p fail} (h : Evolves s₀ s) : Leads s₀ (execPairSelftest who p fail s) := by
  unfold execPairSelftest
  exact .asMaster h (.next (.pairCmd (.aside h) fun _ h' => .when h' fun _ h'' => .wr h''))

theorem Evolves.memFault {who addr mem} (h : Evolves s₀ s) : Evolves s₀ (s.memFault who addr mem) := by
  unfold State.memFault
  exact .when (.each (.raise (.logStamped (.wr (.wr (.wr (.wr (.wr h))))))) fun _ _ h' => .raise h') fun _ h' =>
    .raise h'

theorem Leads.uncorrectableError {who addr mem} (h : Evolves s₀ s) :
    Leads s₀ (execUncorrectableError who addr mem s) := by
  unfold execUncorrectableError; exact .asMaster h (.next (.aside (.when (.memFault h) fun _ h' => .aside h')))

theorem Evolves.corrected (h : Evolves s₀ s) : Evolves s₀ s.corrected := .each h fun _ _ h' => .inc (.aside h')

/-! ### Eddy mailboxes -/

theorem Evolves.refuseAccess {who addr size} (h : Evolves s₀ s) : Evolves s₀ (s.refuseAccess who addr size) :=
  .aside (.logStamped h)

theorem Evolves.eddyIrq {e} (h : Evolves s₀ s) : Evolves s₀ (s.eddyIrq e) := by
  unfold State.eddyIrq; exact .ite h (.raise h)

theorem Evolves.eddyView {e r} (h : Evolves s₀ s) : Evolves s₀ (s.eddyView e r) := .wr (.wr (.wr (.wr h)))

theorem Evolves.eddyPage {who e off g} (h : Evolves s₀ s) (hg : ∀ s, Evolves s₀ s → Evolves s₀ (g s)) :
    Evolves s₀ (s.eddyPage who e off g) := by
  unfold State.eddyPage; exact .ite (hg _ h) (.refuseAccess h)

theorem Leads.eddyPush {who e r hi} (h : Evolves s₀ s) : Leads s₀ (execEddyPush who e r hi s) := by
  unfold execEddyPush
  exact .asMaster h (.next (.eddyPage (.aside h) fun _ h' => .ite h' (.ite (.wr h') (.when (.eddyView (.aside (.wr
    h'))) fun _ h'' => .aside h''))))

theorem Leads.eddyDoorbell {who e r} (h : Evolves s₀ s) : Leads s₀ (execEddyDoorbell who e r s) := by
  unfold execEddyDoorbell
  exact .asMaster h (.next (.eddyPage (.aside h) fun _ h' => .ite h' (.ite (.wr h') (.wr (.aside h')))))

theorem Leads.eddyPop {who r e} (h : Evolves s₀ s) : Leads s₀ (execEddyPop who r e s) := by
  unfold execEddyPop
  refine .asMaster h (.next (.eddyPage (.aside h) fun _ h' => ?_))
  split
  · exact h'
  · exact .ite (.when (.wr (.eddyView (.aside h'))) fun _ h'' => .eddyIrq h'') (.eddyView (.aside h'))

theorem Leads.eddyTimeout {e r} (h : Evolves s₀ s) : Leads s₀ (execEddyTimeout e r s) := by
  unfold execEddyTimeout
  exact .running h (.next (.ite h (.logStamped (.when (.wr (.wr (.aside h))) fun _ h' => .eddyIrq h'))))

/-! ### The NOR banks -/

theorem Evolves.writeRec {r} (h : Evolves s₀ s) : Evolves s₀ (s.writeRec r) := .aside (.setBytes (.wipe h))

theorem Evolves.markTrial (h : Evolves s₀ s) : Evolves s₀ s.markTrial := by
  unfold State.markTrial
  split
  · split
    · exact .setBytes h
    · exact h
  · exact h

/-! ### The key store and the abort of Delta operations -/

theorem Evolves.storeKey {n key attr} (h : Evolves s₀ s) : Evolves s₀ (s.storeKey n key attr) := .aside (.aside h)

theorem Evolves.remaskOps (h : Evolves s₀ s) : Evolves s₀ s.remaskOps := by
  unfold State.remaskOps
  refine .each h fun _ _ h' => ?_
  split
  · exact .ite (.aside (.aside h')) h'
  · exact h'

theorem Evolves.remaskRound (h : Evolves s₀ s) : Evolves s₀ s.remaskRound := by
  unfold State.remaskRound; exact .ite h (.remaskOps (.each h fun _ _ h' => .aside (.aside h')))

theorem Evolves.clearSlot {n} (h : Evolves s₀ s) : Evolves s₀ (s.clearSlot n) := .aside h

theorem Evolves.liftSlot {n} (h : Evolves s₀ s) : Evolves s₀ (s.liftSlot n) := .aside h

theorem Evolves.abortKeys {status p} (h : Evolves s₀ s) : Evolves s₀ (s.abortKeys status p) := by
  unfold State.abortKeys
  refine .each h fun _ _ h' => ?_
  split
  · split
    · exact .ite (.aside h') h'
    · exact h'
  · exact h'

theorem Evolves.revoke {r} (h : Evolves s₀ s) : Evolves s₀ (s.revoke r).1 :=
  .remaskRound (.each (.abortKeys h) fun _ _ h' => .clearSlot h')

/-! ### Delta: operations and completions -/

theorem Evolves.opFault {fn o} (h : Evolves s₀ s) : Evolves s₀ (s.opFault fn o) := by
  unfold State.opFault
  split
  · exact .when (.denied h) fun _ h' => .wr h'
  · exact h

theorem Evolves.emmcBlocks {α : Type} {a : α → Nat} {b : α → List Nat} {l : List α} (h : Evolves s₀ s) :
    Evolves s₀ { s with emmc := l.foldl (fun m x => Memory.wrBytes m (a x) (b x)) s.emmc } := by
  induction l generalizing s with
  | nil => exact h
  | cons _ _ ih => exact ih h.emmcBytes

theorem Evolves.storeRun {r} (h : Evolves s₀ s) : Evolves s₀ (s.storeRun r) :=
  Evolves.emmcBlocks (.each h fun _ _ h' => .store h')

theorem Evolves.undefOut {fn d} (h : Evolves s₀ s) : Evolves s₀ (s.undefOut fn d) :=
  .ite (.each (.each h fun _ _ h' => .aside (.store h')) fun _ _ h' => h'.emmcBytes.aside)
    (.each h fun _ _ h' => .aside (.store h'))

theorem Evolves.dqView {q} (h : Evolves s₀ s) : Evolves s₀ (s.dqView q) :=
  .wr (.wr (.ite (.wr (.wr (.wr h))) (.ite (.wr (.wr (.wr h))) (.wr (.wr h)))))

theorem Evolves.fnAccess {who q off g} (h : Evolves s₀ s) (hg : ∀ s, Evolves s₀ s → Evolves s₀ (g s)) :
    Evolves s₀ (s.fnAccess who q off g) := by
  unfold State.fnAccess; exact .ite (hg _ h) (.refuseAccess h)

theorem Evolves.useView (h : Evolves s₀ s) : Evolves s₀ s.useView := .putBit (.putBit (.putBit h))

theorem Evolves.startOp {q} (h : Evolves s₀ s) : Evolves s₀ (s.startOp q) := by
  unfold State.startOp
  split
  · exact h
  · exact .ite h (.aside h)

theorem Evolves.startHeads (h : Evolves s₀ s) : Evolves s₀ s.startHeads :=
  .each h fun _ _ h' => .getD_map h' fun _ => .startOp h'

theorem Evolves.unstage {q} (h : Evolves s₀ s) : Evolves s₀ (s.unstage q) := .startHeads (.aside h)

theorem Evolves.cplEntry {q o status result} (h : Evolves s₀ s) : Evolves s₀ (s.cplEntry q o status result) :=
  .complete (.when (.when (.inc (.dqView (.useView (.unstage (.aside (.wr (.wr (.ite (.setBytes h) (.denied h)))))))))
    fun _ h' => .wr h') fun _ h' => .wr h')

/-! ### Commands of Delta -/

theorem Evolves.dbRefused {q code} (h : Evolves s₀ s) : Evolves s₀ (s.dbRefused q code) := .wr (.inc (.wr h))

theorem Evolves.doorbellDone {q tail} (h : Evolves s₀ s) : Evolves s₀ (s.doorbellDone q tail) := by
  unfold State.doorbellDone
  exact .ite (.dbRefused (.each (.wr (.aside h)) fun _ _ h' => .complete h')) (.dqView (.wr (.wr (.aside (.wr (.aside
    h))))))

theorem Evolves.deltaAccepted {q idx desc jseq} (h : Evolves s₀ s) : Evolves s₀ (s.deltaAccepted q idx desc jseq) := by
  unfold State.deltaAccepted
  dsimp only
  split
  · exact .ite (.doorbellDone (.aside h)) (.aside h)
  · exact .aside h

theorem Leads.deltaDoorbell {who q tail} (h : Evolves s₀ s) : Leads s₀ (execDeltaDoorbell who q tail s) := by
  unfold execDeltaDoorbell
  exact .asMaster h (.next (.fnAccess (.aside h) fun _ h' => .ite (.dbRefused (.getD_map h' fun _ => .denied h'))
    (.each (.decision (.wr (.aside h'))) fun _ _ h'' => .submit h'' (fun _ h''' => h''') fun _ _ h''' =>
    .deltaAccepted h''')))

theorem Evolves.startRound {c} (h : Evolves s₀ s) : Evolves s₀ (s.startRound c) := .each h fun _ _ h' => .aside h'

theorem Evolves.dispatch {e q idx desc jseq rest} (h : Evolves s₀ s) :
    Evolves s₀ (s.dispatch e q idx desc jseq rest) :=
  .useView (.dqView (.startHeads (.aside (.aside (.when h fun _ h' => .denied h')))))

theorem Leads.deltaDispatch {e} (h : Evolves s₀ s) : Leads s₀ (execDeltaDispatch e s) := by
  unfold execDeltaDispatch
  refine .running h (.next (.ite h ?_))
  dsimp only
  split
  · exact .ite (.startRound h) h
  · split
    · exact .ite (.startRound h) h
    · exact .dispatch (.ite (.startRound h) h)

theorem Evolves.clearedOut {fn o} (h : Evolves s₀ s) : Evolves s₀ (s.clearedOut fn o) := by
  unfold State.clearedOut; exact .ite h (.store (.aside h))

theorem Leads.deltaOperationComplete {q ecc emmc} (h : Evolves s₀ s) :
    Leads s₀ (execDeltaOperationComplete q ecc emmc s) := by
  unfold execDeltaOperationComplete
  refine .running h (.next ?_)
  split
  · exact h
  · refine .ite h ?_
    split
    · exact .cplEntry (.clearedOut h)
    · exact .cplEntry h
    · exact .ite (.cplEntry (.memFault (.aside (.aside (.undefOut h))))) (.ite (.cplEntry (.aside (.undefOut
        (.storeRun (.ite (.storeRun h) h))))) (.ite (.cplEntry (.aside (.undefOut (.opFault (.ite (.storeRun h) h)))))
        (.cplEntry (.storeRun (.ite (.storeRun h) h)))))

theorem Evolves.putShare {q share} (h : Evolves s₀ s) : Evolves s₀ (s.putShare q share) := .dqView (.wr h)

theorem Leads.deltaShareWrite {who q share} (h : Evolves s₀ s) : Leads s₀ (execDeltaShareWrite who q share s) := by
  unfold execDeltaShareWrite; exact .asMaster h (.next (.ite (.wr (.aside h)) (.putShare (.aside h))))

theorem Leads.queueEnable {who q} (h : Evolves s₀ s) : Leads s₀ (execQueueEnable who q s) := by
  unfold execQueueEnable
  exact .asMaster h (.next (.fnAccess (.aside h) fun _ h' => .ite h' (.dqView (.wr (.wr (.wr (.wr (.wr (.wr
    h')))))))))

theorem Evolves.squash {q} (h : Evolves s₀ s) : Evolves s₀ (s.squash q) := by
  unfold State.squash
  dsimp only
  split
  · exact h
  · exact .when (.dqView (.inc (.useView (.unstage (.aside (.ite (.storeRun (.storeRun (.aside h))) h)))))) fun _ h'
      => .remaskRound h'

theorem Evolves.startFnReset {n} (h : Evolves s₀ s) : Evolves s₀ (s.startFnReset n) := by
  unfold State.startFnReset; exact .ite h (.each (.wr (.putBit h)) fun _ _ h' => .squash h')

theorem Leads.functionReset {n} (h : Evolves s₀ s) : Leads s₀ (execFunctionReset n s) := by
  unfold execFunctionReset; exact .running h (.next (.startFnReset (.aside h)))

theorem Leads.drainTimeout {n} (h : Evolves s₀ s) : Leads s₀ (execDrainTimeout n s) := by
  unfold execDrainTimeout; exact .running h (.next (.ite h (.each h fun _ _ h' => .wr (.squash h'))))

theorem Evolves.returnPending {q} (h : Evolves s₀ s) : Evolves s₀ (s.returnPending q) :=
  .dqView (.inc (.wr (.wr (.aside (.each h fun _ _ h' => .complete h')))))

theorem Leads.functionResetDone {n} (h : Evolves s₀ s) : Leads s₀ (execFunctionResetDone n s) := by
  unfold execFunctionResetDone
  exact .running h (.next (.ite h (.releaseLocks (.wr (.wr (.putBit (.wr (.putBit (.each h fun _ _ h' =>
    .returnPending h')))))))))

/-! ### Gauge acquisition -/

theorem Evolves.putSamples {sampleAddr flagAddr x flags} (h : Evolves s₀ s) :
    Evolves s₀ (s.putSamples sampleAddr flagAddr x flags) :=
  .setBytes (.setBytes h)

theorem Evolves.dupDiff {h c} (hs : Evolves s₀ s) : Evolves s₀ (s.dupDiff h c) := by
  unfold State.dupDiff; exact .ite hs (.setBytes hs)

theorem Evolves.boardByte {b i g} (h : Evolves s₀ s) : Evolves s₀ (s.boardByte b i g) := .setBytes h

theorem Evolves.enterSlot {h k t f slot} (hs : Evolves s₀ s) : Evolves s₀ (s.enterSlot h k t f slot).1 := by
  obtain ⟨sl, inv, bal, x0⟩ := slot
  unfold State.enterSlot
  dsimp only
  split
  · exact hs
  · exact .ite_fst (.dupDiff hs) (.putSamples hs)

theorem Evolves.enterFrame {h k key t f data} (hs : Evolves s₀ s) : Evolves s₀ (s.enterFrame h k key t f data) := by
  unfold State.enterFrame
  extract_lets _ _ _ _ _ entered
  have he : Evolves s₀ entered.1 := by
    refine .foldlOf Prod.fst (fun a sl h' => ?_) hs
    exact .enterSlot h'
  exact .ite (.aside (.putSamples hs)) (.aside (.boardByte (.setBytes (.boardByte (.each he fun _ _ h' => .setBytes h')))))

theorem Evolves.gaugeEnter {k cf} (h : Evolves s₀ s) : Evolves s₀ (s.gaugeEnter k cf) := by
  unfold State.gaugeEnter
  refine .ite h ?_
  split
  · exact .wr (.inc h)
  next f _ =>
    extract_lets b note
    have hn {s i g} (h : Evolves s₀ s) : Evolves s₀ (note s i g) := .ite h (.boardByte h)
    refine .ite (.ite (hn (.wr (.inc h))) (.inc h)) (.ite (hn (.wr (.inc h))) (.ite (.wr (.inc h)) ?_))
    split
    · exact .ite (hn (.wr (.inc h))) (.each (.inc (hn (.wr (.inc h)))) fun _ _ h' => .dupDiff h')
    · exact .enterFrame h

theorem Evolves.gaActive (h : Evolves s₀ s) : Evolves s₀ s.gaActive := .wr h

theorem Evolves.gaugeOpen {n plans angle0 mapNew} (h : Evolves s₀ s) :
    Evolves s₀ (s.gaugeOpen n plans angle0 mapNew) :=
  .gaActive (.aside (.setBytes (.wipe (.wipe (.wipe h)))))

theorem Evolves.sourceRuns {t} (h : Evolves s₀ s) : Evolves s₀ (s.sourceRuns t) :=
  .each h fun _ _ h' => .ite h' (.aside h')

theorem Evolves.gaugeClose {h} (hs : Evolves s₀ s) : Evolves s₀ (s.gaugeClose h) :=
  .wr (.gaActive (.aside (.setBytes (.when (.inc (.inc (.wr (.aside (.each (.each (.each (.each (.sourceRuns hs) fun _
    _ h' => .boardByte h') fun _ _ h' => .boardByte h') fun _ _ h' => .boardByte h') fun _ _ h' => .boardByte h')))))
    fun _ h' => .wr h'))))

/-! ### The Gauge pass -/

theorem Evolves.alarm {a} (h : Evolves s₀ s) : Evolves s₀ (s.alarm a) := by
  unfold State.alarm
  extract_lets _ _ _ _ t
  have ht : Evolves s₀ t := .ite (.wr (.inc h)) (.when (.when (.wr (.setBytes h)) fun _ h' => .raise h') fun _ h' =>
    .raise h')
  exact .ite (.fire ht) ht

theorem Evolves.screenCell {str med o raised} (h : Evolves s₀ s) : Evolves s₀ (s.screenCell str med o raised).1 := by
  refine .foldlOf Prod.fst (fun a k h' => ?_) h
  obtain ⟨s, o, up, n⟩ := a
  dsimp only
  split
  · exact h'
  · split
    · exact h'
    · exact .alarm h'

/-- A check that raises its alarm, or clears it, or leaves it. -/
theorem Evolves.alarmed {α : Type} {c d : Prop} [Decidable c] [Decidable d] {x y} {u v w : α} (h : Evolves s₀ s) :
    Evolves s₀ (if c then (s.alarm x, u) else if d then (s.alarm y, v) else (s, w)).1 :=
  .ite_fst (.alarm h) (.ite_fst (.alarm h) h)

theorem Evolves.stringChecks {t str old new inp src} (h : Evolves s₀ s) :
    Evolves s₀ (s.stringChecks t str old new inp src).1 := by
  unfold State.stringChecks
  extract_lets lowest e mine silent up boards r s0 gauge s1
  have h1 : Evolves s₀ s1 := .aside (.foldlOf Prod.fst (fun _ _ h' => .alarm h') h)
  split
  next s2 u9 n9 e9 =>
    have h2 : Evolves s₀ (s2, u9, n9).1 := e9 ▸ .alarmed h1
    split
    next s3 u10 n10 e10 => exact (e10 ▸ .alarmed h2 : Evolves s₀ (s3, u10, n10).1)

/-- The checks of every cell of a string (R118), or none of them. -/
theorem Evolves.screenCells {α : Type} {c : Prop} [Decidable c] {l : List CellOut} {a b : α}
    {g : State × α → CellOut → State × α}
    (h : Evolves s₀ s) (hg : ∀ b o, Evolves s₀ b.1 → Evolves s₀ (g b o).1) :
    Evolves s₀ (if c then (s, a) else l.foldl g (s, b)).1 :=
  .ite_fst h (.foldlOf Prod.fst hg h)

theorem Evolves.passStr {a : PassAcc} {h t prev allInit str} (ha : Evolves s₀ a.st) :
    Evolves s₀ (a.str h t prev allInit str).st := by
  unfold PassAcc.str
  extract_lets
  split
  · exact .aside ha
  · have hz {c d : Bool} : Evolves s₀ ((a.st.when c (·.setF .GE_STAT_MEDSKIP)).when d (·.setF .GE_STAT_SAT)) :=
      .when (.when ha fun _ h' => .wr h') fun _ h' => .wr h'
    split
    next s1 new n e =>
      have h1 : Evolves s₀ (s1, new, n).1 := e ▸ .ite_fst (.stringChecks (.screenCells hz fun _ _ h' => .screenCell h'))
        (.screenCells hz fun _ _ h' => .screenCell h')
      exact .aside (.each (.each (.setBytes h1) fun _ _ h' => .setBytes h') fun _ _ h' => .setBytes h')

theorem Evolves.sensorsAge (h : Evolves s₀ s) : Evolves s₀ s.sensorsAge := .each (.aside h) fun _ _ h' => .setBytes h'

theorem Evolves.sensorTick {h t} (hs : Evolves s₀ s) : Evolves s₀ (s.sensorTick h t) :=
  .each (.aside hs) fun _ _ h' => .setBytes h'

theorem Evolves.gaugePass {h} (hs : Evolves s₀ s) : Evolves s₀ (s.gaugePass h) :=
  .aside (.setBytes (.setBytes (.foldlOf PassAcc.st (fun _ _ h' => .passStr h')
    (.wipe (.wipe (.sensorTick (.setWord (.wr (.aside hs)))))))))

theorem Evolves.gaugeDone (h : Evolves s₀ s) : Evolves s₀ s.gaugeDone := by
  unfold State.gaugeDone
  split
  · exact h
  · exact .decision (.aside (.raise (.raise (.wr (.wr (.wr (.wr (.wr (.wr (.setBytes (.setBytes h)))))))))))

/-! ### Commands and events of Gauge -/

theorem Leads.mapCommit (h : Evolves s₀ s) : Leads s₀ (execMapCommit s) := by
  unfold execMapCommit
  exact .running h (.next (.ite (.confWrite (.wr (.aside (.wr (.wr (.aside h)))))) (.wr (.wr (.aside h)))))

theorem Evolves.mapsInForce (h : Evolves s₀ s) : Evolves s₀ (s.mapsInForce).1 := by
  unfold State.mapsInForce
  split
  · exact h
  · exact .wr (.aside (.each (.each (.each h fun _ _ h' => .wr h') fun _ _ h' => .wr h') fun _ _ h' => .wr (.wr h')))

theorem Leads.geometryCommit (h : Evolves s₀ s) : Leads s₀ (execGeometryCommit s) := by
  unfold execGeometryCommit; exact .running h (.next (.ite (.wr (.aside h)) (.confWrite (.wr (.aside h)))))

theorem Evolves.geometryCopy (h : Evolves s₀ s) : Evolves s₀ s.geometryCopy := by
  unfold State.geometryCopy; exact .ite (.wr (.aside (.setBytes h))) h

theorem Leads.reinitCell {c} (h : Evolves s₀ s) : Leads s₀ (execReinitCell c s) := by
  unfold execReinitCell; exact .running h (.next (.ite (.wr (.aside h)) (.aside (.aside h))))

theorem Leads.reinitAll (h : Evolves s₀ s) : Leads s₀ (execReinitAll s) := by
  unfold execReinitAll; exact .running h (.next (.aside (.aside h)))

theorem Leads.gaugePassStart (h : Evolves s₀ s) : Leads s₀ (execGaugePassStart s) := by
  unfold execGaugePassStart
  refine .running h (.next ?_)
  split
  · exact .ite h (.gaugePass h)
  · exact h

theorem Leads.gaugePassDone (h : Evolves s₀ s) : Leads s₀ (execGaugePassDone s) := by
  unfold execGaugePassDone; exact .running h (.next (.gaugeDone h))

theorem Evolves.turnClose (h : Evolves s₀ s) : Evolves s₀ s.turnClose := by
  unfold State.turnClose; exact .ite (.ite (.gaugeClose h) (.releaseInput (.gaugeClose h))) h

/-! ### Commands and events of Weir -/

theorem Evolves.streamHandover {n} (h : Evolves s₀ s) : Evolves s₀ (s.streamHandover n).1 := by
  refine .foldlOf Prod.fst (fun _ _ h' => ?_) h
  split
  · exact .ite_fst h' (.revoked h')
  · exact h'

theorem Evolves.sendBundle {n} (h : Evolves s₀ s) : Evolves s₀ (s.sendBundle n) := by
  unfold State.sendBundle
  exact .ite (.weView (.aside (.streamHandover h))) (.weView (.fromP8 (.aside (.streamHandover h))))

theorem Evolves.toStream {k n gen rev f} (h : Evolves s₀ s) : Evolves s₀ (s.toStream k n gen rev f) := by
  unfold State.toStream
  exact .ite (.inc h) (.ite h (.ite (.sendBundle (.aside h)) (.weView (.aside (.ite (.sendBundle h) h)))))

theorem Leads.bundleTimeout {n} (h : Evolves s₀ s) : Leads s₀ (execBundleTimeout n s) := by
  unfold execBundleTimeout; exact .running h (.next (.sendBundle h))

theorem Evolves.route1 {k f} (h : Evolves s₀ s) : Evolves s₀ (s.route1 k f) := by
  unfold State.route1
  extract_lets s1
  have h1 : Evolves s₀ s1 := .vote h
  refine .ite (.inc h1) ?_
  split
  · exact .ite (.ringWrite (.inc h1)) (.inc h1)
  · extract_lets _ _ placed ringed gauged
    have hp : Evolves s₀ placed := .each h1 fun _ _ h' => .place h' fun _ h'' => .wr (.inc h'')
    have hr : Evolves s₀ ringed := .ite (.ringWrite hp) hp
    have hg : Evolves s₀ gauged := .ite (.gaugeEnter hr) hr
    exact .weView (.ite (.toStream hg) hg)

theorem Evolves.routeNext (h : Evolves s₀ s) : Evolves s₀ s.routeNext := by
  unfold State.routeNext
  split
  · exact h
  · exact .route1 (.sendRec (.aside h))

theorem Leads.frameRoute (h : Evolves s₀ s) : Leads s₀ (execFrameRoute s) := by
  unfold execFrameRoute; exact .running h (.next (.routeNext h))

theorem Evolves.routeBefore {t} : ∀ {n} {s : State}, Evolves s₀ s → Evolves s₀ (s.routeBefore t n)
  | 0, _, h => h
  | n + 1, s, h => by
    unfold State.routeBefore
    split
    · exact .ite (Evolves.routeBefore (.routeNext h)) h
    · exact h

theorem Leads.gaugeTurnClose (h : Evolves s₀ s) : Leads s₀ (execGaugeTurnClose s) := by
  unfold execGaugeTurnClose; exact .running h (.next (.turnClose (.routeBefore (.ite (.waitAngle h) h))))

theorem Evolves.loadEntry (h : Evolves s₀ s) : Evolves s₀ s.loadEntry := .each h fun _ _ h' => .wr h'

theorem Evolves.weResult {code} (h : Evolves s₀ s) : Evolves s₀ (s.weResult code) := by
  unfold State.weResult; exact .ite (.confWrite (.loadEntry (.weView (.wr (.wr h))))) (.wr h)

theorem Leads.routeEntryCommit {who table index} (h : Evolves s₀ s) :
    Leads s₀ (execRouteEntryCommit who table index s) := by
  unfold execRouteEntryCommit
  exact .asMaster h (.next (.ite (.ite (.weResult (.aside h)) (.weResult (.aside (.aside h)))) (.ite (.weResult
    (.aside h)) (.ite (.weResult (.aside h)) (.weResult (.aside (.sendBundle (.aside h))))))))

theorem Leads.routeEntryClear {who table index} (h : Evolves s₀ s) :
    Leads s₀ (execRouteEntryClear who table index s) := by
  unfold execRouteEntryClear
  exact .asMaster h (.next (.ite (.ite (.weResult (.aside h)) (.weResult (.aside (.aside h)))) (.ite (.weResult
    (.aside h)) (.ite (.weResult (.aside h)) (.weResult (.aside (.sendBundle (.aside h))))))))

theorem Evolves.acfIn {n m} (h : Evolves s₀ s) : Evolves s₀ (s.acfIn n m) := by
  unfold State.acfIn; exact .ite h (.ite (.inc h) (.ite (.inc h) (.join h)))

theorem Evolves.acfAll {n} : ∀ {fuel b} {s : State}, Evolves s₀ s → Evolves s₀ (s.acfAll n fuel b)
  | 0, _, _, h => h
  | _ + 1, _, _, h => .ite h (Evolves.acfAll (.acfIn h))

theorem Leads.ethCanIngress {pdu} (h : Evolves s₀ s) : Leads s₀ (execEthCanIngress pdu s) := by
  unfold execEthCanIngress
  refine .running h (.next (.ite (.aside h) ?_))
  split
  · exact .aside h
  · exact .ite (.weView (.acfAll (.aside (.ite (.inc (.aside h)) (.aside h))))) (.inc (.aside (.ite (.inc (.aside h))
      (.aside h))))

theorem Evolves.weSafety {who g} (h : Evolves s₀ s) (hg : ∀ s, Evolves s₀ s → Evolves s₀ (g s)) :
    Evolves s₀ (s.weSafety who g) := by
  unfold State.weSafety; exact .ite (hg _ h) (.wr h)

theorem Leads.sleepRequest {who n} (h : Evolves s₀ s) : Leads s₀ (execSleepRequest who n s) := by
  unfold execSleepRequest
  exact .asMaster h (.next (.weSafety (.aside h) fun _ h' => .ite (.wr h') (.roundMay (.wr h'))))

theorem Leads.intentSendTimeout {n} (h : Evolves s₀ s) : Leads s₀ (execIntentSendTimeout n s) := by
  unfold execIntentSendTimeout
  exact .running h (.next (.ite (.roundRetry (.roundLists (.wakeFrames (.ite (.each h fun _ _ h' => .each h' fun _ _
    h'' => .revokeHeads (.setLevel h'')) h)))) h))

theorem Leads.voteWindowEnd {n} (h : Evolves s₀ s) : Leads s₀ (execVoteWindowEnd n s) := by
  unfold execVoteWindowEnd
  exact .running h (.next (.ite h (.ite (.ite (.segState (.segXcvr (.aside (.queueSleep (.aside h))))) (.queueSleep
    (.aside h))) (.roundRetry (.inc (.roundLists h))))))

theorem Leads.commitWindowEnd {n} (h : Evolves s₀ s) : Leads s₀ (execCommitWindowEnd n s) := by
  unfold execCommitWindowEnd
  exact .running h (.next (.ite (.segState (.wr (.wr (.roundLists (.segXcvr (.aside h)))))) h))

theorem Leads.commitAbort {n src} (h : Evolves s₀ s) : Leads s₀ (execCommitAbort n src s) := by
  unfold execCommitAbort; exact .running h (.next (.ite (.segAbort h) h))

theorem Leads.sleepRetry {n} (h : Evolves s₀ s) : Leads s₀ (execSleepRetry n s) := by
  unfold execSleepRetry; exact .running h (.next (.ite (.roundMay (.aside h)) h))

theorem Leads.segmentWakeRequest {n} (h : Evolves s₀ s) : Leads s₀ (execSegmentWakeRequest n s) := by
  unfold execSegmentWakeRequest; exact .running h (.next (.segWake (.aside h)))

theorem Leads.segmentAwake {n} (h : Evolves s₀ s) : Leads s₀ (execSegmentAwake n s) := by
  unfold execSegmentAwake; exact .running h (.next (.ite (.wakeFrames (.segState (.wr (.segXcvr h)))) h))

theorem Evolves.wakeSource {src index segs} (h : Evolves s₀ s) : Evolves s₀ (s.wakeSource src index segs) := by
  unfold State.wakeSource
  exact .ite (.each (.aside (.ite h (.aside (.wr (.wr h))))) fun _ _ h' => .wr (.wr h')) (.each h fun _ _ h' =>
    .segWake h')

theorem Leads.wakeUpPattern {k} (h : Evolves s₀ s) : Leads s₀ (execWakeUpPattern k s) :=
  .next (.ite h (.ite (.wakeSource (.wr (.wr h))) (.ite (.segAbort h) h)))

theorem Leads.wakeLinePulse {n} (h : Evolves s₀ s) : Leads s₀ (execWakeLinePulse n s) :=
  .next (.ite h (.wakeSource h))

theorem Leads.transceiverFault {k} (h : Evolves s₀ s) : Leads s₀ (execTransceiverFault k s) := .next (.wr h)

/-! ### Millrace: states, the event table and its dispatch -/

theorem Evolves.mrGo {st} (h : Evolves s₀ s) : Evolves s₀ (s.mrGo st) := by
  unfold State.mrGo; exact .when (.wr (.wr (.aside h))) fun _ h' => .wr h'

theorem Evolves.setRot {oks rev} (h : Evolves s₀ s) : Evolves s₀ (s.setRot oks rev) := by
  unfold State.setRot; exact .ite (.when (.wr h) fun _ h' => .logStamped h') h

theorem Evolves.evtClear {idx} (h : Evolves s₀ s) : Evolves s₀ (s.evtClear idx) := by
  unfold State.evtClear; exact .ite (.complete (.aside h)) h

theorem Evolves.unhold {idx} (h : Evolves s₀ s) : Evolves s₀ (s.unhold idx) := .aside h

theorem Evolves.holdNext {idx} (h : Evolves s₀ s) : Evolves s₀ (s.holdNext idx) := .aside h

theorem Evolves.evtDone {idx e cancel jseq} (h : Evolves s₀ s) : Evolves s₀ (s.evtDone idx e cancel jseq) := by
  unfold State.evtDone
  extract_lets s1 _ s2
  have h1 : Evolves s₀ s1 := .unhold (.evtClear h)
  have h2 : Evolves s₀ s2 := .ite (.complete h1) (.ite (.logStamped (.complete h1)) (.ite (.inc (.holdNext (.aside
    h1))) (.aside h1)))
  exact .ite (.wr (.wr h2)) h2

theorem Evolves.evtAct {e} (h : Evolves s₀ s) : Evolves s₀ (s.evtAct e) := by
  unfold State.evtAct
  dsimp only
  split
  · exact .chanCmd h
  · exact .ioCmd h
  · exact .raiseOf h
  · exact .canRelease h
  · exact .logStamped h

theorem Evolves.dispatch1 {idx} (h : Evolves s₀ s) : Evolves s₀ (s.dispatch1 idx) := by
  unfold State.dispatch1
  extract_lets _ _ _ _ _ _ _ _ _ s1 _ _ _ s2
  have h1 : Evolves s₀ s1 := .unhold (.evtAct (.aside (.when h fun _ h' => .inc h')))
  have h2 : Evolves s₀ s2 := .dispatchMark (.aside h1)
  exact .ite (.evtClear h1) (.ite h2 (.holdNext h2))

theorem Evolves.dispatchDue (h : Evolves s₀ s) : Evolves s₀ s.dispatchDue := by
  unfold State.dispatchDue; exact .ite h (.each (.ite h (.aside h)) fun _ _ h' => .dispatch1 h')

theorem Evolves.evtFirst {idx} (h : Evolves s₀ s) : Evolves s₀ (s.evtFirst idx) := by
  unfold State.evtFirst; exact .ite (.dispatchDue h) h

theorem Evolves.evtCommand {w idx e cancel} (h : Evolves s₀ s) : Evolves s₀ (s.evtCommand w idx e cancel) := by
  unfold State.evtCommand
  exact .ite (.wr (.wr (.evtFirst h))) (.ite (.wr (.decision (.wr (.evtFirst h)))) (.submit (.decision (.wr (.evtFirst
    h))) (fun _ h' => .wr h') fun _ _ h' => .evtDone h'))

theorem Evolves.restorePast {idx e jseq} (h : Evolves s₀ s) : Evolves s₀ (s.restorePast idx e jseq) := by
  unfold State.restorePast
  exact .ite (.complete (.evtAct h)) (.ite (.complete (.inc (.evtAct h))) (.dispatchMark (.aside (.inc (.evtAct h)))))

theorem Evolves.recommit (h : Evolves s₀ s) : Evolves s₀ s.recommit := by
  unfold State.recommit
  refine .each (.each h fun _ _ h' => ?_) fun _ _ h' => .ite (.aside h') (.complete h')
  split
  · exact .ite (.restorePast h') (.complete h')
  · exact h'

theorem Evolves.queueRefs {first} (h : Evolves s₀ s) : Evolves s₀ (s.queueRefs first) :=
  .aside (.each h fun _ _ h' => .aside h')

theorem Evolves.setAssoc {a} (h : Evolves s₀ s) : Evolves s₀ (s.setAssoc a) := .wr (.wr (.wr (.wr (.aside h))))

theorem Evolves.associate (h : Evolves s₀ s) : Evolves s₀ s.associate := by
  unfold State.associate
  exact .ite h (.ite (.logStamped (.setAssoc (.aside (.wr h)))) (.ite (.ite (.setAssoc (.wr h)) (.wr h)) (.ite
    (.setAssoc (.wr h)) (.ite (.setAssoc (.wr h)) (.setAssoc (.wrI (.ite (.wr h) (.logStamped (.wr (.wr h))))))))))

theorem Evolves.takeT {f i v} (h : Evolves s₀ s) : Evolves s₀ (s.takeT f i v) :=
  .wr (.when h fun _ h' => .aside (.wipe h'))

theorem Evolves.applyShadows (h : Evolves s₀ s) : Evolves s₀ s.applyShadows :=
  .each (.aside h) fun _ _ h' => .takeT h'

theorem Evolves.loopBoundary {src comp len} (h : Evolves s₀ s) : Evolves s₀ (s.loopBoundary src comp len) := by
  unfold State.loopBoundary
  extract_lets _ _ _ _ _ s1
  have h1 : Evolves s₀ s1 := .ite (.aside (.mrGo h)) (.ite (.mrGo (.aside h)) h)
  split
  · exact .aside h1
  · exact .ite (.aside (.mrGo h1)) (.aside h1)
  · exact .ite (.wr (.aside h1)) (.aside h1)

theorem Evolves.dieBoundary (h : Evolves s₀ s) : Evolves s₀ s.dieBoundary := .each h fun _ _ h' => .aside h'

theorem Evolves.startTurn {first loop} (h : Evolves s₀ s) (hloop : ∀ s, Evolves s₀ s → Evolves s₀ (loop s)) :
    Evolves s₀ (s.startTurn first loop) := by
  unfold State.startTurn
  extract_lets _ _ t
  have ht : Evolves s₀ t := .applyShadows (.sensorsAge (.dieBoundary h))
  split
  next s1 mapNew e =>
    have h1 : Evolves s₀ s1 := .fst (.mapsInForce ht) e
    extract_lets _ _ _ _ _ _ _ queued
    have hq : Evolves s₀ queued :=
      .queueRefs (.sendRec (.associate (.wr (.aside (hloop _ (.geometryCopy h1))))))
    exact .braidBoundary (.dispatchDue (.ite (.gaugeOpen hq) hq))

theorem Evolves.endTurn {len} (h : Evolves s₀ s) : Evolves s₀ (s.endTurn len) := by
  unfold State.endTurn; exact .ite (.aside h) h

theorem Evolves.nextTurn {t} (h : Evolves s₀ s) : Evolves s₀ (s.nextTurn t) := by
  unfold State.nextTurn
  exact .startTurn (.when (.aside (.wr (.endTurn h))) fun _ h' => .inc h') fun _ h' => .loopBoundary h'

theorem Evolves.slaveTurn {r} (h : Evolves s₀ s) : Evolves s₀ (s.slaveTurn r) :=
  have ht : Evolves s₀ _ := .startTurn (.aside (.wr (.endTurn h))) fun _ h' => .wr (.wr (.wr (.aside h')))
  .ite (.setAssoc ht) ht

theorem Evolves.waitCompensated {f} (h : Evolves s₀ s) : Evolves s₀ (s.waitCompensated f) := .advance h

theorem Evolves.firstLock {st} (h : Evolves s₀ s) : Evolves s₀ (s.firstLock st) :=
  .dispatchDue (.recommit (.startTurn (.mrGo (.aside (.ite (.wr h) h))) fun _ h' => .loopBoundary h'))

theorem Evolves.acquire (h : Evolves s₀ s) : Evolves s₀ s.acquire := by
  unfold State.acquire; exact .ite (.firstLock (.advance (.mrGo (.aside h)))) (.mrGo (.aside h))

theorem Evolves.mrStop (h : Evolves s₀ s) : Evolves s₀ s.mrStop := .gaActive (.mrGo (.aside (.aside h)))

/-! ### Commands and events of Millrace -/

theorem Leads.phaseTimeRead (h : Evolves s₀ s) : Leads s₀ (execPhaseTimeRead s) := by
  unfold execPhaseTimeRead; exact .running h (.next (.aside (.wr (.wr (.wr h)))))

theorem Leads.millraceEnable (h : Evolves s₀ s) : Leads s₀ (execMillraceEnable s) := by
  unfold execMillraceEnable; exact .running h (.next (.ite (.aside h) (.acquire (.confWrite (.wr (.aside h))))))

theorem Leads.millraceDisable (h : Evolves s₀ s) : Leads s₀ (execMillraceDisable s) := by
  unfold execMillraceDisable
  exact .running h (.next (.ite (.aside h) (.ite (.wr (.aside h)) (.mrStop (.confWrite (.wr (.aside h)))))))

theorem Evolves.freqLost (h : Evolves s₀ s) : Evolves s₀ s.freqLost := .mrGo (.wr h)

theorem Evolves.crossAcquire {freq oks rev settled} (h : Evolves s₀ s) :
    Evolves s₀ (s.crossAcquire freq oks rev settled) := by
  unfold State.crossAcquire
  exact .ite (.aside h) (.ite (.aside h) (.firstLock (.waitCompensated (.wr (.setRot h)))))

theorem Evolves.crossLocked {freq} (h : Evolves s₀ s) : Evolves s₀ (s.crossLocked freq) := by
  unfold State.crossLocked
  exact .ite (.ite (.aside (.wrI h)) (.mrGo (.wr (.aside (.wrI h))))) (.ite (.wr (.aside (.wrI h))) (.wrI h))

theorem Evolves.crossHoldover {freq oks rev} (h : Evolves s₀ s) : Evolves s₀ (s.crossHoldover freq oks rev) := by
  unfold State.crossHoldover
  exact .ite h (.ite (.aside h) (.ite (.aside h) (.mrGo (.aside (.wrI (.wr (.setRot h)))))))

theorem Evolves.crossRelock {freq} (h : Evolves s₀ s) : Evolves s₀ (s.crossRelock freq) := by
  unfold State.crossRelock; exact .ite (.mrGo (.wrI (.wr (.aside h)))) (.wrI (.wr (.aside h)))

theorem Leads.zeroCrossing {dt freq oks rev settled} (h : Evolves s₀ s) :
    Leads s₀ (execZeroCrossing dt freq oks rev settled s) := by
  unfold execZeroCrossing
  extract_lets t
  have ht : Evolves s₀ t := .wr (.advance h)
  exact .running h (.next (.ite ht (.ite (.ite (.wr ht) ht) (.ite (.crossAcquire ht) (.ite (.crossHoldover ht) (.ite
    (.freqLost ht) (.ite (.crossLocked ht) (.crossRelock ht))))))))

theorem Leads.senseLost {oks range} (h : Evolves s₀ s) : Leads s₀ (execSenseLost oks range s) := by
  unfold execSenseLost
  exact .running h (.next (.ite (.wr h) (.ite (.wr h) (.ite (.when (.aside (.wr h)) fun _ h' => .wr h') (.ite
    (.freqLost (.wr h)) (.mrGo (.wr (.wr h))))))))

theorem Leads.associationAccept (h : Evolves s₀ s) : Leads s₀ (execAssociationAccept s) := by
  unfold execAssociationAccept; exact .running h (.next (.ite (.aside (.wr (.aside h))) (.aside h)))

theorem Leads.referenceFrameWithdraw (h : Evolves s₀ s) : Leads s₀ (execReferenceFrameWithdraw s) := by
  unfold execReferenceFrameWithdraw
  exact .running h (.next (.each (.ite (.waitAngle h) h) fun _ _ h' => .ite (.wr (.aside h')) h'))

theorem Leads.eventCommit {who index} (h : Evolves s₀ s) : Leads s₀ (execEventCommit who index s) := by
  unfold execEventCommit; exact .asMaster h (.next (.evtCommand (.aside h)))

theorem Leads.eventCancel {who index} (h : Evolves s₀ s) : Leads s₀ (execEventCancel who index s) := by
  unfold execEventCancel; exact .asMaster h (.next (.evtCommand (.aside h)))

theorem Leads.eventDispatch (h : Evolves s₀ s) : Leads s₀ (execEventDispatch s) := by
  unfold execEventDispatch
  refine .running h (.next (.ite h (.ite (.dispatchDue h) (.ite (.dispatchDue (.advance h)) ?_))))
  dsimp only
  split
  · exact h
  · exact .dispatchDue (.waitAngle h)

/-! ### The choice of a bank -/

theorem Evolves.updView (h : Evolves s₀ s) : Evolves s₀ s.updView :=
  .each (.wr (.wr (.wr (.wr (.wr (.wr (.wr (.wr (.wr (.wr h)))))))))) fun _ _ h' => .wr (.wr h')

theorem Evolves.bankSelect : ∀ {fuel again} {s : State}, Evolves s₀ s → Evolves s₀ (s.bankSelect again fuel).1
  | 0, _, _, h => h
  | fuel + 1, again, s, h => by
    unfold State.bankSelect
    extract_lets r
    split
    next t b ht =>
    have h' : Evolves s₀ t := by
      have : Evolves s₀ (t, b).1 := ht ▸ .ite_fst (.writeRec h) h
      exact this
    extract_lets r'
    split
    · exact .ite (.markTrial h') h'
    · exact .ite_fst (Evolves.bankSelect (.writeRec h')) (.ite_fst (Evolves.bankSelect (.writeRec h')) h')

/-! ### Field update -/

theorem Evolves.updRecord (h : Evolves s₀ s) : Evolves s₀ s.updRecord := by
  unfold State.updRecord; exact .ite h (.sendFree h)

theorem Evolves.updResult {code refused} (h : Evolves s₀ s) : Evolves s₀ (s.updResult code refused) :=
  .updRecord (.when (.wr (.updView h)) fun _ h' => .wr h')

theorem Evolves.updCmd {who unit g} (h : Evolves s₀ s) (hg : ∀ s, Evolves s₀ s → Evolves s₀ (g s)) :
    Evolves s₀ (s.updCmd who unit g) := by
  unfold State.updCmd; exact .ite (.wr h) (.ite (.updResult h) (.ite (hg _ h) h))

theorem Evolves.copyStart {m} (h : Evolves s₀ s) : Evolves s₀ (s.copyStart m) :=
  .putBit (.wr (.wr (.aside (.wipe (.writeRec h)))))

theorem Evolves.copyLive (h : Evolves s₀ s) : Evolves s₀ s.copyLive := by
  unfold State.copyLive
  split
  · exact h
  · exact .ite (.aside h) (.wr (.wr (.aside h)))

theorem Evolves.program {bank} : ∀ {l n} {s : State}, Evolves s₀ s → Evolves s₀ (s.program bank n l)
  | [], _, _, h => by
    unfold State.program
    exact h
  | _ :: _, _, _, h => by
    unfold State.program
    exact Evolves.program (.setBytes h)

theorem Evolves.copyTorn {code} (h : Evolves s₀ s) : Evolves s₀ (s.copyTorn code) := by
  unfold State.copyTorn
  split
  · exact h
  · exact .updResult (.putBit (.wr (.aside (.wr (.program (.aside h))))))

theorem Evolves.copyFinish (h : Evolves s₀ s) : Evolves s₀ s.copyFinish := by
  unfold State.copyFinish
  split
  · exact h
  · exact .updResult (.putBit (.wr (.aside (.writeRec (.wr (.setBytes (.program h)))))))

theorem Leads.updateCopy {who unit} (h : Evolves s₀ s) : Leads s₀ (execUpdateCopy who unit s) := by
  unfold execUpdateCopy
  refine .asMaster h (.next (.updCmd (.aside h) fun _ h' => ?_))
  split
  · exact .updResult (.copyStart h')
  · exact .updResult h'

theorem Leads.copyDone {code} (h : Evolves s₀ s) : Leads s₀ (execCopyDone code s) := by
  unfold execCopyDone; exact .running h (.next (.ite (.copyFinish h) (.copyTorn h)))

theorem Leads.updateAbort {who unit} (h : Evolves s₀ s) : Leads s₀ (execUpdateAbort who unit s) := by
  unfold execUpdateAbort
  exact .asMaster h (.next (.updCmd (.aside h) fun _ h' => .ite (.copyTorn h') (.updResult h')))

theorem Evolves.activateRec (h : Evolves s₀ s) : Evolves s₀ s.activateRec := .writeRec h

theorem Evolves.activate {reset} (h : Evolves s₀ s) : Evolves s₀ (s.activate reset) := by
  unfold State.activate
  split
  · exact .ite (.aside (.updResult (.activateRec h))) (.updResult (.activateRec h))
  · exact .updResult h

theorem Leads.updateActivate {who unit} (h : Evolves s₀ s) : Leads s₀ (execUpdateActivate who unit s) := by
  unfold execUpdateActivate; exact .asMaster h (.next (.updCmd (.aside h) fun _ h' => .activate h'))

theorem Leads.updateActivateReset {who unit} (h : Evolves s₀ s) : Leads s₀ (execUpdateActivateReset who unit s) := by
  unfold execUpdateActivateReset; exact .asMaster h (.next (.updCmd (.aside h) fun _ h' => .activate h'))

theorem Leads.updateConfirm {who unit} (h : Evolves s₀ s) : Leads s₀ (execUpdateConfirm who unit s) := by
  unfold execUpdateConfirm
  exact .asMaster h (.next (.updCmd (.aside h) fun _ h' => .ite (.updResult h') (.updResult (.aside (.wr (.writeRec
    h'))))))

theorem Leads.confirmTimeout (h : Evolves s₀ s) : Leads s₀ (execConfirmTimeout s) := by
  unfold execConfirmTimeout; exact .running h (.next (.ite (.aside h) h))

theorem Leads.cardRemoved (h : Evolves s₀ s) : Leads s₀ (execCardRemoved s) :=
  .next (.updRecord (.wr (.aside (.copyTorn h))))

theorem Evolves.rescueTry (h : Evolves s₀ s) : Evolves s₀ s.rescueTry := by
  unfold State.rescueTry
  dsimp only
  split
  · exact .aside (.updView (.activateRec (.copyFinish (.copyStart (.aside h)))))
  · exact .aside h

theorem Leads.cardInserted {card} (h : Evolves s₀ s) : Leads s₀ (execCardInserted card s) :=
  .next (.ite (.rescueTry (.wr (.aside h))) (.updRecord (.wr (.aside h))))

/-! ### Headwater -/

theorem Evolves.eddySend {e r w} (h : Evolves s₀ s) : Evolves s₀ (s.eddySend e r w) := by
  unfold State.eddySend; exact .ite (.wr h) (.eddyView (.aside h))

theorem Evolves.eddyRing {e r} (h : Evolves s₀ s) : Evolves s₀ (s.eddyRing e r) := by
  unfold State.eddyRing; exact .ite h (.wr (.aside h))

theorem Evolves.callSend {h m} (hs : Evolves s₀ s) : Evolves s₀ (s.callSend h m) := by
  unfold State.callSend; exact .ite (.aside hs) (.eddyRing (.eddySend (.aside hs)))

theorem Evolves.eddyTake {e r n} (h : Evolves s₀ s) : Evolves s₀ (s.eddyTake e r n) := by
  unfold State.eddyTake
  extract_lets _ _ _ taken told
  have ht : Evolves s₀ taken := .eddyView (.aside h)
  have hd : Evolves s₀ told := .ite (.when (.wr ht) fun _ h' => .eddyIrq h') ht
  exact .ite (.callSend hd) hd

theorem Evolves.callReturn {h status value} (hs : Evolves s₀ s) : Evolves s₀ (s.callReturn h status value) :=
  .aside hs

theorem Evolves.callTrap {h service a0 a1 a2} (hs : Evolves s₀ s) : Evolves s₀ (s.callTrap h service a0 a1 a2) :=
  .aside hs

theorem Evolves.answerCall {c status value} (h : Evolves s₀ s) : Evolves s₀ (s.answerCall c status value) :=
  .aside (.when (.ite (.wr (.eddyTake (.eddyRing (.eddySend (.aside (.eddyTake h)))))) (.eddyRing (.eddySend (.aside
    (.eddyTake h))))) fun _ h' => .callReturn h')

theorem Evolves.serve {n key g} (h : Evolves s₀ s) (hg : ∀ s x, Evolves s₀ s → Evolves s₀ (g s x).1) :
    Evolves s₀ (s.serve n key g) := by
  unfold State.serve
  dsimp only
  split
  · exact .aside h
  · exact .ite (.aside h) (.ite (.answerCall (.aside h)) (.answerCall (hg _ _ (.aside h))))

theorem Evolves.placeKey {n key a} (h : Evolves s₀ s) : Evolves s₀ (s.placeKey n key a).1 := .storeKey h

theorem Leads.monitorCall {h part service a0 a1 a2 permitted} (hs : Evolves s₀ s) :
    Leads s₀ (execMonitorCall h part service a0 a1 a2 permitted s) := by
  unfold execMonitorCall
  exact .running hs (.next (.ite (.aside hs) (.ite (.aside (.callReturn (.callTrap (.aside hs)))) (.callSend (.aside
    (.callTrap (.aside hs)))))))

theorem Leads.monitorCallTimeout {h} (hs : Evolves s₀ s) : Leads s₀ (execMonitorCallTimeout h s) := by
  unfold execMonitorCallTimeout; exact .running hs (.next (.ite hs (.aside (.callReturn (.aside hs)))))

theorem Leads.scret {h} (hs : Evolves s₀ s) : Leads s₀ (execScret h s) := by
  unfold execScret; exact .running hs (.next (.aside (.aside hs)))

theorem Leads.random (h : Evolves s₀ s) : Leads s₀ (execRandom s) := by
  unfold execRandom; exact .running h (.next (.serve h fun _ _ h' => .ite_fst h' (.aside h')))

theorem Leads.keyDerive (h : Evolves s₀ s) : Leads s₀ (execKeyDerive s) := by
  unfold execKeyDerive
  refine .running h (.next (.serve h fun _ _ h' => .ite_fst h' ?_))
  split
  · exact h'
  · refine .ite_fst h' (.ite_fst h' (.ite_fst h' ?_))
    split
    · exact h'
    · exact .placeKey h'

theorem Leads.keyDestroy (h : Evolves s₀ s) : Leads s₀ (execKeyDestroy s) := by
  unfold execKeyDestroy
  refine .running h (.next (.serve h fun _ _ h' => .ite_fst h' ?_))
  split
  · exact h'
  · exact .revoke h'

theorem Leads.keyInfo (h : Evolves s₀ s) : Leads s₀ (execKeyInfo s) := by
  unfold execKeyInfo
  refine .running h (.next (.serve h fun _ _ h' => ?_))
  split <;> exact h'

theorem Leads.keyExport (h : Evolves s₀ s) : Leads s₀ (execKeyExport s) := by
  unfold execKeyExport
  refine .running h (.next (.serve h fun _ _ h' => ?_))
  split
  · exact h'
  · exact h'
  · exact .ite_fst h' (.ite_fst h' (.setBytes h'))

theorem Evolves.importFailed (h : Evolves s₀ s) : Evolves s₀ s.importFailed := by
  unfold State.importFailed
  split
  · exact .when h fun _ h' => .revoke h'
  · exact h

theorem Leads.keyImport (h : Evolves s₀ s) : Leads s₀ (execKeyImport s) := by
  unfold execKeyImport
  refine .running h (.next (.serve h fun _ _ h' => .ite_fst h' ?_))
  split
  · exact h'
  · refine .ite_fst h' (.ite_fst h' ?_)
    split
    · exact .importFailed h'
    · refine .ite_fst (.importFailed h') ?_
      split
      · exact h'
      · exact .placeKey h'

theorem Leads.keyPublic (h : Evolves s₀ s) : Leads s₀ (execKeyPublic s) := by
  unfold execKeyPublic
  refine .running h (.next (.serve h fun _ _ h' => ?_))
  split
  · exact h'
  · exact .ite_fst h' (.setBytes h')

theorem Leads.measureRead (h : Evolves s₀ s) : Leads s₀ (execMeasureRead s) := by
  unfold execMeasureRead
  exact .running h (.next (.serve h fun _ _ h' => .ite_fst h' (.ite_fst h' (.setBytes h'))))

theorem Leads.debugChallenge {cls} (h : Evolves s₀ s) : Leads s₀ (execDebugChallenge cls s) := by
  unfold execDebugChallenge
  exact .running h (.next (.ite (.aside h) (.ite (.aside h) (.aside (.aside (.aside h))))))

theorem Evolves.setDbg {v} (h : Evolves s₀ s) : Evolves s₀ (s.setDbg v) := .wr (.wr (.wr (.wr (.wr (.wr h)))))

theorem Leads.debugToken {cls token} (h : Evolves s₀ s) : Leads s₀ (execDebugToken cls token s) := by
  unfold execDebugToken
  exact .running h (.next (.ite (.aside h) (.ite (.aside h) (.ite (.aside (.logStamped h)) (.aside (.setDbg (.aside
    h)))))))

theorem Evolves.deriveRoots (h : Evolves s₀ s) : Evolves s₀ s.deriveRoots :=
  .storeKey (.storeKey (.storeKey (.storeKey h)))

theorem Evolves.settleLive (h : Evolves s₀ s) : Evolves s₀ s.settleLive := by
  unfold State.settleLive; exact .ite h (.wr (.aside h))

theorem Evolves.regenerate {blocked} (h : Evolves s₀ s) : Evolves s₀ (s.regenerate blocked) := by
  unfold State.regenerate
  exact .ite (.wr (.wr (.aside (.settleLive h)))) (.deriveRoots (.wr (.wr (.aside (.settleLive h)))))

theorem Evolves.headRestart {cause} (h : Evolves s₀ s) : Evolves s₀ (s.headRestart cause) := by
  unfold State.headRestart
  extract_lets _ _ _ _ _ _ t
  have ht : Evolves s₀ t := .logStamped (.inc (.aside (.each (.each (.abortKeys h) fun _ _ h' => .liftSlot h') fun _ _
    h' => .ite (.answerCall h') h')))
  exact .aside (.remaskRound (.releaseLocks (.wr (.regenerate (.ite ht (.logStamped (.wr ht)))))))

theorem Leads.headwaterRestart {who} (h : Evolves s₀ s) : Leads s₀ (execHeadwaterRestart who s) := by
  unfold execHeadwaterRestart
  refine .asMaster h (.next ?_)
  split
  · exact .aside (.wr h)
  · exact .ite (.headRestart h) (.aside (.wr h))
  · exact .headRestart h

theorem Leads.headwaterWatchdogExpire (h : Evolves s₀ s) : Leads s₀ (execHeadwaterWatchdogExpire s) := by
  unfold execHeadwaterWatchdogExpire; exact .running h (.next (.headRestart h))

theorem Leads.remaskRound (h : Evolves s₀ s) : Leads s₀ (execRemaskRound s) := by
  unfold execRemaskRound; exact .running h (.next (.remaskRound h))

theorem Leads.trngHealthFail (h : Evolves s₀ s) : Leads s₀ (execTrngHealthFail s) := by
  unfold execTrngHealthFail; exact .running h (.next (.wr h))

theorem Leads.trngHealthRecover (h : Evolves s₀ s) : Leads s₀ (execTrngHealthRecover s) := by
  unfold execTrngHealthRecover; exact .running h (.next (.wr h))

theorem Evolves.clearKeys {zero} (h : Evolves s₀ s) : Evolves s₀ (s.clearKeys zero) :=
  .wr (.each h fun _ _ h' => .ite (.clearSlot h') (.aside h'))

theorem Evolves.burnFuse (h : Evolves s₀ s) : Evolves s₀ s.burnFuse := .aside h

theorem Evolves.tamperAct {src cls stamp} (h : Evolves s₀ s) : Evolves s₀ (s.tamperAct src cls stamp) := by
  unfold State.tamperAct
  extract_lets _ s1 s2
  have h1 : Evolves s₀ s1 := .remaskRound (.abortKeys (.raise (.raise (.logStamped h))))
  have h2 : Evolves s₀ s2 := .ite (.clearKeys h1) h1
  exact .ite (.when (.burnFuse h2) fun _ h' => .wr h') h2

theorem Leads.tamperRaise {src still} (h : Evolves s₀ s) : Leads s₀ (execTamperRaise src still s) :=
  .next (.ite h (.ite (.aside (.inc (.putBit (.putBit h)))) (.tamperAct (.inc (.putBit (.putBit h))))))

theorem Leads.zeroiseClear {cls} (h : Evolves s₀ s) : Leads s₀ (execZeroiseClear cls s) := by
  unfold execZeroiseClear; exact .running h (.next (.ite (.aside h) (.aside (.burnFuse h))))

theorem Leads.attestationNonce {nonce} (h : Evolves s₀ s) : Leads s₀ (execAttestationNonce nonce s) := by
  unfold execAttestationNonce; exact .running h (.next (.ite (.aside h) (.aside (.aside h))))

theorem Leads.attestationQuoteReady (h : Evolves s₀ s) : Leads s₀ (execAttestationQuoteReady s) := by
  unfold execAttestationQuoteReady
  refine .running h (.next ?_)
  split
  · exact h
  · exact .ite (.aside h) (.aside h)

theorem Leads.lostBlock {b} (h : Evolves s₀ s) : Leads s₀ (execLostBlock b s) := by
  unfold execLostBlock
  extract_lets _ _ _ s1 s2 s3
  have h1 : Evolves s₀ s1 := by
    refine .each (.wr h) fun _ _ h' => ?_
    split
    · exact .ite (.aside h') h'
    · exact h'
  have h2 : Evolves s₀ s2 := .remaskRound h1
  have h3 : Evolves s₀ s3 := .ite (.wr (.each h2 fun _ _ h' => .clearSlot h')) h2
  exact .running h (.next (.ite h (.putBit (.ite (.copyTorn h3) h3))))

theorem Evolves.waChange {r i w} (h : Evolves s₀ s) : Evolves s₀ (s.waChange r i w) :=
  .each (.wr h) fun _ _ h' => .logStamped (.evtClear h')

theorem Leads.worldAssign {who r v} (h : Evolves s₀ s) : Leads s₀ (execWorldAssign who r v s) := by
  unfold execWorldAssign
  exact .asMaster h (.next (.ite (.aside h) (.ite (.wr (.aside h)) (.ite (.logStamped (.wr (.aside h))) (.each
    (.confWrite (.aside h)) fun _ _ h' => .ite (.wr h') (.waChange h'))))))

/-! ### Braid commands -/

theorem Evolves.brWrite {who g} (h : Evolves s₀ s) (hg : ∀ s, Evolves s₀ s → Evolves s₀ (g s)) :
    Evolves s₀ (s.brWrite who g) := by
  unfold State.brWrite; exact .ite (hg _ (.aside h)) (.wr (.aside h))

theorem Leads.keepalive {who} (h : Evolves s₀ s) : Leads s₀ (execKeepalive who s) := by
  unfold execKeepalive; exact .asMaster h (.next (.brWrite h fun _ h' => .aside h'))

theorem Leads.keepaliveExpire (h : Evolves s₀ s) : Leads s₀ (execKeepaliveExpire s) := by
  unfold execKeepaliveExpire; exact .running h (.next (.ite h (.ite (.brGo (.dropLatch (.aside h))) (.aside h))))

theorem Evolves.brRelease (h : Evolves s₀ s) : Evolves s₀ s.brRelease := by
  unfold State.brRelease; exact .ite (.yieldClaim h) h

theorem Leads.claimRelease {who} (h : Evolves s₀ s) : Leads s₀ (execClaimRelease who s) := by
  unfold execClaimRelease; exact .asMaster h (.next (.brWrite h fun _ h' => .brRelease h'))

theorem Evolves.brSwap (h : Evolves s₀ s) : Evolves s₀ s.brSwap := by
  unfold State.brSwap; exact .ite (.aside h) (.wr h)

theorem Leads.plannedSwap {who} (h : Evolves s₀ s) : Leads s₀ (execPlannedSwap who s) := by
  unfold execPlannedSwap; exact .asMaster h (.next (.brWrite h fun _ h' => .brSwap h'))

theorem Evolves.brAdopt (h : Evolves s₀ s) : Evolves s₀ s.brAdopt := by
  unfold State.brAdopt; exact .ite (.setLatch (.waitFree h)) (.wr h)

theorem Leads.adopt {who} (h : Evolves s₀ s) : Leads s₀ (execAdopt who s) := by
  unfold execAdopt; exact .asMaster h (.next (.brWrite h fun _ h' => .brAdopt h'))

theorem Evolves.brSync (h : Evolves s₀ s) : Evolves s₀ s.brSync := by
  unfold State.brSync; exact .ite (.brGo h) (.wr h)

theorem Leads.resyncStart {who} (h : Evolves s₀ s) : Leads s₀ (execResyncStart who s) := by
  unfold execResyncStart; exact .asMaster h (.next (.ite (.ite (.brGo h) h) (.brWrite h fun _ h' => .brSync h')))

theorem Evolves.regionReady {w} (h : Evolves s₀ s) : Evolves s₀ (s.regionReady w) := by
  unfold State.regionReady; exact .ite h (.ite (.denied h) (.wr (.sendRec h)))

theorem Leads.stateRegionReady {who w} (h : Evolves s₀ s) : Leads s₀ (execStateRegionReady who w s) := by
  unfold execStateRegionReady; exact .asMaster h (.next (.brWrite h fun _ h' => .regionReady h'))

theorem Evolves.setMode {m} (h : Evolves s₀ s) : Evolves s₀ (s.setMode m) := by
  unfold State.setMode
  extract_lets t
  have ht : Evolves s₀ t := .macInUse (.wr (.wr h))
  exact .ite h (.ite (.ite (.when (.brGo (.aside ht)) fun _ h' => .startFence h') (.aside (.aside ht))) (.ite (.brGo
    ht) (.ite (.aside ht) (.setLatch (.waitFree (.aside ht))))))

/-! ### Refusals on the register side -/

theorem Evolves.refuse {r} (h : Evolves s₀ s) : Evolves s₀ (s.refuse r) := by
  unfold State.refuse
  cases r.b
  case chan => exact .ite (.wr (.wr (.wr h))) (.wr h)
  case sysctl => exact .ite (.wr h) (.ite (.wr h) (.ite (.wr h) h))
  case xcvr | ferry | eddy | lkregs => exact h
  all_goals exact .wr h

/-! ### The object dictionary as it reads -/

theorem Evolves.live (h : Evolves s₀ s) : Evolves s₀ s.live :=
  .wr (.wr (.wr (.wr (.wr (.wr (.wr (.wr (.wr (.wr (.wr (.wr (.copyLive (.settleLive h)))))))))))))

theorem Evolves.formConfsum (h : Evolves s₀ s) : Evolves s₀ s.formConfsum := .wr h

/-! ### Resets and the start sequence -/

theorem Evolves.via {f} (h : Evolves s₀ s) (hf : ∀ s, Evolves s₀ s → Leads s₀ (f s)) : Evolves s₀ (s.via f) := by
  unfold State.via
  split
  next t ht => exact hf s h t ht
  · exact h

theorem Evolves.writeControl (h : Evolves s₀ s) : Evolves s₀ s.writeControl := .aside (.mramStore h)

theorem Evolves.journalRead (h : Evolves s₀ s) : Evolves s₀ s.journalRead := by
  unfold State.journalRead
  dsimp only
  split
  · exact .wr (.wr h)
  · exact .aside (.wr (.wr h))

theorem Evolves.restarted {fields keep} (h : Evolves s₀ s) : Evolves s₀ (s.restarted fields keep) :=
  (h.clearFields fields.contains).filterMem.aside

theorem Evolves.imageConf {w} (h : Evolves s₀ s) : Evolves s₀ (s.imageConf w) :=
  .wr (.when (.setDbg (.wr (.wr (.wr (.each (.each (.aside h) fun _ _ h' => .when h' fun _ h'' => .wr h'') fun _ _ h'
    => .wr (.wr (.wr (.wr (.wr (.wr h')))))))))) fun _ h' => .wr h')

theorem Evolves.measured {b} (h : Evolves s₀ s) : Evolves s₀ (s.measured b) :=
  .each (.setBytes (.aside h)) fun _ _ h' => .wr h'

theorem Evolves.imagesLoaded {b m} (h : Evolves s₀ s) : Evolves s₀ (s.imagesLoaded b m) := .setBytes (.setBytes h)

theorem Evolves.copyAgain (h : Evolves s₀ s) : Evolves s₀ s.copyAgain := by
  unfold State.copyAgain
  split
  · exact .when h fun _ h' => .wr h'
  · exact .ite (.copyStart (.aside h)) (.wr (.aside h))

theorem Evolves.linksUp (h : Evolves s₀ s) : Evolves s₀ s.linksUp :=
  .each h fun _ _ h' => .putBit (.putBit (.wr (.aside h')))

theorem Evolves.trimBar {g} (h : Evolves s₀ s) : Evolves s₀ (s.trimBar g) := by
  unfold State.trimBar; exact .ite (.aside (.resetDie (.aside h))) h

theorem Evolves.startUp {cause blocked} (h : Evolves s₀ s) : Evolves s₀ (s.startUp cause blocked) := by
  unfold State.startUp
  extract_lets _ _ _ _ _ _ _ _ keyless
  have hk : Evolves s₀ keyless := .wr (.jView (.regenerate (.wr (.wr (.wr (.wr (.wr (.wr (.wr (.wr (.wr (.journalRead
    (.wr h)))))))))))))
  refine .ite (.wr h) ?_
  split
  next s1 bank again e =>
    have h1 : Evolves s₀ s1 := .fst (.bankSelect hk) e
    extract_lets s2
    have h2 : Evolves s₀ s2 := .ite (.wr h1) h1
    split
    · exact .rescueTry (.wr (.updView h2))
    · extract_lets _ _ _ _ loaded _ _ _ _ trimmed
      have hl : Evolves s₀ loaded := .wr (.setBytes (.imagesLoaded (.imageConf (.wr (.measured (.updView h2))))))
      have ht : Evolves s₀ trimmed := .aside (.ite (.aside hl) hl)
      exact .linksUp (.copyAgain (.wr (.ite (.each ht fun _ _ h' => .trimBar h') ht)))

theorem Evolves.diesAnew (h : Evolves s₀ s) : Evolves s₀ s.diesAnew :=
  .each h fun _ _ h' => .ite (.via (.via h' fun _ h'' => .dieReset h'') fun _ h'' => .dieStart h'') (.via h' fun _ h''
    => .dieReset h'')

theorem Evolves.copyCut (h : Evolves s₀ s) : Evolves s₀ s.copyCut := .aside (.copyTorn h)

theorem Evolves.coldStart {cause} (h : Evolves s₀ s) : Evolves s₀ (s.coldStart cause) :=
  .startUp (.diesAnew (.wr (.restarted (.copyCut h))))

/-! ### Entry into Standby and Sleep, and wake -/

theorem Leads.powerOnReset (h : Evolves s₀ s) : Leads s₀ (execPowerOnReset s) :=
  .next (.coldStart (.aside (.aside h)))

theorem Leads.fullReset {who} (h : Evolves s₀ s) : Leads s₀ (execFullReset who s) := by
  unfold execFullReset
  exact .asMaster h (.next (.ite (.ite (.aside h) (.coldStart (.aside h))) (.ite (.wr (.aside h)) (.coldStart (.aside
    h)))))

theorem Leads.bothPairsFrozen (h : Evolves s₀ s) : Leads s₀ (execBothPairsFrozen s) := by
  unfold execBothPairsFrozen; exact .running h (.next (.ite (.coldStart h) h))

theorem Leads.logicSupplyLoss (h : Evolves s₀ s) : Leads s₀ (execLogicSupplyLoss s) :=
  .next (.aside (.aside (.restarted (.dropLatch (.copyCut h)))))

theorem Leads.logicInputChange {main alt} (h : Evolves s₀ s) : Leads s₀ (execLogicInputChange main alt s) :=
  .next (.aside h)

theorem Evolves.domainsOff (h : Evolves s₀ s) : Evolves s₀ s.domainsOff :=
  .each (h.clearFields (fun f => !((rows_can ++ rows_confluence ++ rows_delta ++ rows_deltaFn ++ rows_deltaQ).flatMap
    (·.fields)).contains f)).aside fun _ _ h' => .wipe (.wipe h')

theorem Evolves.braidOff (h : Evolves s₀ s) : Evolves s₀ s.braidOff := by
  unfold State.braidOff; exact .ite (.aside (.wr (.wr (.dropLatch h)))) h

theorem Evolves.saveLog (h : Evolves s₀ s) : Evolves s₀ s.saveLog := h.emmcBytes.emmcBlocks.emmcBytes

theorem Evolves.enter {t} (h : Evolves s₀ s) : Evolves s₀ (s.enter t) := by
  unfold State.enter
  extract_lets s1 _ _ _ _ _ _ s2
  have h1 : Evolves s₀ s1 := .formConfsum (.writeControl h)
  have h2 : Evolves s₀ s2 := .domainsOff (.aside (.mrStop (.braidOff (.ite (.saveLog (.aside h1)) (.aside h1)))))
  exact .wr (.wr (.ite (.each h2 fun _ _ h' => .setXcvr h') (.wr (.each h2 fun _ _ h' => .setXcvr h'))))

theorem Evolves.useWaited {req world deadline} (h : Evolves s₀ s) : Evolves s₀ (s.useWaited req world deadline) := by
  unfold State.useWaited
  dsimp only
  split
  · exact .powerAccept (.aside h)
  · exact .ite h (.logSecure (.powerRefuse (.aside h)))
  · exact .powerRefuse (.aside h)

theorem Leads.powerEntryContinue (h : Evolves s₀ s) : Leads s₀ (execPowerEntryContinue s) := by
  unfold execPowerEntryContinue
  refine .running h (.next ?_)
  split
  · exact .useWaited h
  · refine .ite h ?_
    split
    · exact .enter h
    · exact .entryEnd h

theorem Evolves.heldEvents {l more} (h : Evolves s₀ s) : Evolves s₀ (s.heldEvents l more) := by
  unfold State.heldEvents
  exact .ite (.each h fun _ _ h' => .logStamped h') (.logStamped (.aside (.each h fun _ _ h' => .logStamped h')))

theorem Evolves.latchedAct {l} (h : Evolves s₀ s) : Evolves s₀ (s.latchedAct l) := .each h fun _ _ h' => .tamperAct h'

theorem Evolves.wake {cause keep elog} (h : Evolves s₀ s) : Evolves s₀ (s.wake cause keep elog) :=
  have hs : Evolves s₀ _ := .startUp (.latchedAct (.heldEvents (.wr (.wr (.aside (.aside (.restarted h)))))))
  .ite (.coldStart hs) hs

theorem Leads.wakeFromStandby (h : Evolves s₀ s) : Leads s₀ (execWakeFromStandby s) := .next (.ite (.wake h) h)

theorem Leads.wakeFromSleep (h : Evolves s₀ s) : Leads s₀ (execWakeFromSleep s) := .next (.ite (.wake h) h)

theorem Evolves.wakeCheck (h : Evolves s₀ s) : Evolves s₀ s.wakeCheck := by
  unfold State.wakeCheck
  split
  · exact .ite (.wr (.wr (.formConfsum h))) (.aside (.wr (.formConfsum h)))
  · exact h

theorem Leads.wakeCheck {who} (h : Evolves s₀ s) : Leads s₀ (execWakeCheck who s) := by
  unfold execWakeCheck; exact .asMaster h (.next (.ite (.wr (.aside h)) (.wakeCheck (.aside h))))

theorem Leads.wakeCheckTimeout (h : Evolves s₀ s) : Leads s₀ (execWakeCheckTimeout s) := by
  unfold execWakeCheckTimeout; exact .running h (.next (.ite (.coldStart h) h))

theorem Evolves.pinEvent {evt level} (h : Evolves s₀ s) : Evolves s₀ (s.pinEvent evt level) := by
  unfold State.pinEvent; exact .ite h (.ite (.ite (.aside h) (.aside h)) (.logStamped h))

theorem Leads.serviceKeyChange {level} (h : Evolves s₀ s) : Leads s₀ (execServiceKeyChange level s) :=
  .next (.ite h (.pinEvent (.aside h)))

theorem Leads.braidIdChange {level} (h : Evolves s₀ s) : Leads s₀ (execBraidIdChange level s) :=
  .next (.ite h (.pinEvent (.aside h)))

theorem Leads.claimLineFault (h : Evolves s₀ s) : Leads s₀ (execClaimLineFault s) := by
  unfold execClaimLineFault; exact .running h (.next (.wr h))

/-! ### Register writes -/

theorem Evolves.setLock {n} (h : Evolves s₀ s) : Evolves s₀ (s.setLock n) := by
  unfold State.setLock; exact .ite (.each (.putBit h) fun _ _ h' => .aside h') (.putBit h)

theorem Leads.lockSet {who mask} (h : Evolves s₀ s) : Leads s₀ (execLockSet who mask s) := by
  unfold execLockSet; exact .asMaster h (.next (.each (.aside h) fun _ _ h' => .ite (.setLock h') (.wr h')))

theorem Evolves.confCount {f} (h : Evolves s₀ s) : Evolves s₀ (s.confCount f) := by
  unfold State.confCount
  split
  · exact h
  · exact h
  · exact .ite h (.confWrite h)

theorem Evolves.putPlain {f i v} (h : Evolves s₀ s) : Evolves s₀ (s.putPlain f i v) := by
  unfold State.putPlain; exact .ite (.ite (.aside (.aside h)) (.takeT (.aside h))) (.wr h)

theorem Evolves.putTamper {v} (h : Evolves s₀ s) : Evolves s₀ (s.putTamper v) :=
  .each h fun _ _ h' => .ite (.wr (.wr h')) (.wr h')

theorem Evolves.putRw {who r f v} (h : Evolves s₀ s) : Evolves s₀ (s.putRw who r f v) := by
  unfold State.putRw
  extract_lets i t
  have ht : Evolves s₀ t := .putPlain h
  split
  · exact .ite (.acquire ht) ht
  · refine .via h fun _ h' => ?_
    split
    · exact .millraceEnable h'
    · exact .millraceDisable h'
  · exact .wr ht
  · exact .ite (.aside ht) ht
  · exact .spillView ht
  · exact .spillView ht
  · exact .ioCompare (.ioRefresh (.ite (.aside ht) (.ioSettle ht)))
  · exact .ite (.aside ht) ht
  · exact .ioRerun ht
  · exact .ioRerun ht
  · exact .ioRerun ht
  · exact .ioRerun ht
  · exact .ioRerun ht
  · exact .ioCompare (.ioRefresh ht)
  · refine .via h fun _ h' => ?_
    split
    · exact .canEnable h'
    · exact .canDisable h'
  · exact .canView (.drainDone ht)
  · exact .weView ht
  · exact .xcvrFollow ht
  · exact .ite (.via h fun _ h' => .sleepRequest h') ht
  · exact .confView ht
  · exact .putPlain (.polFill h)
  · exact .putPlain (.polSize h)
  · exact .ptpKeep (.wr (.setPtp h))
  · exact .ptpKeep ht
  · exact .via h fun _ h' => .hostQueueDoorbell h'
  · exact .setMode h
  · exact .putTamper h
  · exact .via h fun _ h' => .lockRelease h'
  · exact .putShare h
  · exact .ite (.via h fun _ h' => .queueEnable h') (.dqView ht)
  · exact .via h fun _ h' => .deltaDoorbell h'
  · exact .dqView ht
  · exact ht

theorem Evolves.putField {who r f v} (h : Evolves s₀ s) : Evolves s₀ (s.putField who r f v) := by
  unfold State.putField
  split
  · exact .confCount (.putRw h)
  · exact .ite (.each (.wr h) fun _ _ h' => .lower h') (.wr h)
  · exact h

theorem Evolves.canCmd {who k v} (h : Evolves s₀ s) : Evolves s₀ (s.canCmd who k v) := .queueCmd h

theorem Evolves.updateCmd {who v} (h : Evolves s₀ s) : Evolves s₀ (s.updateCmd who v) := by
  unfold State.updateCmd
  dsimp only
  split
  · exact .via h fun _ h' => .updateCopy h'
  · exact .via h fun _ h' => .updateActivate h'
  · exact .via h fun _ h' => .updateActivateReset h'
  · exact .via h fun _ h' => .updateConfirm h'
  · exact .via h fun _ h' => .updateAbort h'
  · exact .updCmd h fun _ h' => .updResult h'

theorem Evolves.rowCmd {who r h v} (hs : Evolves s₀ s) : Evolves s₀ (s.rowCmd who r h v) := by
  unfold State.rowCmd
  extract_lets _ _ on restarted
  have hon {n g s} (h : Evolves s₀ s) (hg : ∀ s, Evolves s₀ s → Leads s₀ (g s)) : Evolves s₀ (on n g s) :=
    .ite (.via h hg) h
  have hr : Evolves s₀ restarted := hon hs fun _ h' => .pairRestart h'
  split
  · exact hon hs fun _ h' => .associationAccept h'
  · split
    · exact .via hs fun _ h' => .eventCommit h'
    · exact .via hs fun _ h' => .eventCancel h'
    · exact .refuse hs
  · exact hon hs fun _ h' => .mapCommit h'
  · exact hon hs fun _ h' => .geometryCommit h'
  · exact .ite (.via hs fun _ h' => .reinitAll h') (.via hs fun _ h' => .reinitCell h')
  · exact .chanCmd hs
  · exact hon (hon (hon hs fun _ h' => .protectionClear h') fun _ h' => .spillwayUnlock h') fun _ h' => .thermalLatchClear h'
  · exact .via hs fun _ h' => .watchdogServe h'
  · exact hon hs fun _ h' => .failsafeResume h'
  · exact hon hs fun _ h' => .failsafeCommit h'
  · exact .ioCmd hs
  · exact hon hs fun _ h' => .canRecover h'
  · exact .via hs fun _ h' => .canTxPush h'
  · exact .canCmd hs
  · split
    · exact .via hs fun _ h' => .routeEntryCommit h'
    · exact .via hs fun _ h' => .routeEntryClear h'
    · exact .refuse hs
  · exact .loadEntry hs
  · exact .ite (.weSafety hs fun _ h' => .via h' fun _ h'' => .segmentWakeRequest h'') hs
  · split
    · exact .via hs fun _ h' => .cfTableCommit h'
    · exact .via hs fun _ h' => .cfTableRemove h'
    · exact .refuse hs
  · exact hon hs fun _ h' => .ptpClockSet h'
  · exact .ite hs (.via hs fun _ h' => .ptpClockStep h')
  · exact hon (hon (hon (hon hs fun _ h' => .resyncStart h') fun _ h' => .plannedSwap h') fun _ h' => .claimRelease h')
      fun _ h' => .adopt h'
  · exact .via hs fun _ h' => .keepalive h'
  · exact hon hs fun _ h' => .stateRegionReady h'
  · exact .powerAsk hs
  · exact hon hs fun _ h' => .fullReset h'
  · exact hon hs fun _ h' => .wakeCheck h'
  · exact .ite (.via (.aside hr) fun _ h' => .pairSelftest h') hr
  · exact hon hs fun _ h' => .headwaterRestart h'
  · exact .via hs fun _ h' => .lockSet h'
  · exact .ite hs (.via hs fun _ h' => .floodgateSoftwareTrigger h')
  · exact .ite hs (.wr hs)
  · exact .via hs fun _ h' => .eddyPush h'
  · exact hon hs fun _ h' => .eddyDoorbell h'
  · exact hon hs fun _ h' => .eddyPop h'
  · exact .via hs fun _ h' => .functionReset h'
  · exact .updateCmd hs
  · exact hs

theorem Evolves.genCount {old r} (h : Evolves s₀ s) : Evolves s₀ (s.genCount old r) := by
  unfold State.genCount; exact .ite (.confView (.wr h)) h

/-! ### The interconnect and debug -/

theorem Evolves.canStore {k w a v} (h : Evolves s₀ s) : Evolves s₀ (s.canStore k w a v) := by
  unfold State.canStore; exact .ite (.wr h) (.ite h (.setWord h))

theorem Evolves.writeReg {who a r v} (h : Evolves s₀ s) : Evolves s₀ (s.writeReg who a r v) := by
  unfold State.writeReg
  extract_lets _ _ written
  have ha {n w} : Evolves s₀ (s.via (execWorldAssign who n w)) := .via h fun _ h' => .worldAssign h'
  have hw : Evolves s₀ written := .each h fun _ _ h' => by
    split
    · exact .putField h'
    · exact h'
    · exact .logStamped (.refuse h')
    · exact .refuse h'
  refine .ite ha (.ite ha (.ite ha (.ite ha (.ite ha ?_))))
  split
  · exact .rowCmd (.genCount hw)
  · exact .genCount hw

theorem Evolves.oneWrite {t} (ht : Evolves s₀ t) : Evolves s₀ (s.oneWrite t) := .aside ht

theorem Leads.registerWrite {who addr value} (h : Evolves s₀ s) : Leads s₀ (execRegisterWrite who addr value s) := by
  unfold execRegisterWrite
  refine .asMaster h (.next (.ite (.aside h) (.ite (.refuseAccess (.aside h)) (.ite (.store (.aside h)) (.ite (.wr
    (.aside h)) (.ite (.setWord (.aside h)) (.ite (.refuseAccess (.aside h)) ?_)))))))
  split
  · split
    · exact .toDie (.aside h) fun _ h' => .oneWrite (.writeReg (.aside h))
    · exact .ite (.sent (.aside h)) (.dieLost (.aside h))
  · split
    · exact .writeReg (.aside h)
    · split
      · exact .canStore (.aside h)
      · exact .aside h

theorem Evolves.readCleared {r arrived} (h : Evolves s₀ s) : Evolves s₀ (s.readCleared r arrived) :=
  .each h fun _ _ h' => .inc (.wr h')

theorem Leads.readClear {who addr arrived} (h : Evolves s₀ s) : Leads s₀ (execReadClear who addr arrived s) := by
  unfold execReadClear
  refine .asMaster h (.next (.ite (.aside h) (.ite (.refuseAccess (.aside h)) (.ite (.aside (.aside h)) (.ite
    (.refuseAccess (.aside h)) (.ite (.aside (.aside h)) ?_))))))
  split
  · exact .aside (.aside h)
  · split
    · exact .via (.aside h) fun _ h' => .phaseTimeRead h'
    · exact .via (.aside h) fun _ h' => .ptpClockRead h'
    · exact .via (.aside h) fun _ h' => .lockAcquire h'
    · exact .aside (.readCleared (.live (.when (.when (.aside h) fun _ h' => .formConfsum h') fun _ h' => .corrected
        h')))

theorem Evolves.breakPair {p} (h : Evolves s₀ s) : Evolves s₀ (s.breakPair p) := by
  unfold State.breakPair; exact .ite h (.pairError (.raise (.raise (.wr (.wr (.wr h))))))

theorem Leads.debugHalt {p} (h : Evolves s₀ s) : Leads s₀ (execDebugHalt p s) := .next (.ite (.breakPair h) h)

theorem Evolves.stepHart {h} (hs : Evolves s₀ s) : Evolves s₀ (s.stepHart h) := .aside (.aside hs)

theorem Leads.tapDebugAccess {op} (h : Evolves s₀ s) : Leads s₀ (execTapDebugAccess op s) := by
  unfold execTapDebugAccess
  refine .next (.ite (.aside h) ?_)
  split
  · exact .aside h
  · exact .when (.aside h) fun _ h' => .aside (.aside h')
  · exact .aside (.aside (.aside h))
  · exact .when (.aside h) fun _ h' => .aside h'
  · exact .when (.aside h) fun _ h' => .aside h'
  · exact .when (.aside h) fun _ h' => .stepHart h'
  · exact .when (.aside h) fun _ h' => .aside h'
  · exact .when (.aside h) fun _ h' => .aside h'
  · exact .via (.aside h) fun _ h' => .debugHalt h'
  · exact .when (.aside h) fun _ h' => .aside h'
  · exact .when (.aside h) fun _ h' => .aside h'
  · exact .when (.aside h) fun _ h' => .via h' fun _ h'' => .readClear h''
  · exact .when (.aside h) fun _ h' => .via h' fun _ h'' => .registerWrite h''
  · exact .when (.aside h) fun _ h' => .aside (.aside h')

/-! ### Object writes -/

theorem Evolves.objPut {r ws} (h : Evolves s₀ s) : Evolves s₀ (s.objPut r ws) := by
  unfold State.objPut
  refine .each h fun _ _ h' => ?_
  extract_lets _ _ counted
  have hc : Evolves s₀ counted := .genCount (.each h' fun _ _ h'' => .ite (.putField h'') h'')
  split
  · refine .ite hc ?_
    split
    · exact .rowCmd hc
    · exact hc
  · exact hc

theorem Evolves.pairedBy {ws} (h : Evolves s₀ s) : Evolves s₀ (s.pairedBy ws) := .each h fun _ _ h' => .wr (.wr h')

theorem Evolves.refusedState {t ws} (h : Evolves s₀ s) (ht : Evolves s₀ t) : Evolves s₀ (s.refusedState t ws) := by
  unfold State.refusedState
  split
  · exact .ite (.wr (.wr h)) ht
  · exact ht

theorem Ends.objRegs {r ws fit} (h : Evolves s₀ s) : Ends s₀ (s.objRegs r ws fit) := by
  unfold State.objRegs
  split
  · exact .ite (.of h) (.ite (.of (.refusedState h (.objPut h))) (.of (.objPut h)))
  · exact .of (.ite (.logStamped h) (.ite (.pairedBy h) h))

theorem Ends.objRun {f g} (h : Evolves s₀ s) (hg : ∀ s, Evolves s₀ s → Leads s₀ (g s)) : Ends s₀ (s.objRun f g) :=
  .of (.via h hg)

theorem Ends.objAsk {g} (h : Evolves s₀ s) (hg : ∀ s, Evolves s₀ s → Leads s₀ (g s)) : Ends s₀ (s.objAsk g) := by
  unfold State.objAsk
  dsimp only
  split <;> exact .of (.aside (.via h hg))

theorem Evolves.boardClear {v} (h : Evolves s₀ s) : Evolves s₀ (s.boardClear v) := .each h fun _ _ h' => .setBytes h'

theorem Ends.objEvent {w v} (h : Evolves s₀ s) : Ends s₀ (s.objEvent w v) := .of (.evtCommand h)

theorem Ends.objWeir {w v} (h : Evolves s₀ s) : Ends s₀ (s.objWeir w v) :=
  .of (.via (.each h fun _ _ h' => .wr h') fun _ h' => .routeEntryCommit h')

theorem Ends.objConf {w v} (h : Evolves s₀ s) : Ends s₀ (s.objConf w v) := by
  unfold State.objConf
  refine .of (.via (.each h fun _ _ h' => .wr h') fun _ h' => ?_)
  split
  · exact .cfTableCommit h'
  · exact .cfTableRemove h'

theorem Ends.objLocks {w v} (h : Evolves s₀ s) : Ends s₀ (s.objLocks w v) := by
  unfold State.objLocks; exact .ite (.of h) (.of (.each h fun _ _ h' => .setLock h'))

theorem Ends.objTamper {r n v} (h : Evolves s₀ s) : Ends s₀ (s.objTamper r n v) := by
  unfold State.objTamper; exact .ite (.of h) (.ite (.of (.logStamped h)) (.ite (.of h) (.of (.confCount (.wr h)))))

theorem Ends.objAssign {r n v fit} (h : Evolves s₀ s) : Ends s₀ (s.objAssign r n v fit) := by
  unfold State.objAssign
  exact .ite (.of h) (.ite (.of h) (.ite (.of (.logStamped h)) (.ite (.of h) (.ite (.of h) (.of (.via h fun _ h' =>
    .worldAssign h'))))))

theorem Ends.objSpecial {r row a j x} (h : Evolves s₀ s) : Ends s₀ (s.objSpecial r row a j x) := by
  unfold State.objSpecial
  dsimp only
  split
  · exact .of (.confWrite (.aside h))
  · exact .of (.aside h)
  · exact .ite (.of h) (.objRegs h)
  · exact .ite (.of h) (.of (.aside h))
  · exact .objEvent h
  · exact .ite (.of h) (.of (.aside h))
  · exact .objRegs h
  · refine .objRun h fun _ h' => ?_
    split
    · exact .reinitAll h'
    · exact .reinitCell h'
  · exact .objRegs h
  · exact .objRegs h
  · exact .ite (.of h) (.of (.aside h))
  · exact .objWeir h
  · exact .ite (.of h) (.of (.aside h))
  · exact .objConf h
  · exact .of (.confWrite (.wr (.wr h)))
  · exact .objRegs h
  · exact .ite (.of h) (.objAsk h fun _ h' => .debugToken h')
  · exact .objTamper h
  · exact .ite (.of h) (.ite (.of (.wr h)) (.ite (.of h) (.of h)))
  · exact .ite (.of h) (.objAsk h fun _ h' => .attestationNonce h')
  · exact .ite (.objAsk h fun _ h' => .zeroiseClear h') (.ite (.of h) (.of h))
  · exact .objLocks h
  · exact .of (.aside h)
  · exact .of h

theorem Ends.objApply {r row a j} (h : Evolves s₀ s) : Ends s₀ (s.objApply r row a j) := by
  unfold State.objApply
  refine .ite (.objAssign h) (.ite (.ite (.of h) (.ite (.of h) (.of (.ite (.headRestart h) h)))) (.ite (.ite (.of h)
    (.ite (.of h) (.of (.ite (.aside h) h)))) (.ite (.of h) (.ite (.of h) ?_))))
  split
  · exact .objRegs h
  · exact .objRegs h
  · exact .ite (.of (.boardClear h)) (.ite (.of (.wr h)) (.of (.confWrite (.setBytes h))))
  · exact .of h
  · exact .objSpecial h

/-! ### Sounding -/

theorem Evolves.sound {path cls} (h : Evolves s₀ s) : Evolves s₀ (s.sound path cls) := .aside (.aside h)

/-! ### The object engine -/

theorem Evolves.portSend {p b} (h : Evolves s₀ s) : Evolves s₀ (s.portSend p b) := by
  unfold State.portSend; exact .ite (.sendTo h) (.ite (.aside h) h)

theorem Evolves.dopSend {p head offset more code data} (h : Evolves s₀ s) :
    Evolves s₀ (s.dopSend p head offset more code data) := by
  unfold State.dopSend; exact .ite (.portSend h) h

theorem Evolves.sdoSend {k b} (h : Evolves s₀ s) : Evolves s₀ (s.sdoSend k b) := by
  unfold State.sdoSend; exact .ite (.segQueued (.join h)) (.aside h)

theorem Evolves.sdoFlush (h : Evolves s₀ s) : Evolves s₀ s.sdoFlush :=
  .each h fun _ _ h' => .each h' fun _ _ h'' => .ite (.segQueued (.join (.aside h''))) h''

theorem Evolves.sdoAnswer {k toggle r code data} (h : Evolves s₀ s) : Evolves s₀ (s.sdoAnswer k toggle r code data) := by
  unfold State.sdoAnswer
  refine .ite (.sdoSend h) ?_
  split
  · exact .sdoSend h
  · exact .sdoSend h
  · exact .ite (.sdoSend h) (.sdoSend (.aside h))

theorem Evolves.eddyAnswer {e addr len r code data} (h : Evolves s₀ s) :
    Evolves s₀ (s.eddyAnswer e addr len r code data) :=
  .eddyRing (.eddySend (.ite (.setBytes (.when h fun _ h' => .denied h')) (.when h fun _ h' => .denied h')))

theorem Evolves.odAnswer {r code data} (h : Evolves s₀ s) : Evolves s₀ (s.odAnswer r code data) := by
  unfold State.odAnswer
  extract_lets _ _ answered
  have ha : Evolves s₀ answered := .aside (.when (.ite (.inc h) h) fun _ h' => .decision h')
  split
  · exact ha
  · exact .ite (.dopSend (.dopSend ha)) (.dopSend ha)
  · exact .sdoAnswer ha
  · exact .eddyAnswer ha

theorem Evolves.odRead {r row a j} (h : Evolves s₀ s) : Evolves s₀ (s.odRead r row a j) := by
  unfold State.odRead
  extract_lets s1 s2
  have h1 : Evolves s₀ s1 := .when (.when h fun _ h' => .formConfsum h') fun _ h' => .corrected h'
  have h2 : Evolves s₀ s2 := .via h1 fun _ h' => .debugChallenge h'
  split
  · exact .ite (.odAnswer h1) (.ite (.aside h1) (.ite (.odAnswer h1) (.odAnswer h1)))
  · split
    · exact .odAnswer h2
    · exact .odAnswer h2
    · exact h2
  · exact .odAnswer (.aside h1)
  · exact .odAnswer h1

theorem Evolves.objComplete {r jseq code} (h : Evolves s₀ s) : Evolves s₀ (s.objComplete r jseq code) := by
  unfold State.objComplete; exact .ite (.ite (.aside h) h) (.jView (.aside (.jAppend h)))

theorem Evolves.odFinish {r jseq code} (h : Evolves s₀ s) : Evolves s₀ (s.odFinish r jseq code) :=
  .each (.aside (.odAnswer (.objComplete h))) fun _ _ h' => .odAnswer h'

theorem Evolves.odRun {r jseq} (h : Evolves s₀ s) : Evolves s₀ (s.odRun r jseq) := by
  unfold State.odRun
  split
  · exact h
  · split
    next c t e => exact .odFinish (e ▸ Ends.objApply h : Ends s₀ (c, 0, t))
    next c k t _ e => exact .aside (e ▸ Ends.objApply h : Ends s₀ (c, k, t))

theorem Evolves.odAccepted {r jseq} (h : Evolves s₀ s) : Evolves s₀ (s.odAccepted r jseq) := .odRun (.aside h)

theorem Evolves.finishWork {w jseq} (h : Evolves s₀ s) : Evolves s₀ (s.finishWork w jseq) := by
  unfold State.finishWork
  split
  · exact .pushDone h
  · exact .moveDone h
  · exact .evtDone h
  · exact .deltaAccepted h
  · exact .odAccepted h

theorem Evolves.retryHeld : ∀ {n} {s : State}, Evolves s₀ s → Evolves s₀ (s.retryHeld n)
  | 0, _, h => h
  | n + 1, s, h => by
    unfold State.retryHeld
    split
    · exact .wr h
    · exact .ite h (Evolves.retryHeld (.submit (.aside h) (fun _ h' => h') fun _ _ h' => .finishWork h'))

theorem Evolves.odNumbered {r} (h : Evolves s₀ s) : Evolves s₀ (s.odNumbered r) := by
  unfold State.odNumbered
  refine .ite (.odAnswer h) ?_
  split
  · exact .odAnswer h
  · exact .ite (.aside h) (.ite (.ite (.odAccepted h) (.submit h (fun _ h' => h') fun _ _ h' => .odAccepted h'))
      (.odAnswer h))

theorem Evolves.odWrite {r row} (h : Evolves s₀ s) : Evolves s₀ (s.odWrite r row) := by
  unfold State.odWrite
  exact .ite (.odAnswer h) (.ite (.ite (.odAnswer (.sound h)) (.odAnswer h)) (.ite (.odRun h) (.odNumbered h)))

theorem Evolves.memStrike (h : Evolves s₀ s) : Evolves s₀ s.memStrike := by
  unfold State.memStrike
  split
  · exact .ite (.odFinish (.aside h)) h
  · exact h

theorem Evolves.odServe {r} (h : Evolves s₀ s) : Evolves s₀ (s.odServe r) := by
  unfold State.odServe
  refine .ite (.odAnswer (.aside (.inc (.memStrike h)))) ?_
  split
  · exact .odAnswer (.inc (.memStrike h))
  · split
    · exact .ite (.odWrite (.inc (.memStrike h))) (.odRead (.inc (.memStrike h)))
    · exact .odAnswer (.inc (.memStrike h))

theorem Evolves.odOrder {r} (h : Evolves s₀ s) : Evolves s₀ (s.odOrder r) := by
  unfold State.odOrder; exact .ite (.releaseInput h) (.odServe h)

theorem Evolves.waitAnswer {w code} (h : Evolves s₀ s) : Evolves s₀ (s.waitAnswer w code) := by
  unfold State.waitAnswer; exact .ite (.odAnswer h) (.ite (.odAnswer h) (.odFinish h))

theorem Evolves.odPoll (h : Evolves s₀ s) : Evolves s₀ s.odPoll := by
  unfold State.odPoll
  refine .retryHeld (.sdoFlush (.each (.memStrike h) fun _ _ h' => ?_))
  split
  · exact .waitAnswer (.aside h')
  · exact h'

theorem Evolves.seqsRebuilt (h : Evolves s₀ s) : Evolves s₀ s.seqsRebuilt :=
  .each (.each h fun _ _ h' => .ite (.aside h') h') fun _ _ h' => .ite (.aside h') h'

theorem Evolves.restore (h : Evolves s₀ s) : Evolves s₀ s.restore := by
  unfold State.restore
  extract_lets _ s1 _ _ s3
  have h1 : Evolves s₀ s1 := .each h fun _ _ h' => by
    split
    · exact .odRun h'
    · exact .each h' fun _ _ h'' => .append h''
    · exact .dqView (.aside h')
    · exact h'
    · exact .finishWork h'
  have h3 : Evolves s₀ s3 := .aside (.seqsRebuilt h1)
  exact .ite (.recommit h3) h3

/-! ### Commands of the object engine -/

theorem Evolves.odBusy (h : Evolves s₀ s) : Evolves s₀ s.odBusy :=
  .each (.aside h) fun _ _ h' => .dopSend (.wr (.inc h'))

theorem Evolves.dop {p svc op g} (h : Evolves s₀ s) (hg : ∀ s x x2, Evolves s₀ s → Evolves s₀ (g s x x2)) :
    Evolves s₀ (s.dop p svc op g) := by
  unfold State.dop
  extract_lets s1 s2
  have h1 : Evolves s₀ s1 := .odBusy (.aside h)
  have h2 : Evolves s₀ s2 := .ite (.aside h1) h1
  refine .ite h1 ?_
  split
  · exact h1
  · exact .ite h2 (.ite (.inc h2) (.ite h2 (.ite (.odAnswer (.inc h2)) (.ite h1 (.ite (.odAnswer (.wr (.inc h2)))
      (.ite (.odAnswer (.inc h2)) (hg _ _ _ h2)))))))

theorem Evolves.dopGo {p r b} (h : Evolves s₀ s) : Evolves s₀ (s.dopGo p r b) := by
  unfold State.dopGo; exact .ite (.odServe h) (.ite (.sendFree h) (.odOrder h))

theorem Leads.dopRead {p svc} (h : Evolves s₀ s) : Leads s₀ (execDopRead p svc s) := by
  unfold execDopRead; exact .running h (.next (.dop h fun _ _ _ h' => .dopGo h'))

theorem Leads.dopWrite {p svc} (h : Evolves s₀ s) : Leads s₀ (execDopWrite p svc s) := by
  unfold execDopWrite; exact .running h (.next (.dop h fun _ _ _ h' => .dopGo h'))

theorem Evolves.dopPart {p r b} (h : Evolves s₀ s) : Evolves s₀ (s.dopPart p r b) := by
  unfold State.dopPart
  extract_lets _ _ _ _ put sent
  have hp {s x} (h : Evolves s₀ s) : Evolves s₀ (put s x) := .aside h
  have hs : Evolves s₀ sent := .when h fun _ h' => .sendFree h'
  refine .ite (.odAnswer h) (.ite (.odAnswer (hp hs)) (.ite (hp hs) ?_))
  split
  · exact .odAnswer (hp hs)
  · exact .dopGo (hp hs)

theorem Leads.dopWritePart {p svc} (h : Evolves s₀ s) : Leads s₀ (execDopWritePart p svc s) := by
  unfold execDopWritePart; exact .running h (.next (.dop h fun _ _ _ h' => .dopPart h'))

theorem Leads.partStagingTimeout {ip} (h : Evolves s₀ s) : Leads s₀ (execPartStagingTimeout ip s) := by
  unfold execPartStagingTimeout; exact .running h (.next (.aside h))

theorem Leads.arpRequest {p frame} (h : Evolves s₀ s) : Leads s₀ (execArpRequest p frame s) := by
  unfold execArpRequest; exact .running h (.next (.ite (.aside (.portSend (.aside h))) (.aside h)))

theorem Leads.icmpEcho {p frame} (h : Evolves s₀ s) : Leads s₀ (execIcmpEcho p frame s) := by
  unfold execIcmpEcho
  exact .running h (.next (.ite (.aside h) (.ite (.inc (.aside h)) (.ite (.ite (.aside (.portSend (.aside h))) (.aside
    h)) (.aside h)))))

theorem Evolves.takeWsn {path} (h : Evolves s₀ s) : Evolves s₀ (s.takeWsn path).2 := .aside h

theorem Evolves.sdoFail {k index sub code} (h : Evolves s₀ s) : Evolves s₀ (s.sdoFail k index sub code) :=
  .aside (.sdoSend (.inc (.aside h)))

theorem Evolves.sdoTake {k ccs g} (h : Evolves s₀ s) (hg : ∀ s x, Evolves s₀ s → Evolves s₀ (g s x)) :
    Evolves s₀ (s.sdoTake k ccs g) := by
  unfold State.sdoTake
  extract_lets t
  have ht : Evolves s₀ t := .odBusy (.aside h)
  refine .ite ht ?_
  split
  · exact ht
  · exact .ite (.aside ht) (.ite (hg _ _ (.aside ht)) (.ite ht (.ite (.aside (.takeWsn (.aside ht))) (.sdoFail (.inc
      (.takeWsn (.aside ht)))))))

theorem Evolves.sdoFresh {k} (h : Evolves s₀ s) : Evolves s₀ (s.sdoFresh k) := by
  unfold State.sdoFresh
  split
  · exact .sdoFail h
  · exact h

theorem Leads.sdoDownloadInitiate {k} (h : Evolves s₀ s) : Leads s₀ (execSdoDownloadInitiate k s) := by
  unfold execSdoDownloadInitiate
  refine .running h (.next (.sdoTake h fun _ _ h' => .ite (.odServe (.takeWsn (.sdoFresh h'))) ?_))
  dsimp only
  split
  · exact .sdoSend (.aside (.takeWsn (.sdoFresh h')))
  · exact .odAnswer (.inc (.takeWsn (.sdoFresh h')))

theorem Leads.sdoDownloadSegment {k} (h : Evolves s₀ s) : Leads s₀ (execSdoDownloadSegment k s) := by
  unfold execSdoDownloadSegment
  refine .running h (.next (.sdoTake h fun _ _ h' => ?_))
  dsimp only
  split
  · exact .sdoFail (.takeWsn h')
  · exact .ite (.sdoFail h') (.ite (.sdoFail h') (.ite (.sdoSend (.aside h')) (.ite (.odAnswer (.inc (.aside h')))
      (.odServe (.aside h')))))

theorem Leads.sdoUploadInitiate {k} (h : Evolves s₀ s) : Leads s₀ (execSdoUploadInitiate k s) := by
  unfold execSdoUploadInitiate
  exact .running h (.next (.sdoTake h fun _ _ h' => .odServe (.takeWsn (.sdoFresh h'))))

theorem Leads.sdoUploadSegment {k} (h : Evolves s₀ s) : Leads s₀ (execSdoUploadSegment k s) := by
  unfold execSdoUploadSegment
  refine .running h (.next (.sdoTake h fun _ _ h' => ?_))
  dsimp only
  split
  · exact .sdoFail (.takeWsn h')
  · exact .ite (.sdoFail h') (.ite (.sdoFail h') (.sdoSend (.aside h')))

theorem Leads.sdoTimeout {k} (h : Evolves s₀ s) : Leads s₀ (execSdoTimeout k s) := by
  unfold execSdoTimeout
  refine .running h (.next ?_)
  split
  · exact .sdoFail h
  · exact h

theorem Leads.wsnExpire {path} (h : Evolves s₀ s) : Leads s₀ (execWsnExpire path s) := by
  unfold execWsnExpire; exact .running h (.next (.aside h))

theorem Evolves.eddyRequest {e op g} (h : Evolves s₀ s) (hg : ∀ s x x2 x3, Evolves s₀ s → Evolves s₀ (g s x x2 x3))
    :
    Evolves s₀ (s.eddyRequest e op g) := by
  unfold State.eddyRequest
  refine .ite (.aside h) ?_
  split
  · exact .ite (.odAnswer (.inc (.aside (.eddyTake (.aside h))))) (.ite (.aside h) (hg _ _ _ _ (.aside (.eddyTake
      (.aside h)))))
  · exact .aside h

theorem Evolves.ownCopy {r} (h : Evolves s₀ s) : Evolves s₀ (s.ownCopy r) := .aside h

theorem Leads.odEddyRead {e} (h : Evolves s₀ s) : Leads s₀ (execOdEddyRead e s) := by
  unfold execOdEddyRead
  exact .running h (.next (.eddyRequest h fun _ _ _ _ h' => .ite (.ownCopy h') (.odOrder h')))

theorem Leads.odEddyWrite {e} (h : Evolves s₀ s) : Leads s₀ (execOdEddyWrite e s) := by
  unfold execOdEddyWrite
  refine .running h (.next (.eddyRequest h fun _ _ _ _ h' => ?_))
  split
  · exact .ite (.odAnswer (.inc (.denied h'))) (.ite (.ownCopy h') (.odOrder h'))
  · exact .odAnswer (.inc h')

theorem Leads.sounding {cls path value} (h : Evolves s₀ s) : Leads s₀ (execSounding cls path value s) := by
  unfold execSounding; exact .running h (.next (.ite (.aside h) (.odServe (.aside h))))

/-! ### Braid events -/

theorem Evolves.allow {upTo} (h : Evolves s₀ s) : Evolves s₀ (s.allow upTo) := by
  unfold State.allow
  refine .each (.each (.jView (.aside h)) fun _ _ h' => ?_) fun _ _ h' => .finishWork h'
  split
  · exact .odServe h'
  · exact .doRelease h'

theorem Evolves.movesBack (h : Evolves s₀ s) : Evolves s₀ s.movesBack := by
  unfold State.movesBack
  refine .keptHere (.each h fun _ _ h' => ?_)
  split
  · exact .each h' fun _ _ h'' => .append h''
  · exact h'

theorem Evolves.aloneNow (h : Evolves s₀ s) : Evolves s₀ s.aloneNow := .retryHeld (.allow (.movesBack (.brGo h)))

theorem Evolves.tkoRecord (h : Evolves s₀ s) : Evolves s₀ s.tkoRecord := .wr (.wr (.wr h))

theorem Evolves.fenceIfLost (h : Evolves s₀ s) : Evolves s₀ s.fenceIfLost := by
  unfold State.fenceIfLost; exact .when h fun _ h' => .startFence h'

theorem Evolves.takeOver (h : Evolves s₀ s) : Evolves s₀ s.takeOver :=
  .retryHeld (.allow (.fenceIfLost (.keptHere (.noProxies (.announce (.brGo (.logStamped (.inc (.wr (.newEpoch
    h))))))))))

theorem Evolves.claimHeld (h : Evolves s₀ s) : Evolves s₀ s.claimHeld := by
  unfold State.claimHeld
  extract_lets _ s1 _ s2 s3
  have h1 : Evolves s₀ s1 := .setClaim (.aside h)
  have h2 : Evolves s₀ s2 := .tkoRecord h1
  have h3 : Evolves s₀ s3 := .brGo (.newEpoch h2)
  refine .ite (.ite (.brGo h1) (.restore (.brGo h1))) ?_
  split
  · exact .startFence (.restore (.brGo h2))
  · exact .fenceIfLost (.ite h3 (.restore h3))
  · exact .takeOver h2

theorem Evolves.partnerClaims (h : Evolves s₀ s) : Evolves s₀ s.partnerClaims := by
  unfold State.partnerClaims; exact .ite (.brGo (.dropLatch (.wr (.aside h)))) (.wr (.aside h))

theorem Leads.claimConfirm {partner} (h : Evolves s₀ s) : Leads s₀ (execClaimConfirm partner s) := by
  unfold execClaimConfirm
  exact .running h (.next (.ite (.ite h (.claimHeld (.aside h))) (.ite h (.ite (.partnerClaims h) (.claimHeld (.aside
    h))))))

theorem Leads.partnerClaimReleased (h : Evolves s₀ s) : Leads s₀ (execPartnerClaimReleased s) :=
  .next (.ite h (.ite (.setLatch (.waitFree (.wr (.aside h)))) (.ite (.setLatch (.waitFree (.wr (.aside h)))) (.wr
    (.aside h)))))

theorem Leads.claimConflict (h : Evolves s₀ s) : Leads s₀ (execClaimConflict s) := by
  unfold execClaimConflict; exact .running h (.next (.ite h (.partnerClaims h)))

theorem Leads.presenceFrameSend (h : Evolves s₀ s) : Leads s₀ (execPresenceFrameSend s) := by
  unfold execPresenceFrameSend; exact .running h (.next (.ite h (.each h fun _ _ h' => .aside h')))

theorem Evolves.bothLost (h : Evolves s₀ s) : Evolves s₀ s.bothLost := by
  unfold State.bothLost
  exact .ite (.brGo (.wr h)) (.ite (.brGo (.wr (.waitFree h))) (.ite (.setLatch (.waitFree h)) (.brGo (.waitFree h))))

theorem Evolves.p9Lost (h : Evolves s₀ s) : Evolves s₀ s.p9Lost := by
  unfold State.p9Lost
  split
  · exact .aloneNow h
  · exact .brGo h
  · exact .brGo h
  · exact h

theorem Evolves.pathLost {hb} (h : Evolves s₀ s) : Evolves s₀ (s.pathLost hb) := by
  unfold State.pathLost; exact .ite (.ite (.bothLost h) (.ite (.p9Lost h) h)) (.ite h (.p9Lost h))

theorem Leads.heartbeatMiss {path} (h : Evolves s₀ s) : Leads s₀ (execHeartbeatMiss path s) := by
  unfold execHeartbeatMiss
  extract_lets _ _ s1 s2
  have h1 : Evolves s₀ s1 := .ite (.inc (.aside h)) (.inc (.aside h))
  have h2 : Evolves s₀ s2 := .ite (.startFence h1) h1
  exact .running h (.next (.ite h (.ite (.pathLost (.wr h2)) h2)))

theorem Evolves.pathHeard {hb} (h : Evolves s₀ s) : Evolves s₀ (s.pathHeard hb) := by
  unfold State.pathHeard
  extract_lets _ heard
  have hh : Evolves s₀ heard := .ite (.wr (.aside h)) (.wr (.aside h))
  refine .ite (.aside hh) ?_
  split
  · exact .aside hh
  · exact .ite (.stopFence hh) hh

theorem Leads.heartbeatSend (h : Evolves s₀ s) : Leads s₀ (execHeartbeatSend s) := by
  unfold execHeartbeatSend; exact .running h (.next (.ite h (.sendBeat (.formConfsum h))))

theorem Evolves.initMeets {h} (hs : Evolves s₀ s) : Evolves s₀ (s.initMeets h) := by
  unfold State.initMeets
  refine .ite hs (.ite (.brGo hs) (.ite hs ?_))
  split
  · exact .brGo hs
  · exact .ite hs (.setLatch (.waitFree hs))
  · exact .ite (.brGo hs) (.ite hs (.setLatch (.waitFree hs)))

theorem Evolves.syncStart (h : Evolves s₀ s) : Evolves s₀ s.syncStart :=
  .sendRec (.each (.each (.newEpoch (.aside h)) fun _ _ h' => .wr h') fun _ _ h' => .sendRec h')

theorem Leads.turnBoundary (h : Evolves s₀ s) : Leads s₀ (execTurnBoundary s) := by
  unfold execTurnBoundary; exact .running h (.next (.ite h (.ite (.syncStart (.nextTurn h)) (.nextTurn h))))

theorem Evolves.claimEdges (h : Evolves s₀ s) : Evolves s₀ s.claimEdges := by
  unfold State.claimEdges; exact .ite h (.ite (.wr (.aside (.aside h))) (.aside h))

theorem Evolves.peerLeft {old new} (h : Evolves s₀ s) : Evolves s₀ (s.peerLeft old new) := by
  unfold State.peerLeft; exact .ite (.when (.aside h) fun _ h' => .wr h') h

theorem Evolves.beat {h} (hs : Evolves s₀ s) : Evolves s₀ (s.beat h) := by
  unfold State.beat
  extract_lets _ _ _ s1 _ _ s2 _ _ s3 s4
  have h1 : Evolves s₀ s1 := .wr (.wr (.wr (.wr (.pathHeard hs))))
  have h2 : Evolves s₀ s2 := .ite (.claimEdges (.aside (.wr h1))) (.wr h1)
  have h3 : Evolves s₀ s3 := .when h2 fun _ h' => .allow h'
  have h4 : Evolves s₀ s4 := .aloneNow (.peerLeft h3)
  split
  · exact .initMeets h2
  · exact .ite (.when h2 fun _ h' => .newEpoch h') (.ite (.aside h2) (.setLatch (.waitFree (.aside h2))))
  · exact .ite h3 (.ite (.aside h4) h4)
  · exact .ite (.brGo h2) (.ite (.aside h2) h2)
  · exact h2

theorem Leads.heartbeatReceive {h} (hs : Evolves s₀ s) : Leads s₀ (execHeartbeatReceive h s) := by
  unfold execHeartbeatReceive
  refine .running hs (.next (.ite hs ?_))
  split
  · exact .beat hs
  · exact .ite (.p9Lost (.pathHeard hs)) (.pathHeard hs)

theorem Evolves.meet {like same} (h : Evolves s₀ s) : Evolves s₀ (s.meet like same) := by
  unfold State.meet
  split
  · exact h
  · exact .ite (.aside h) (.inc (.wr (.aside h)))

theorem Evolves.journalIn {e alone} (h : Evolves s₀ s) : Evolves s₀ (s.journalIn e alone) := by
  unfold State.journalIn
  extract_lets _ _ freed
  have hf : Evolves s₀ freed := .when (.jWork (.aside h)) fun _ h' => .wr h'
  refine .ite (.finishWork hf) ?_
  split
  · exact .ite (.finishWork (.aside hf)) (.diverge (.aside hf))
  · exact .aside hf

theorem Evolves.configIn {index sub v} (h : Evolves s₀ s) : Evolves s₀ (s.configIn index sub v) := by
  unfold State.configIn
  split
  · exact h
  · exact .ite h (.ite (.brGo (.wr (Ends.objApply h))) (Ends.objApply h))

theorem Evolves.hwTaken {h} (hs : Evolves s₀ s) : Evolves s₀ (s.hwTaken h) := by
  unfold State.hwTaken
  extract_lets _ _ _ queued _ _ cells _ gauge _ _ work
  have hq : Evolves s₀ queued := .each (.aside hs) fun _ _ h' =>
    .canView (.each (.aside h') fun _ _ h'' => .each h'' fun _ _ h''' => .append h''')
  have hc : Evolves s₀ cells :=
    .each (.each (.each hq fun _ _ h' => .segTaken h') fun _ _ h' => .wr h') fun _ _ h' => .wr h'
  have hg : Evolves s₀ gauge := .each (.each hc fun _ _ h' => .wr (.wr h')) fun _ _ h' => .setBytes h'
  have hw : Evolves s₀ work := .each (.aside hg) fun _ _ h' => .jWork (.aside h')
  exact .seqsRebuilt (.jView (.aside hw))

theorem Evolves.proxySent {k jseq bytes} (h : Evolves s₀ s) : Evolves s₀ (s.proxySent k jseq bytes) := by
  unfold State.proxySent
  split
  · split
    · exact .completeElem (.when h fun _ h' => .writeDone h')
    · exact h
  · exact h

theorem Evolves.recordIn {alone x2} (h : Evolves s₀ s) : Evolves s₀ (s.recordIn alone x2) := by
  unfold State.recordIn
  split
  · exact .ite (.aside (.meet h)) (.stageFrame (.meet h))
  · exact .ite (.edgeLost (.meet h)) (.edgePut (.aside (.meet h)))
  · exact .ite (.aside h) (.toHost h)
  · exact .ite (.powerAccept h) (.odServe (.meet h))
  · exact .streamPut h
  · exact .turnPut h
  · exact .ite (.raiseFor h) (.raiseFor h)
  · exact .wr (.wr (.segTaken h))
  · exact .slaveTurn h
  · exact .aside h
  · exact .journalIn h
  · exact .ite (.compareAll (.aside h)) h
  · exact .ite (.configIn h) h
  · exact .ite (.hwTaken h) h
  · exact .ite (.denied h) (.wr (.aside (.setBytes h)))
  · exact .ite (.cancelIn h) h
  · exact h
  · exact h

theorem Evolves.unseal (h : Evolves s₀ s) : Evolves s₀ s.unseal := by
  unfold State.unseal; exact .ite (.each (.aside h) fun _ _ h' => .recordIn h') h

theorem Evolves.recordTaken {x} (h : Evolves s₀ s) : Evolves s₀ (s.recordTaken x) := by
  unfold State.recordTaken; exact .ite (.aside h) (.unseal (.recordIn h))

theorem Leads.braidRecordProcess {seq lag rec'} (h : Evolves s₀ s) :
    Leads s₀ (execBraidRecordProcess seq lag rec' s) := by
  unfold execBraidRecordProcess
  extract_lets _ _ _ _ _ _ t
  have ht : Evolves s₀ t := .recordTaken (.sendFree (.wr (.wr (.wr (.aside h)))))
  refine .running h (.next (.ite h ?_))
  split
  · exact .proxySent h
  · exact .aside h
  · exact .ite h (.ite (.ite (.brGo h) (.ite (.askReplay h) h)) (.ite (.wr h) (.ite (.brGo (.wr ht)) ht)))

theorem Leads.braidAcknowledgement {seq} (h : Evolves s₀ s) : Leads s₀ (execBraidAcknowledgement seq s) := by
  unfold execBraidAcknowledgement; exact .running h (.next (.ite h (.allow (.aside h))))

theorem Leads.replayRequest {seq} (h : Evolves s₀ s) : Leads s₀ (execReplayRequest seq s) := by
  unfold execReplayRequest; exact .running h (.next (.ite h (.each (.inc (.aside h)) fun _ _ h' => .mirror h')))

theorem Leads.journalControlWrite (h : Evolves s₀ s) : Leads s₀ (execJournalControlWrite s) := by
  unfold execJournalControlWrite; exact .running h (.next (.writeControl h))

theorem Leads.startAlone (h : Evolves s₀ s) : Leads s₀ (execStartAlone s) := by
  unfold execStartAlone; exact .running h (.next (.ite h (.setLatch (.waitFree (.aside h)))))

theorem Leads.bloopChange {seated} (h : Evolves s₀ s) : Leads s₀ (execBloopChange seated s) :=
  .next (.ite (.startFence (.wr h)) (.wr h))

theorem Leads.standbySelfTest {test fail} (h : Evolves s₀ s) : Leads s₀ (execStandbySelfTest test fail s) := by
  unfold execStandbySelfTest
  exact .running h (.next (.ite h (.ite (.aside (.aside (.logStamped (.aside (.putBit (.wr h)))))) (.aside (.putBit
    (.wr h))))))

/-! ### Every command -/

theorem Leads.exec {i} (h : Evolves s₀ s) : Leads s₀ (exec i s) := by
  unfold Machine.exec
  split
  · exact .registerWrite h
  · exact .readClear h
  · exact .phaseTimeRead h
  · exact .millraceEnable h
  · exact .millraceDisable h
  · exact .zeroCrossing h
  · exact .senseLost h
  · exact .turnBoundary h
  · exact .associationAccept h
  · exact .referenceFrameWithdraw h
  · exact .eventCommit h
  · exact .eventCancel h
  · exact .eventDispatch h
  · exact .gaugeTurnClose h
  · exact .mapCommit h
  · exact .gaugePassStart h
  · exact .gaugePassDone h
  · exact .geometryCommit h
  · exact .reinitCell h
  · exact .reinitAll h
  · exact .channelOff h
  · exact .channelOn h
  · exact .channelOnHard h
  · exact .channelPwm h
  · exact .rampComplete h
  · exact .inrushWindowEnd h
  · exact .pwmEdge h
  · exact .millisecondMean h
  · exact .streamRecordDeposit h
  · exact .turnRecordDeposit h
  · exact .openLoadOff h
  · exact .extvChange h
  · exact .openLoadOn h
  · exact .reverseBlock h
  · exact .reverseResume h
  · exact .sheddingRoundStart h
  · exact .shedStep h
  · exact .currentLimitEngage h
  · exact .shortTrip h
  · exact .limitTrip h
  · exact .thermalShutdown h
  · exact .thermalLatchRelease h
  · exact .thermalLatchClear h
  · exact .retryAttempt h
  · exact .retryCountReset h
  · exact .protectionClear h
  · exact .spillwayUnlock h
  · exact .clampPulseEnd h
  · exact .spillwayBucket h
  · exact .feedUndervoltage h
  · exact .undervoltageRestart h
  · exact .feedDip h
  · exact .dieReset h
  · exact .dieStart h
  · exact .floodgateSoftwareTrigger h
  · exact .floodgateOffAndLatch h
  · exact .watchdogServe h
  · exact .watchdogExpire h
  · exact .failsafeResume h
  · exact .failsafeCommit h
  · exact .failsafeCommitDone h
  · exact .fieldInputChange h
  · exact .debounceAccept h
  · exact .edgeRecordWrite h
  · exact .fieldOutputOff h
  · exact .fieldOutputOn h
  · exact .readbackHoldEnd h
  · exact .fieldOutputOvertemp h
  · exact .fieldOutputOtpRecover h
  · exact .canEnable h
  · exact .canDisable h
  · exact .canIntegrationDone h
  · exact .canTxPush h
  · exact .canFrameOffer h
  · exact .canArbitrationLost h
  · exact .canFrameSent h
  · exact .canTxError h
  · exact .canRxError h
  · exact .canProtocolException h
  · exact .canFrameReceived h
  · exact .canRecover h
  · exact .canRecoveryDone h
  · exact .canRelease h
  · exact .canCancelHead h
  · exact .canCancelLevel h
  · exact .canMoveChannel h
  · exact .canMovePartner h
  · exact .canCompletionDeferred h
  · exact .frameRoute h
  · exact .routeEntryCommit h
  · exact .routeEntryClear h
  · exact .ethCanIngress h
  · exact .bundleTimeout h
  · exact .sleepRequest h
  · exact .intentSendTimeout h
  · exact .voteWindowEnd h
  · exact .commitWindowEnd h
  · exact .commitAbort h
  · exact .sleepRetry h
  · exact .segmentWakeRequest h
  · exact .segmentAwake h
  · exact .wakeUpPattern h
  · exact .wakeLinePulse h
  · exact .ethFrameReceive h
  · exact .ethFrameTransmit h
  · exact .mirrorFrameStart h
  · exact .hostQueueDoorbell h
  · exact .cfTableCommit h
  · exact .cfTableRemove h
  · exact .macAgeing h
  · exact .stormWindow h
  · exact .linkDown h
  · exact .linkUp h
  · exact .ptpClockSet h
  · exact .ptpClockStep h
  · exact .ptpSyncExpire h
  · exact .ptpClockRead h
  · exact .heartbeatSend h
  · exact .heartbeatReceive h
  · exact .heartbeatMiss h
  · exact .claimConfirm h
  · exact .partnerClaimReleased h
  · exact .claimConflict h
  · exact .keepalive h
  · exact .keepaliveExpire h
  · exact .claimRelease h
  · exact .plannedSwap h
  · exact .adopt h
  · exact .resyncStart h
  · exact .stateRegionReady h
  · exact .presenceFrameSend h
  · exact .braidRecordProcess h
  · exact .braidAcknowledgement h
  · exact .replayRequest h
  · exact .journalControlWrite h
  · exact .startAlone h
  · exact .bloopChange h
  · exact .standbySelfTest h
  · exact .lockstepError h
  · exact .pairRestart h
  · exact .pairSelftest h
  · exact .debugHalt h
  · exact .bothPairsFrozen h
  · exact .uncorrectableError h
  · exact .ferryPoll h
  · exact .ferryPollResponse h
  · exact .diePollTimeout h
  · exact .ferryCrcError h
  · exact .ferryRetrain h
  · exact .ferryReadTimeout h
  · exact .eddyPush h
  · exact .eddyDoorbell h
  · exact .eddyPop h
  · exact .eddyTimeout h
  · exact .lockAcquire h
  · exact .lockRelease h
  · exact .deltaDoorbell h
  · exact .deltaDispatch h
  · exact .deltaOperationComplete h
  · exact .deltaShareWrite h
  · exact .functionReset h
  · exact .drainTimeout h
  · exact .functionResetDone h
  · exact .queueEnable h
  · exact .monitorCall h
  · exact .monitorCallTimeout h
  · exact .scret h
  · exact .random h
  · exact .keyDerive h
  · exact .keyDestroy h
  · exact .keyInfo h
  · exact .keyExport h
  · exact .keyImport h
  · exact .keyPublic h
  · exact .measureRead h
  · exact .debugChallenge h
  · exact .debugToken h
  · exact .headwaterRestart h
  · exact .headwaterWatchdogExpire h
  · exact .remaskRound h
  · exact .trngHealthFail h
  · exact .tamperRaise h
  · exact .zeroiseClear h
  · exact .attestationNonce h
  · exact .attestationQuoteReady h
  · exact .lostBlock h
  · exact .worldAssign h
  · exact .dopRead h
  · exact .dopWrite h
  · exact .dopWritePart h
  · exact .partStagingTimeout h
  · exact .arpRequest h
  · exact .icmpEcho h
  · exact .sdoDownloadInitiate h
  · exact .sdoDownloadSegment h
  · exact .sdoUploadInitiate h
  · exact .sdoUploadSegment h
  · exact .sdoTimeout h
  · exact .odEddyRead h
  · exact .odEddyWrite h
  · exact .wsnExpire h
  · exact .sounding h
  · exact .serviceKeyChange h
  · exact .braidIdChange h
  · exact .cardRemoved h
  · exact .powerOnReset h
  · exact .fullReset h
  · exact .startLate h
  · exact .powerRequestRun h
  · exact .powerRequestTrim h
  · exact .powerRequestStandby h
  · exact .powerRequestSleep h
  · exact .powerEntryContinue h
  · exact .sleepEntryTimeout h
  · exact .wakeFromStandby h
  · exact .wakeFromSleep h
  · exact .wakeCheck h
  · exact .wakeCheckTimeout h
  · exact .lockSet h
  · exact .logicSupplyLoss h
  · exact .updateCopy h
  · exact .copyDone h
  · exact .updateAbort h
  · exact .updateActivate h
  · exact .updateActivateReset h
  · exact .updateConfirm h
  · exact .confirmTimeout h
  · exact .transceiverFault h
  · exact .claimLineFault h
  · exact .trngHealthRecover h
  · exact .cardInserted h
  · exact .logicInputChange h
  · exact .tapDebugAccess h

end Sys2Proof.Machine

namespace Sys2Proof.Machine

/-! ## O4: the widths -/

/-- A step evolves the state that the front command is taken from. -/
theorem Leads.step (s : State) : Leads { s with pending := s.pending.tail } (step s) := by
  unfold Machine.step
  split
  · next c rest hs =>
    obtain rfl : s.pending.tail = rest := by rw [hs, List.tail_cons]
    exact .exec .refl
  · next hs => exact .next (.odPoll (.ofParts .refl rfl rfl rfl (by simp [hs, State.advance])))

/-- A key kept or dropped as a whole by a filter reads its value or the default. -/
theorem AMap.get_filter_key {κ α : Type} [DecidableEq κ] (d : α) (p : κ → Bool) (k : κ) :
    ∀ m : AMap κ α, get d (m.filter fun e => p e.1) k = if p k then get d m k else d
  | [] => by simp
  | (j, v) :: m => by
    by_cases hj : j = k
    · subst hj
      cases hp : p j <;> simp [List.filter, hp, get, get_filter_key d p j m]
    · cases hp : p j <;> simp [List.filter, hp, get, hj, get_filter_key d p k m]

/-- The primitive operations keep every field within its width: a write cuts the value, a clear leaves the reset value. -/
theorem Evolves.rd_lt {s₀ t : State} (h : Evolves s₀ t) (hw : ∀ f i, s₀.rd f i < 2 ^ (Fld.info f).width) (f : Fld) (i : Nat) :
    t.rd f i < 2 ^ (Fld.info f).width := by
  induction h with
  | refl => exact hw f i
  | @wr s g v j _ ih =>
    by_cases he : (f, i) = (g, j)
    · cases he
      rw [State.rd_wr_same]
      exact Nat.mod_lt _ (Nat.two_pow_pos _)
    · rwa [State.rd_wr_ne _ _ he]
  | @clearFields s _ p ih =>
    unfold State.rd
    rw [AMap.get_filter_key _ (fun k : Fld × Nat => p k.1)]
    split
    · exact ih
    · exact Fld.reset_lt f i
  | setBytes _ ih => exact ih
  | filterMem _ ih => exact ih
  | emmcBytes _ ih => exact ih
  | ofParts _ hr _ _ _ ih => rwa [State.rd_of_regs hr]

/-- Settles O4: a step evolves the state by the primitive operations, and each of them keeps the widths. -/
theorem fieldsStayInWidth : Obligations.FieldsStayInWidth := by
  unfold Obligations.FieldsStayInWidth
  intro s t hs ht
  exact (Leads.step s t ht).rd_lt hs

end Sys2Proof.Machine

namespace Sys2Proof.Machine

/-! ## O57: the debug module while debug is closed (R46, R388) -/

/-- A store of the debug module that its enables do not permit does nothing (R388). -/
theorem exec_registerWrite_of_debugShut {s : State} {who : Initiator} {a v : Nat} (hr : s.masterRuns who = true)
    (hd : s.debugShut who a = true) : exec (.registerWrite who a v) s = .next (s.answer .none) := by
  have hd' : (s.answer .none).debugShut who a = true := hd
  simp only [exec, execRegisterWrite, hd', if_true]
  exact if_pos hr

/-- Refutes O57 by its first clause: the debug module (master 0x15) is a master that runs, but at reset debug is not yet open
(HW_STAT.READY = 0), so its store of 1 to system SRAM, which its claimed world may write, does nothing and the word stays 0.
No clause of the statement leaves that master out. -/
theorem not_registerAccessStoresAndReads : ¬ Obligations.RegisterAccessStoresAndReads := by
  unfold Obligations.RegisterAccessStoresAndReads
  rintro ⟨hstore, -⟩
  have hruns : State.reset.masterRuns ⟨0x15, .secure⟩ = true := by decide
  have hshut : State.reset.debugShut ⟨0x15, .secure⟩ 0x10000000 = true := by decide
  obtain ⟨t, ht, hword, -⟩ := hstore State.reset ⟨0x15, .secure⟩ 0x10000000 1 (by decide) (by decide) (by decide) hruns
  rw [exec_registerWrite_of_debugShut hruns hshut] at ht
  obtain rfl : State.reset.answer .none = t := by injection ht
  exact absurd hword (by decide)

end Sys2Proof.Machine
end

section
/-!
PROOFS of O14, O16, O17, O18 and O58 (load channels: switching). What a command record of Braid and a posted write leave, what
a turn-off does, and what the die does with a command stand as lemmas of their own; the events of a channel (O17, O18) need only
the laws of register fields and of the channel table.
-/
namespace Sys2Proof.Machine

variable {s t u : State} {who : Initiator} {k j a p w src st : Nat}

/-! ## Frames and the channel table -/

theorem changesOnly_trans {ws : List (Fld × Nat)} (h : changesOnly s t ws) (h' : changesOnly t u ws) : changesOnly s u ws :=
  fun f i hf => (h' f i hf).trans (h f i hf)

theorem changesOnly_mono {ws vs : List (Fld × Nat)} (h : changesOnly s t ws) (hs : ws ⊆ vs) : changesOnly s t vs :=
  fun f i hf => h f i fun hm => hf (hs hm)

/-- A write of one field leaves everything but that field. -/
theorem changesOnly_wr_self {f : Fld} {v i : Nat} : changesOnly s (s.wr f v i) [(f, i)] :=
  changesOnly_wr (changesOnly_refl s _) v (List.mem_singleton_self _)

theorem State.ch_of_chan (h : t.chan = s.chan) (k : Nat) : t.ch k = s.ch k := by
  unfold State.ch
  rw [h]

@[simp] theorem State.ch_setCh_same (s : State) (k : Nat) (c : Chan) : (s.setCh k c).ch k = c :=
  AMap.get_set_same id _ s.chan k c

theorem State.ch_setCh_ne (s : State) (c : Chan) (h : j ≠ k) : (s.setCh k c).ch j = s.ch j :=
  AMap.get_set_ne id _ _ s.chan c h

/-- The interrupt of a die changes the raised sources alone (R303). -/
theorem State.slIrq_eq (s : State) (g : Nat) (w : World) : s.slIrq g w = { s with irqs := (s.slIrq g w).irqs } := by
  unfold State.slIrq State.slRaise State.raiseFor State.raise
  split
  · rfl
  · split <;> rfl

theorem State.slIrq_regs (s : State) (g : Nat) (w : World) : (s.slIrq g w).regs = s.regs := by
  rw [State.slIrq_eq]

theorem State.slIrq_chan (s : State) (g : Nat) (w : World) : (s.slIrq g w).chan = s.chan := by
  rw [State.slIrq_eq]

@[simp] theorem State.rd_slIrq (s : State) (g : Nat) (w : World) (f : Fld) (i : Nat) : (s.slIrq g w).rd f i = s.rd f i :=
  State.rd_of_regs (s.slIrq_regs g w) f i

/-! ## The record of a decision, and the posted write (R302, R307, R341) -/

/-- The fields that a frame for the mirror class changes: SEQ, the counts of the mirror port, and the free cells (R278, R302). -/
def mirrorFields : List (Fld × Nat) :=
  [(.BR_SEQ_LO, 0), (.BR_SEQ_HI, 0), (.CFP_CNT_FLUSH, 9), (.CFP_CNT_BUFDROP, 9), (.CF_BUF_FREE, 0)]

theorem State.mirror_eq (s : State) (ty : Nat) (b : List Nat) :
    s.mirror ty b = { s with regs := (s.mirror ty b).regs, braid := (s.mirror ty b).braid } := by
  unfold State.mirror
  split
  · rfl
  split
  · rfl
  split <;> rfl

theorem State.mirror_changesOnly (s : State) (ty : Nat) (b : List Nat) : changesOnly s (s.mirror ty b) mirrorFields := by
  unfold State.mirror
  split
  · exact changesOnly_refl s _
  split
  · exact changesOnly_wr (changesOnly_refl s _) _ (by decide)
  split
  · exact changesOnly_wr (changesOnly_refl s _) _ (by decide)
  · exact changesOnly_wr (changesOnly_regs (changesOnly_refl s _) rfl) _ (by decide)

theorem State.sendRec_eq (s : State) (r : BraidRec) :
    s.sendRec r = { s with regs := (s.sendRec r).regs, braid := (s.sendRec r).braid } := by
  unfold State.sendRec
  split
  · rfl
  · exact State.mirror_eq ..

theorem State.sendRec_changesOnly (s : State) (r : BraidRec) : changesOnly s (s.sendRec r) mirrorFields := by
  unfold State.sendRec
  split
  · exact changesOnly_refl s _
  · refine changesOnly_trans (changesOnly_regs ?_ rfl) (State.mirror_changesOnly _ _ _)
    exact changesOnly_wr (changesOnly_wr (changesOnly_refl s _) _ (by decide)) _ (by decide)

theorem State.decision_eq (s : State) (kind : Nat) (content : List Nat) : s.decision kind content =
    { s with regs := (s.decision kind content).regs, braid := (s.decision kind content).braid } := by
  unfold State.decision
  split
  · exact State.sendRec_eq ..
  · split <;> rfl

theorem State.decision_changesOnly (s : State) (kind : Nat) (content : List Nat) :
    changesOnly s (s.decision kind content) mirrorFields := by
  unfold State.decision
  split
  · exact State.sendRec_changesOnly _ _
  split
  · exact changesOnly_regs (changesOnly_refl s _) rfl
  · exact changesOnly_refl s _

/-- Only the active unit sends a record of its decision: on another one no register changes (R307). -/
theorem State.decision_regs_of_not_active (h : s.rd .BR_STAT_STATE ≠ 5) (kind : Nat) (content : List Nat) :
    (s.decision kind content).regs = s.regs := by
  unfold State.decision
  rw [if_neg h]
  split <;> rfl

/-- The state in which the die takes a command of R137: it returns nothing, its decision is recorded, and its write is on the way
(R307, R341). -/
def State.posted (s : State) (who : Initiator) (k a p : Nat) : State :=
  ((s.answer .none).decision 1 ([1, k, a] ++ leBytes 2 p)).sent (dieOf k) (chanOffset k) who

theorem State.sent_eq (s : State) (g offset : Nat) (who : Initiator) (bad : Bool) :
    s.sent g offset who bad = { s with ferry := (s.sent g offset who bad).ferry } := by
  unfold State.sent
  split <;> rfl

theorem State.posted_eq (s : State) (who : Initiator) (k a p : Nat) : s.posted who k a p = { s with
    regs := (s.posted who k a p).regs, resp := (s.posted who k a p).resp, braid := (s.posted who k a p).braid,
    ferry := (s.posted who k a p).ferry } := by
  unfold State.posted
  rw [State.sent_eq, State.decision_eq]

theorem State.posted_regs (s : State) (who : Initiator) (k a p : Nat) :
    (s.posted who k a p).regs = ((s.answer .none).decision 1 ([1, k, a] ++ leBytes 2 p)).regs := by
  unfold State.posted
  rw [State.sent_eq]

theorem State.posted_chan (s : State) (who : Initiator) (k a p : Nat) : (s.posted who k a p).chan = s.chan := by
  rw [State.posted_eq]

theorem State.posted_changesOnly (s : State) (who : Initiator) (k a p : Nat) :
    changesOnly s (s.posted who k a p) mirrorFields :=
  changesOnly_regs (State.decision_changesOnly (s.answer .none) 1 _) (s.posted_regs who k a p)

@[simp] theorem State.rd_posted (s : State) (who : Initiator) (k a p : Nat) {f : Fld} (i : Nat)
    (hf : f ∉ mirrorFields.map Prod.fst) : (s.posted who k a p).rd f i = s.rd f i :=
  s.posted_changesOnly who k a p f i fun h => hf (List.mem_map_of_mem (f := Prod.fst) h)

theorem State.cmdRefusal_posted (s : State) (who : Initiator) (k a p a' p' src : Nat) :
    (s.posted who k a p).cmdRefusal k a' p' src = s.cmdRefusal k a' p' src := by
  simp [State.cmdRefusal, State.isFollow, State.wouldTurnOn, State.overBudget, State.rdI, mirrorFields]

/-! ## Floodgate stays still without a fault (R174) -/

/-- Without a source event no entry fires. -/
theorem State.fireAll_nil (s : State) : s.fireAll [] = s := by
  simp [State.fireAll, State.fire]

/-- An operation after which every channel shows its old STATE, or one below FAULT, presents no event to Floodgate. -/
theorem State.watched_of_no_fault {f : State → State}
    (h : ∀ j, (f s).rd .SL_STAT_STATE j = s.rd .SL_STAT_STATE j ∨ (f s).rd .SL_STAT_STATE j < 5) : s.watched f = f s := by
  have hnone : faultEvents s (f s) = [] := by
    simp only [faultEvents, List.map_eq_nil_iff, List.filter_eq_nil_iff]
    intro j _
    rcases h j with hj | hj
    · simp [hj]
    · simp only [Bool.and_eq_true, Bool.or_eq_true, beq_iff_eq]
      rintro ⟨hfault, -⟩
      omega
  rw [State.watched, hnone, State.fireAll_nil]

/-! ## A command at the die (R136 to R138) -/

/-- A command of an owner to a die in reach is applied there, and Floodgate watches (R136, R174). -/
theorem State.chanCmd_eq_watched (hreach : s.dieReach (dieOf k) = true) (hown : owns (s.worldOf who) (s.chanWorld k) = true) :
    (s.answer .none).chanCmd who k a p src = (s.posted who k a p).watched (·.applyCmd k a p src) := by
  have hreach' : ((s.answer .none).decision 1 ([1, k, a] ++ leBytes 2 p)).dieReach (dieOf k) = true := by
    rw [State.decision_eq]
    exact hreach
  have hown' : owns ((s.posted who k a p).worldOf who) ((s.posted who k a p).chanWorld k) = true := by
    simpa [State.worldOf, State.chanWorld, mirrorFields] using hown
  simp only [State.chanCmd, State.toDie, hreach', if_true]
  exact if_neg (by simpa [State.posted] using hown')

/-- A command of R137 to channel `k`, with the ACTION and the PARAM that it writes, by a master that runs. -/
theorem exec_chanCmd {c : Instr} {d : Nat} (hc : (c, a, d) ∈ [(Instr.channelOff who k, 0, 0), (.channelOn who k, 1, 0),
    (.channelOnHard who k, 2, 0), (.channelPwm who k d, 3, d)]) (hk : k < 32) (hr : s.masterRuns who = true) :
    exec c s = .next ((s.answer .none).chanCmd who k a d 0) := by
  have hmod : k % 32 = k := Nat.mod_eq_of_lt hk
  simp only [List.mem_cons, Prod.mk.injEq, List.not_mem_nil, or_false] at hc
  rcases hc with ⟨rfl, rfl, rfl⟩ | ⟨rfl, rfl, rfl⟩ | ⟨rfl, rfl, rfl⟩ | ⟨rfl, rfl, -⟩
  · simp only [exec, execChannelOff, State.asMaster_runs hr, hmod]
  · simp only [exec, execChannelOn, State.asMaster_runs hr, hmod]
  · simp only [exec, execChannelOnHard, State.asMaster_runs hr, hmod]
  · simp only [exec, execChannelPwm, State.asMaster_runs hr, hmod]

/-- A refused command leaves every channel (R138). -/
theorem State.refuseCmd_eq (s : State) (k w : Nat) : s.refuseCmd k w = { s with regs := (s.refuseCmd k w).regs } := by
  unfold State.refuseCmd State.when
  split <;> rfl

theorem State.refuseCmd_changesOnly (s : State) (k w : Nat) : changesOnly s (s.refuseCmd k w)
    [(.SL_STAT_REFUSED, k), (.SL_STAT_WHY, k), (.SL_DIE_STAT_BUDGET, dieOf k)] := by
  have h := changesOnly_wr (changesOnly_wr (changesOnly_refl s [(.SL_STAT_REFUSED, k), (.SL_STAT_WHY, k),
    (.SL_DIE_STAT_BUDGET, dieOf k)]) (f := .SL_STAT_REFUSED) 1 (i := k) (by simp)) (f := .SL_STAT_WHY) w (i := k) (by simp)
  unfold State.refuseCmd State.when
  split
  · exact changesOnly_wr h _ (by simp)
  · exact h

theorem State.rd_refuseCmd_refused (s : State) (k w : Nat) : (s.refuseCmd k w).rd .SL_STAT_REFUSED k = 1 := by
  unfold State.refuseCmd State.when
  split <;> simp

theorem State.rd_refuseCmd_why (s : State) (hw : w < 8) : (s.refuseCmd k w).rd .SL_STAT_WHY k = w := by
  unfold State.refuseCmd State.when
  split <;> simp [Nat.mod_eq_of_lt hw]

/-- A command that the die refuses ends there: no channel enters FAULT, so Floodgate does nothing (R138). -/
theorem State.chanCmd_of_refused (hreach : s.dieReach (dieOf k) = true) (hown : owns (s.worldOf who) (s.chanWorld k) = true)
    (hw : s.cmdRefusal k a p src = w) (hne : w ≠ 0) :
    (s.answer .none).chanCmd who k a p src = (s.posted who k a p).refuseCmd k w := by
  have happly : (s.posted who k a p).applyCmd k a p src = (s.posted who k a p).refuseCmd k w := by
    simp only [State.applyCmd, State.cmdRefusal_posted, hw]
    exact if_pos hne
  rw [State.chanCmd_eq_watched hreach hown, State.watched_of_no_fault, happly]
  intro j
  rw [happly]
  exact .inl (State.refuseCmd_changesOnly _ k w _ j (by simp))

/-! ## Turn-off (R141, R144, R163) -/

/-- The opening of a conducting switch changes CLAMP alone, to a free value (R144). -/
theorem State.clampStart_eq (s : State) (k : Nat) :
    s.clampStart k = { s with regs := (s.clampStart k).regs, free := (s.clampStart k).free } := by
  unfold State.clampStart
  split <;> rfl

theorem State.clampStart_chan (s : State) (k : Nat) : (s.clampStart k).chan = s.chan := by
  rw [State.clampStart_eq]

theorem State.clampStart_changesOnly (s : State) (k : Nat) : changesOnly s (s.clampStart k) [(.SL_PROT_STAT_CLAMP, k)] := by
  unfold State.clampStart
  split
  · exact changesOnly_wr (changesOnly_regs (changesOnly_refl s _) rfl) _ (List.mem_singleton_self _)
  · exact changesOnly_refl s _

@[simp] theorem State.rd_clampStart (s : State) (k : Nat) {f : Fld} (i : Nat) (hf : f ≠ .SL_PROT_STAT_CLAMP) :
    (s.clampStart k).rd f i = s.rd f i :=
  s.clampStart_changesOnly k f i (by simp [hf])

/-- A channel once its switch has turned off (R141, R144). -/
def Chan.opened (c : Chan) : Chan :=
  { c with cond := false, ramping := false, nextDuty := none, inrPend := false, rev := false }

theorem State.turnOff_chan (s : State) (k st : Nat) : (s.turnOff k st).chan = (s.setCh k (s.ch k).opened).chan := by
  show NMap.put {} (s.clampStart k).chan k ((s.clampStart k).ch k).opened = _
  rw [State.ch_of_chan (s.clampStart_chan k), s.clampStart_chan k]

theorem State.turnOff_eq (s : State) (k st : Nat) : s.turnOff k st =
    { s with regs := (s.turnOff k st).regs, chan := (s.turnOff k st).chan, free := (s.turnOff k st).free } := by
  unfold State.turnOff
  rw [State.clampStart_eq]
  rfl

theorem State.turnOff_changesOnly (s : State) (k st : Nat) : changesOnly s (s.turnOff k st)
    [(.SL_PROT_STAT_CLAMP, k), (.SL_STAT_INRUSH, k), (.SL_STAT_LIMIT, k), (.SL_STAT_STATE, k)] := by
  have h := changesOnly_mono (s.clampStart_changesOnly k) (vs := [(.SL_PROT_STAT_CLAMP, k), (.SL_STAT_INRUSH, k),
    (.SL_STAT_LIMIT, k), (.SL_STAT_STATE, k)]) (by simp)
  exact changesOnly_wr (changesOnly_wr (changesOnly_wr (changesOnly_regs h rfl) _ (by simp)) _ (by simp)) _ (by simp)

/-- A channel without a fault shows the state that the turn-off gives it (R163). -/
theorem State.rd_turnOff_state (hl : s.flag .SL_PROT_STAT_SPLOCK k = false) (hc : s.rd .SL_PROT_STAT_CAUSE k = 0)
    (hst : st < 8) : (s.turnOff k st).rd .SL_STAT_STATE k = st := by
  have hl' : s.rd .SL_PROT_STAT_SPLOCK k = 0 := by simpa using hl
  simp [State.turnOff, State.offState, hl', hc, Nat.mod_eq_of_lt hst]

/-! ## O16: a refused command -/

/-- Settles O16: the refusal writes REFUSED, WHY and BUDGET alone, and a unit that is not active sends no record of its decision. -/
theorem refusedChannelCommandChangesNothing : Obligations.RefusedChannelCommandChangesNothing := by
  unfold Obligations.RefusedChannelCommandChangesNothing
  intro s who k a d w c hk hc hreach hown hidle hw hne hlt hr
  have hregs : (s.posted who k a d).regs = s.regs :=
    (s.posted_regs who k a d).trans (State.decision_regs_of_not_active (s := s.answer .none) hidle 1 _)
  refine ⟨_, (exec_chanCmd hc hk hr).trans (congrArg _ (State.chanCmd_of_refused hreach hown hw hne)),
    State.rd_refuseCmd_refused .., State.rd_refuseCmd_why _ hlt, ?_, ?_, ?_⟩
  · refine State.ch_of_chan ?_ k
    rw [State.refuseCmd_eq, State.posted_eq]
  · exact changesOnly_trans (changesOnly_regs (changesOnly_refl s _) hregs) (State.refuseCmd_changesOnly _ k w)
  · rw [State.refuseCmd_eq, State.posted_eq]

/-! ## O14: the off-command -/

/-- The commanded state of a channel is off, and nothing of it waits any more (R137). -/
def State.commandedOff (s : State) (k : Nat) : State :=
  ((s.setCh k { s.ch k with cmdOn := false, retryDue := false }).clrF .SL_PROT_STAT_RETRY_PEND k).clrF .SL_PROT_STAT_UVOFF k

/-- An off-command by a master that the die takes, to a channel in RAMP, ON or PWM: a turn-off, and SRC names the command. -/
theorem State.applyCmd_off (hw : s.cmdRefusal k 0 0 0 = 0) (hlo : 1 ≤ s.rd .SL_STAT_STATE k) (hhi : s.rd .SL_STAT_STATE k ≤ 3) :
    s.applyCmd k 0 0 0 = (((s.commandedOff k).turnOff k 0).wr .SL_STAT_SRC 0 k).clrF .SL_PROT_STAT_FGON k := by
  have hon : s.rd .SL_STAT_STATE k = 1 ∨ s.rd .SL_STAT_STATE k = 2 ∨ s.rd .SL_STAT_STATE k = 3 := by omega
  have hact : s.actOn k 0 0 = (s.commandedOff k).turnOff k 0 := by
    unfold State.actOn State.commandedOff
    rw [if_pos rfl, if_pos (by simpa [or_assoc] using hon)]
  simp only [State.applyCmd, hw, hact, ne_eq, not_true_eq_false, if_false, Nat.reduceBEq, Bool.false_and]
  rfl

/-- The fields of a channel that an off-command changes. -/
def offFields (k : Nat) : List (Fld × Nat) :=
  [(.SL_STAT_STATE, k), (.SL_STAT_SRC, k), (.SL_STAT_INRUSH, k), (.SL_STAT_LIMIT, k), (.SL_PROT_STAT_RETRY_PEND, k),
    (.SL_PROT_STAT_UVOFF, k), (.SL_PROT_STAT_FGON, k), (.SL_PROT_STAT_CLAMP, k)]

section Off
variable (hw : s.cmdRefusal k 0 0 0 = 0) (hlo : 1 ≤ s.rd .SL_STAT_STATE k) (hhi : s.rd .SL_STAT_STATE k ≤ 3)
include hw hlo hhi

theorem State.applyCmd_off_changesOnly : changesOnly s (s.applyCmd k 0 0 0) (offFields k) := by
  rw [State.applyCmd_off hw hlo hhi]
  have hoff : changesOnly s (s.commandedOff k) (offFields k) :=
    changesOnly_wr (changesOnly_wr (changesOnly_regs (changesOnly_refl s _) rfl) _ (by simp [offFields])) _ (by simp [offFields])
  have hturn : changesOnly (s.commandedOff k) ((s.commandedOff k).turnOff k 0) (offFields k) :=
    changesOnly_mono (State.turnOff_changesOnly _ k 0) (by simp [offFields])
  exact changesOnly_wr (changesOnly_wr (changesOnly_trans hoff hturn) _ (by simp [offFields])) _ (by simp [offFields])

theorem State.applyCmd_off_chan : (s.applyCmd k 0 0 0).chan =
    ((s.commandedOff k).setCh k ({ s.ch k with cmdOn := false, retryDue := false } : Chan).opened).chan := by
  rw [State.applyCmd_off hw hlo hhi, State.wr_chan, State.wr_chan, State.turnOff_chan]
  congr 3
  exact State.ch_setCh_same ..

theorem State.applyCmd_off_eq : s.applyCmd k 0 0 0 = { s with
    regs := (s.applyCmd k 0 0 0).regs, chan := (s.applyCmd k 0 0 0).chan, free := (s.applyCmd k 0 0 0).free } := by
  have hturn := State.turnOff_eq (s.commandedOff k) k 0
  rw [State.applyCmd_off hw hlo hhi]
  generalize (s.commandedOff k).turnOff k 0 = t at hturn
  rw [hturn]
  rfl

theorem State.rd_applyCmd_off_state (hl : s.flag .SL_PROT_STAT_SPLOCK k = false) (hc : s.rd .SL_PROT_STAT_CAUSE k = 0) :
    (s.applyCmd k 0 0 0).rd .SL_STAT_STATE k = 0 := by
  rw [State.applyCmd_off hw hlo hhi]
  simp only [State.rd_wr_field, ne_eq, reduceCtorEq, not_false_eq_true]
  refine State.rd_turnOff_state ?_ ?_ (by decide)
  · simpa [State.commandedOff] using hl
  · simpa [State.commandedOff] using hc

theorem State.rd_applyCmd_off_src : (s.applyCmd k 0 0 0).rd .SL_STAT_SRC k = 0 := by
  rw [State.applyCmd_off hw hlo hhi]
  simp

theorem State.ch_applyCmd_off_same :
    (s.applyCmd k 0 0 0).ch k = ({ s.ch k with cmdOn := false, retryDue := false } : Chan).opened :=
  (State.ch_of_chan (State.applyCmd_off_chan hw hlo hhi) k).trans (State.ch_setCh_same ..)

theorem State.ch_applyCmd_off_ne (hj : j ≠ k) : (s.applyCmd k 0 0 0).ch j = s.ch j :=
  calc (s.applyCmd k 0 0 0).ch j
    _ = (s.commandedOff k).ch j := (State.ch_of_chan (State.applyCmd_off_chan hw hlo hhi) j).trans (State.ch_setCh_ne _ _ hj)
    _ = s.ch j := State.ch_setCh_ne s _ hj

end Off

/-- Settles O14: the off-command of a channel without a fault is a turn-off, and no channel enters FAULT, so Floodgate stays still. -/
theorem channelOffTurnsOff : Obligations.ChannelOffTurnsOff := by
  unfold Obligations.ChannelOffTurnsOff
  intro s who k hk hreach hown hw hlo hhi hcause hlock hr
  obtain ⟨u, hu⟩ : ∃ u, u = s.posted who k 0 0 := ⟨_, rfl⟩
  have hrd {f : Fld} (hf : f ∉ mirrorFields.map Prod.fst) : u.rd f k = s.rd f k := hu ▸ State.rd_posted s who k 0 0 k hf
  have hw' : u.cmdRefusal k 0 0 0 = 0 := hu ▸ (State.cmdRefusal_posted ..).trans hw
  have hlo' : 1 ≤ u.rd .SL_STAT_STATE k := by rwa [hrd (by decide)]
  have hhi' : u.rd .SL_STAT_STATE k ≤ 3 := by rwa [hrd (by decide)]
  have hlock' : u.flag .SL_PROT_STAT_SPLOCK k = false := by rwa [State.flag, hrd (by decide)]
  have hcause' : u.rd .SL_PROT_STAT_CAUSE k = 0 := by rwa [hrd (by decide)]
  have hstate := State.rd_applyCmd_off_state hw' hlo' hhi' hlock' hcause'
  have hch := State.ch_applyCmd_off_same hw' hlo' hhi'
  have hframe := State.applyCmd_off_changesOnly hw' hlo' hhi'
  have hcmd : (s.answer .none).chanCmd who k 0 0 0 = u.applyCmd k 0 0 0 := by
    rw [State.chanCmd_eq_watched hreach hown, ← hu, State.watched_of_no_fault]
    intro j
    by_cases hj : j = k
    · exact .inr (by rw [hj, hstate]; decide)
    · exact .inl (hframe _ j (by simp [offFields, hj]))
  refine ⟨_, (exec_chanCmd (List.mem_cons_self ..) (d := 0) hk hr).trans (congrArg _ hcmd), hstate, ?_, ?_,
    State.rd_applyCmd_off_src hw' hlo' hhi', ?_, ?_, ?_⟩
  · rw [hch]; rfl
  · rw [State.conducts, hch]; rfl
  · intro j _
    by_cases hj : j = k
    · exact .inl hj
    · exact .inr ((State.ch_applyCmd_off_ne hw' hlo' hhi' hj).trans (State.ch_of_chan (hu ▸ s.posted_chan who k 0 0) j))
  · refine changesOnly_trans (changesOnly_mono (hu ▸ s.posted_changesOnly who k 0 0) ?_)
      (changesOnly_mono hframe ?_)
    · simp [mirrorFields]
    · simp [offFields]
  · rw [State.applyCmd_off_eq hw' hlo' hhi', hu, State.posted_eq]

/-! ## O17: the end of a ramp, the end of a window, the edges of PWM -/

/-- A ramp ends where one is on, or where conduction that has resumed still shows RAMP (R140, R151). -/
theorem exec_rampComplete (hk : k < 32)
    (h : (s.ch (s.lead k)).ramping = true ∨ s.conducts (s.lead k) = true) (hst : s.rd .SL_STAT_STATE (s.lead k) = 1) :
    exec (.rampComplete k) s = .next ((s.setCh (s.lead k) { s.ch (s.lead k) with ramping := false }).wr .SL_STAT_STATE 2 (s.lead k)) := by
  have hends : ((s.ch (s.lead k)).ramping || (s.conducts (s.lead k) && decide (s.rd .SL_STAT_STATE (s.lead k) = 1))) = true := by
    simpa [hst] using h
  simp only [exec, execRampComplete, Nat.mod_eq_of_lt hk]
  rw [if_pos hends, if_pos hst]

/-- What the end of a ramp shows: STATE is ON, and the ramp of the channel is over (R140). -/
theorem rampComplete_result (hk : k < 32)
    (h : (s.ch (s.lead k)).ramping = true ∨ s.conducts (s.lead k) = true) (hst : s.rd .SL_STAT_STATE (s.lead k) = 1) :
    ∃ t, exec (.rampComplete k) s = .next t ∧ t.rd .SL_STAT_STATE (s.lead k) = 2 ∧ (t.ch (s.lead k)).ramping = false ∧
      changesOnly s t [(.SL_STAT_STATE, s.lead k)] ∧ t = { s with regs := t.regs, chan := t.chan } :=
  ⟨_, exec_rampComplete hk h hst, State.rd_wr_same .., congrArg Chan.ramping (State.ch_setCh_same ..),
    changesOnly_wr (changesOnly_regs (changesOnly_refl s _) rfl) 2 (List.mem_singleton_self _), rfl⟩

/-- A window that no dip pauses closes (R141). -/
theorem exec_inrushWindowEnd (hk : k < 32) (hw : s.flag .SL_STAT_INRUSH (s.lead k) = true)
    (hd : s.flag .SL_UV_STAT_DIP (dieOf (s.lead k)) = false) :
    exec (.inrushWindowEnd k) s = .next (s.clrF .SL_STAT_INRUSH (s.lead k)) := by
  simp only [exec, execInrushWindowEnd, Nat.mod_eq_of_lt hk, hw, hd]
  rfl

/-- The channel with a new duty, at the start of a PWM period of frequency `f` (R142). -/
def Chan.periodStart (c : Chan) (d f : Nat) : Chan :=
  { c with duty := d, nextDuty := none, cond := pwmOn d f, inrPend := c.inrPend && !pwmOn d f }

/-- A period start gives the channel its new duty; beside the channel only registers change (R142). -/
theorem exec_pwmEdge_rise {d : Nat} (hk : k < 32) (hst : s.rd .SL_STAT_STATE (s.lead k) = 3)
    (hd : (s.ch (s.lead k)).nextDuty = some d) : ∃ t, exec (.pwmEdge k true) s = .next t ∧
      t.ch (s.lead k) = (s.ch (s.lead k)).periodStart d (s.rd .SL_PWMF (s.lead k)) ∧
      t = { s with regs := t.regs, chan := t.chan } := by
  have hch := s.ch_setCh_same (s.lead k) ((s.ch (s.lead k)).periodStart d (s.rd .SL_PWMF (s.lead k)))
  simp only [exec, execPwmEdge, Nat.mod_eq_of_lt hk, hst, hd, Option.getD_some, ne_eq, not_true_eq_false, if_false, if_true,
    State.when]
  split <;> split <;> exact ⟨_, rfl, hch, rfl⟩

/-- The off edge of a channel that Spillway has not locked opens the switch (R142, R173). -/
theorem exec_pwmEdge_off (hk : k < 32) (hst : s.rd .SL_STAT_STATE (s.lead k) = 3)
    (hoff : pwmOff (s.ch (s.lead k)).duty (s.rd .SL_PWMF (s.lead k)) = true)
    (hl : s.flag .SL_PROT_STAT_SPLOCK (s.lead k) = false) : exec (.pwmEdge k false) s =
      .next ((s.clampStart (s.lead k)).setCh (s.lead k) { s.ch (s.lead k) with cond := false, ramping := false }) := by
  simp only [exec, execPwmEdge, Nat.mod_eq_of_lt hk, hst, hoff, hl]
  rfl

/-- Settles O17: each event acts on the channel that acts for `k` alone. -/
theorem rampWindowAndPwmEdges : Obligations.RampWindowAndPwmEdges := by
  unfold Obligations.RampWindowAndPwmEdges
  refine ⟨fun s k hk hr hst => rampComplete_result hk (.inl hr) hst, fun s k hk hc hst => rampComplete_result hk (.inr hc) hst,
    fun s k hk hw hd => ⟨_, exec_inrushWindowEnd hk hw hd, State.rd_wr_same .., changesOnly_wr_self, rfl⟩, ?_, ?_⟩
  · intro s k d hk hst hd
    obtain ⟨t, ht, hch, hframe⟩ := exec_pwmEdge_rise hk hst hd
    refine ⟨t, ht, ?_, ?_, ?_, hframe⟩ <;> rw [hch] <;> rfl
  · intro s k hk hst hoff hl
    refine ⟨_, exec_pwmEdge_off hk hst hoff hl, congrArg Chan.cond (State.ch_setCh_same ..), ?_, ?_, ?_⟩
    · simpa using hst
    · exact changesOnly_regs (s.clampStart_changesOnly (s.lead k)) rfl
    · rw [State.clampStart_eq]

/-! ## O18: open load, reverse current, the limiter -/

/-- A flag set with the interrupt of its die: it reads 1, and nothing else changes but the raised sources. -/
theorem flag_set_result {f : Fld} (g i : Nat) (w : World) (hf : (Fld.info f).width = 1) :
    ((s.setF f i).slIrq g w).flag f i = true ∧ changesOnly s ((s.setF f i).slIrq g w) [(f, i)] ∧
      (s.setF f i).slIrq g w = { s with regs := ((s.setF f i).slIrq g w).regs, irqs := ((s.setF f i).slIrq g w).irqs } := by
  refine ⟨by simp [State.flag, hf], changesOnly_regs changesOnly_wr_self (State.slIrq_regs ..), ?_⟩
  rw [State.slIrq_eq]
  rfl

/-- An off-state pin from 3.5 V to below 8.0 V shows an open load (R149). -/
theorem openLoadOff_open {mv : Nat} (hk : k < 32) (hol : s.flag .SL_CFG_OLOFF k = true) (hst : s.rd .SL_STAT_STATE k = 0)
    (hlo : 3500 ≤ mv) (hhi : mv < 8000) : ∃ t, exec (.openLoadOff k mv) s = .next t ∧ t.flag .SL_STAT_OPENOFF k = true ∧
      changesOnly s t [(.SL_STAT_OPENOFF, k)] ∧ t = { s with regs := t.regs, irqs := t.irqs } := by
  have hnot : ¬ mv < 2000 := by omega
  by_cases hset : s.flag .SL_STAT_OPENOFF k = true
  · refine ⟨s, ?_, hset, changesOnly_refl s _, rfl⟩
    simp [exec, execOpenLoadOff, Nat.mod_eq_of_lt hk, hol, hst, hnot, hset]
  · refine ⟨_, ?_, flag_set_result (dieOf k) k (s.chanWorld k) rfl⟩
    simp [exec, execOpenLoadOff, Nat.mod_eq_of_lt hk, hol, hst, hnot, hset, hlo, hhi]

/-- Between the thresholds and from 8.0 V on the pin tells nothing (R149). -/
theorem openLoadOff_idle {mv : Nat} (hlo : 2000 ≤ mv) (h : mv < 3500 ∨ 8000 ≤ mv) :
    exec (.openLoadOff k mv) s = .next s := by
  have hnot : ¬ mv < 2000 := by omega
  have hout : ¬ (3500 ≤ mv ∧ mv < 8000) := by omega
  simp [exec, execOpenLoadOff, hnot, hout]

/-- A pin below 2.0 V shows a load (R149). -/
theorem exec_openLoadOff_low {mv : Nat} (hk : k < 32) (hol : s.flag .SL_CFG_OLOFF k = true) (hst : s.rd .SL_STAT_STATE k = 0)
    (hmv : mv < 2000) : exec (.openLoadOff k mv) s = .next (s.clrF .SL_STAT_OPENOFF k) := by
  simp [exec, execOpenLoadOff, Nat.mod_eq_of_lt hk, hol, hst, hmv]

/-- A pin above 8.0 V shows an external voltage; the interrupt stays out where the channel is joined (R149). -/
theorem extvChange_high {mv : Nat} (hk : k < 32) (hol : s.flag .SL_CFG_OLOFF k = true) (hst : s.rd .SL_STAT_STATE k = 0)
    (hmv : 8000 < mv) : ∃ t, exec (.extvChange k mv) s = .next t ∧ t.flag .SL_STAT_EXTV k = true ∧
      changesOnly s t [(.SL_STAT_EXTV, k)] ∧ t = { s with regs := t.regs, irqs := t.irqs } := by
  have hnot : ¬ mv < 8000 := by omega
  by_cases hset : s.flag .SL_STAT_EXTV k = true
  · refine ⟨s, ?_, hset, changesOnly_refl s _, rfl⟩
    simp [exec, execExtvChange, Nat.mod_eq_of_lt hk, hnot, hset]
  by_cases hjoined : s.flag .SL_CFG_JOINED k = true
  · refine ⟨s.setF .SL_STAT_EXTV k, ?_, by simp, changesOnly_wr_self, rfl⟩
    simp [exec, execExtvChange, Nat.mod_eq_of_lt hk, hol, hst, hmv, hnot, hset, hjoined]
  · refine ⟨_, ?_, flag_set_result (dieOf k) k (s.chanWorld k) rfl⟩
    simp [exec, execExtvChange, Nat.mod_eq_of_lt hk, hol, hst, hmv, hnot, hset, hjoined]

/-- A pin below 8.0 V takes the external voltage back (R149). -/
theorem exec_extvChange_low {mv : Nat} (hk : k < 32) (hmv : mv < 8000) :
    exec (.extvChange k mv) s = .next (s.clrF .SL_STAT_EXTV k) := by
  simp only [exec, execExtvChange, Nat.mod_eq_of_lt hk, if_pos hmv]

/-- The count of low values has reached SL_OLTIME: the load is open (R150). -/
theorem openLoadOn_open (hk : k < 32) (hol : s.flag .SL_CFG_OLON (s.lead k) = true)
    (hn : s.rd .SL_OLTIME (s.lead k) ≤ (s.ch (s.lead k)).olCount) : ∃ t, exec (.openLoadOn k) s = .next t ∧
      t.flag .SL_STAT_OPENON (s.lead k) = true ∧ changesOnly s t [(.SL_STAT_OPENON, s.lead k)] ∧
      t = { s with regs := t.regs, irqs := t.irqs } := by
  by_cases hset : s.flag .SL_STAT_OPENON (s.lead k) = true
  · refine ⟨s, ?_, hset, changesOnly_refl s _, rfl⟩
    simp [exec, execOpenLoadOn, Nat.mod_eq_of_lt hk, hset]
  · refine ⟨_, ?_, flag_set_result (dieOf (s.lead k)) (s.lead k) (s.chanWorld (s.lead k)) rfl⟩
    simp [exec, execOpenLoadOn, Nat.mod_eq_of_lt hk, hol, hn, hset]

/-- Reverse current stops the stage that acts for `k`; STATE stays (R151). -/
theorem reverseBlock_result (hk : k < 32) (hc : s.conducts (s.lead k) = true) : ∃ t, exec (.reverseBlock k) s = .next t ∧
    t.rd .SL_STAT_REV k = 1 ∧ t.conducts (s.lead k) = false ∧ changesOnly s t [(.SL_STAT_REV, k)] ∧
    t = { s with regs := t.regs, chan := t.chan, irqs := t.irqs } := by
  let u := s.setCh (s.lead k) { s.ch (s.lead k) with rev := true }
  have hexec : exec (.reverseBlock k) s = .next ((u.setF .SL_STAT_REV k).slIrq (dieOf k) (s.chanWorld k)) := by
    simp only [exec, execReverseBlock, Nat.mod_eq_of_lt hk, hc, if_true]
    rfl
  have hch : ((u.setF .SL_STAT_REV k).slIrq (dieOf k) (s.chanWorld k)).ch (s.lead k) = { s.ch (s.lead k) with rev := true } :=
    (State.ch_of_chan (State.slIrq_chan ..) _).trans (s.ch_setCh_same ..)
  refine ⟨_, hexec, by simp, ?_, ?_, ?_⟩
  · rw [State.conducts, hch]
    exact Bool.and_false _
  · exact changesOnly_regs (changesOnly_wr (changesOnly_regs (changesOnly_refl s _) rfl) 1 (List.mem_singleton_self _))
      (State.slIrq_regs ..)
  · rw [State.slIrq_eq]
    rfl

/-- Conduction resumes as in a hard turn-on: without a ramp (R151). -/
theorem exec_reverseResume (hk : k < 32) (hrev : (s.ch (s.lead k)).rev = true) : exec (.reverseResume k) s =
    .next (s.setCh (s.lead k) { s.ch (s.lead k) with rev := false, ramping := false }) := by
  simp only [exec, execReverseResume, Nat.mod_eq_of_lt hk, hrev, if_true]

/-- The limiter of a conducting channel engages (R479). -/
theorem exec_currentLimit_on (hk : k < 32) (hc : s.conducts (s.lead k) = true) :
    exec (.currentLimitEngage k true) s = .next (s.setF .SL_STAT_LIMIT (s.lead k)) := by
  simp only [exec, execCurrentLimitEngage, Nat.mod_eq_of_lt hk, hc, if_true]

/-- The limiter lets go (R479). -/
theorem exec_currentLimit_off (hk : k < 32) :
    exec (.currentLimitEngage k false) s = .next (s.clrF .SL_STAT_LIMIT (s.lead k)) := by
  simp only [exec, execCurrentLimitEngage, Nat.mod_eq_of_lt hk]
  rfl

/-- Settles O18, event by event. -/
theorem openLoadReverseAndLimiter : Obligations.OpenLoadReverseAndLimiter := by
  unfold Obligations.OpenLoadReverseAndLimiter
  refine ⟨fun s k mv => openLoadOff_open, fun s k mv _ => openLoadOff_idle, ?_, fun s k mv => extvChange_high, ?_,
    fun s k => openLoadOn_open, fun s k => reverseBlock_result, ?_, ?_, ?_⟩
  · intro s k mv hk hol hst hmv
    exact ⟨_, exec_openLoadOff_low hk hol hst hmv, State.rd_wr_same .., changesOnly_wr_self, rfl⟩
  · intro s k mv hk hmv
    exact ⟨_, exec_extvChange_low hk hmv, State.rd_wr_same .., changesOnly_wr_self, rfl⟩
  · intro s k hk hrev hc
    refine ⟨_, exec_reverseResume hk hrev, ?_, rfl⟩
    rw [State.conducts, State.ch_setCh_same]
    simpa using hc
  · intro s k hk hc
    exact ⟨_, exec_currentLimit_on hk hc, State.rd_wr_same .., changesOnly_wr_self, rfl⟩
  · intro s k hk
    exact ⟨_, exec_currentLimit_off hk, State.rd_wr_same .., changesOnly_wr_self, rfl⟩

/-! ## O58: an off-command that makes Floodgate act (R173, R174, R178) -/

/-- Channel 0 in PWM at duty 0, with SPLOCK set and the off-state not yet shown (R173), on a unit that holds the claim. Floodgate is
armed with one entry: where channel 0 enters FAULT or LOCKED (FG_SRC type 2), turn channel 0 on hard (FG_ACT action 2). -/
def lockedPwmState : State :=
  ((((((State.reset.wr .SL_STAT_STATE 3).setF .SL_PROT_STAT_SPLOCK).setF .BR_STAT_CLAIM).setF .FG_CTL_EN).wr .FG_SRC 2).wr
    .FG_MASK 1).wr .FG_ACT (2 ^ 31 + 2)

/-- Refutes O58 by its second clause. The off-command completes and the channel reads LOCKED (R173); that is a source event of
Floodgate (R174), whose on-action the die refuses in the same step (R173): WHY, 0 before the command, reads 3 (BLOCKED). No
hypothesis of the clause on CAUSE, SPLOCK or Floodgate leaves this out. -/
theorem not_admissionRefusesTurnOnOnly : ¬ Obligations.AdmissionRefusesTurnOnOnly := by
  unfold Obligations.AdmissionRefusesTurnOnOnly
  rintro ⟨-, hoff, -⟩
  have hruns : lockedPwmState.masterRuns ⟨1, .safety⟩ = true := by decide
  obtain ⟨t, ht, -, hwhy, -⟩ := hoff lockedPwmState ⟨1, .safety⟩ 0 (by decide) (by decide) (by decide) (by decide) (by decide)
    (by decide) hruns
  rw [exec_chanCmd (List.mem_cons_self ..) (d := 0) (by decide) hruns] at ht
  obtain rfl : (lockedPwmState.answer .none).chanCmd ⟨1, .safety⟩ 0 0 0 0 = t := by injection ht
  have hblocked : ((lockedPwmState.answer .none).chanCmd ⟨1, .safety⟩ 0 0 0 0).rd .SL_STAT_WHY 0 = 3 := by decide
  have hbefore : lockedPwmState.rd .SL_STAT_WHY 0 = 0 := by decide
  omega

end Sys2Proof.Machine
end

section
/-!
PROOFS of O28 (field outputs). What an output stage shows (ioRefresh), what the readback comparison may change (ioCompare) and what a
posted output command leaves stand as lemmas of their own; each clause of O28 is one command or event put together from them.
-/
namespace Sys2Proof.Machine

variable {s t u : State} {who : Initiator} {k w : Nat} {on : Bool}

/-! ## The table of field channels, and the interrupt of their die -/

theorem State.fio_of_io (h : t.io = s.io) (k : Nat) : t.fio k = s.fio k := by
  unfold State.fio
  rw [h]

@[simp] theorem State.fio_setIo_same (s : State) (k : Nat) (c : Io) : (s.setIo k c).fio k = c :=
  AMap.get_set_same id _ s.io k c

/-- The field I/O interrupt of a die changes the raised sources alone (R303). -/
theorem State.ioIrq_eq (s : State) (g : Nat) (w : World) : s.ioIrq g w = { s with irqs := (s.ioIrq g w).irqs } := by
  unfold State.ioIrq State.ioRaise State.raiseFor State.raise
  split
  · rfl
  · split <;> rfl

theorem State.ioIrq_regs (s : State) (g : Nat) (w : World) : (s.ioIrq g w).regs = s.regs := by
  rw [State.ioIrq_eq]

@[simp] theorem State.rd_ioIrq (s : State) (g : Nat) (w : World) (f : Fld) (i : Nat) : (s.ioIrq g w).rd f i = s.rd f i :=
  State.rd_of_regs (s.ioIrq_regs g w) f i

/-! ## The output stage (R200, R293) -/

/-- The stage of channel `k` is to conduct: commanded on, in a mode with an output, and not held off by the gate of R293. -/
def State.stageOn (s : State) (k : Nat) : Bool := (s.fio k).cmdOn && s.rd .IO_CFG_MODE k != 0 && !s.gated (ioDieOf k)

/-- The gate is a matter of the die and of two flags of its watchdog. -/
theorem State.gated_congr {g : Nat} (hdie : t.die = s.die)
    (hwd : ∀ f ∈ [Fld.SL_WD_STAT_ACT, .SL_WD_STAT_FAILSAFE], t.rd f g = s.rd f g) : t.gated g = s.gated g := by
  rw [State.gated, State.gated, State.flag, State.flag, hwd _ (by simp), hwd _ (by simp), State.di, hdie]

/-- DRIVE as given; LIMIT stays where the stage drives. -/
def State.showDrive (s : State) (k : Nat) (drive : Bool) : State :=
  (s.putF .IO_STAT_DRIVE drive k).putF .IO_STAT_LIMIT (drive && s.flag .IO_STAT_LIMIT k) k

/-- Where no junction is too hot for a stage that comes to conduct, DRIVE follows the stage and its overtemperature turn-off. -/
theorem State.ioRefresh_cool (h : (s.stageOn k && (s.fio k).hot && !s.flag .IO_STAT_OTP k) = false) :
    s.ioRefresh k = s.showDrive k (s.stageOn k && !s.flag .IO_STAT_OTP k) := by
  have h' := Bool.eq_false_iff.mp h
  exact congrArg (fun t : State => t.showDrive k (s.stageOn k && !t.flag .IO_STAT_OTP k)) (if_neg h')

@[simp] theorem State.rd_ioOverTemp_otp (s : State) (k : Nat) : (s.ioOverTemp k).rd .IO_STAT_OTP k = 1 := by
  simp [State.ioOverTemp]

/-- A stage that is to conduct with a hot junction turns off at once, with OTP, OTPEVT and a count. -/
theorem State.ioRefresh_hot (hon : s.stageOn k = true) (hhot : (s.fio k).hot = true) (hotp : s.flag .IO_STAT_OTP k = false) :
    s.ioRefresh k = (s.ioOverTemp k).showDrive k false := by
  have h : (s.stageOn k && (s.fio k).hot && !s.flag .IO_STAT_OTP k) = true := by rw [hon, hhot, hotp]; rfl
  have hturn : s.ioRefresh k = (s.ioOverTemp k).showDrive k (s.stageOn k && !(s.ioOverTemp k).flag .IO_STAT_OTP k) :=
    congrArg (fun t : State => t.showDrive k (s.stageOn k && !t.flag .IO_STAT_OTP k)) (if_pos h)
  rw [hturn, State.flag, State.rd_ioOverTemp_otp, hon]
  rfl

theorem State.showDrive_eq (s : State) (k : Nat) (drive : Bool) :
    s.showDrive k drive = { s with regs := (s.showDrive k drive).regs } := rfl

@[simp] theorem State.rd_showDrive_drive (s : State) (k : Nat) (drive : Bool) :
    (s.showDrive k drive).rd .IO_STAT_DRIVE k = b2n drive := by
  cases drive <;> simp [State.showDrive, b2n]

theorem State.showDrive_changesOnly (s : State) (k : Nat) (drive : Bool) :
    changesOnly s (s.showDrive k drive) [(.IO_STAT_DRIVE, k), (.IO_STAT_LIMIT, k)] :=
  changesOnly_wr (changesOnly_wr (changesOnly_refl s _) _ (by simp)) _ (by simp)

@[simp] theorem State.rd_showDrive (s : State) (k : Nat) (drive : Bool) {f : Fld} (i : Nat) (hd : f ≠ .IO_STAT_DRIVE)
    (hl : f ≠ .IO_STAT_LIMIT) : (s.showDrive k drive).rd f i = s.rd f i :=
  s.showDrive_changesOnly k drive f i (by simp [hd, hl])

theorem State.ioOverTemp_eq (s : State) (k : Nat) :
    s.ioOverTemp k = { s with regs := (s.ioOverTemp k).regs, irqs := (s.ioOverTemp k).irqs } := by
  obtain ⟨u, hu⟩ : ∃ u, u = ((s.setF .IO_STAT_OTP k).setF .IO_STAT_OTPEVT k).inc .IO_OTPCNT k := ⟨_, rfl⟩
  have hregs : u = { s with regs := u.regs } := by rw [hu]; rfl
  have hover : s.ioOverTemp k = u.ioIrq (ioDieOf k) (s.ioWorld k) := by rw [hu, State.ioOverTemp]
  rw [hover, State.ioIrq_eq, hregs]

theorem State.ioOverTemp_changesOnly (s : State) (k : Nat) :
    changesOnly s (s.ioOverTemp k) [(.IO_STAT_OTP, k), (.IO_STAT_OTPEVT, k), (.IO_OTPCNT, k)] :=
  changesOnly_regs (changesOnly_wr (changesOnly_wr (changesOnly_wr (changesOnly_refl s _) _ (by simp)) _ (by simp)) _ (by simp))
    (State.ioIrq_regs ..)

theorem State.ioRefresh_eq (s : State) (k : Nat) : s.ioRefresh k = { s with
    regs := (s.ioRefresh k).regs, irqs := (s.ioRefresh k).irqs } := by
  cases h : s.stageOn k && (s.fio k).hot && !s.flag .IO_STAT_OTP k with
  | false =>
    rw [State.ioRefresh_cool h, State.showDrive_eq]
  | true =>
    simp only [Bool.and_eq_true, Bool.not_eq_true'] at h
    obtain ⟨⟨hon, hhot⟩, hotp⟩ := h
    rw [State.ioRefresh_hot hon hhot hotp, State.showDrive_eq, State.ioOverTemp_eq]

theorem State.ioRefresh_io (s : State) (k : Nat) : (s.ioRefresh k).io = s.io := by
  rw [State.ioRefresh_eq]

/-! ## The readback comparison (R202) -/

/-- `t` is `s` with at most MISMATCH and LIMIT of channel `k`, interrupts and event log records changed. -/
def onlyCompares (s t : State) (k : Nat) : Prop :=
  changesOnly s t [(.IO_STAT_MISMATCH, k), (.IO_STAT_LIMIT, k)] ∧
    t = { s with regs := t.regs, irqs := t.irqs, eseq := t.eseq, elog := t.elog }

theorem onlyCompares_refl (s : State) (k : Nat) : onlyCompares s s k := ⟨changesOnly_refl s _, rfl⟩

theorem onlyCompares_trans (h : onlyCompares s t k) (h' : onlyCompares t u k) : onlyCompares s u k := by
  obtain ⟨hregs, heq⟩ := h
  obtain ⟨hregs', heq'⟩ := h'
  exact ⟨changesOnly_trans hregs hregs', heq'.trans (by rw [heq])⟩

theorem onlyCompares_ite {c : Prop} [Decidable c] {a b : State} (ha : onlyCompares s a k) (hb : onlyCompares s b k) :
    onlyCompares s (if c then a else b) k := by
  split <;> assumption

theorem State.ioIrq_onlyCompares (s : State) (g : Nat) (w : World) (k : Nat) : onlyCompares s (s.ioIrq g w) k := by
  refine ⟨changesOnly_regs (changesOnly_refl s _) (s.ioIrq_regs g w), ?_⟩
  rw [State.ioIrq_eq]

/-- MISMATCH sets, with its record and its interrupt. -/
def State.setMismatch (s : State) (k : Nat) : State :=
  ((s.setF .IO_STAT_MISMATCH k).log 0x06 0x01 Initiator.hw [k, b2n (s.fio k).cmdOn]).ioIrq (ioDieOf k) (s.ioWorld k)

theorem State.setMismatch_onlyCompares (s : State) (k : Nat) : onlyCompares s (s.setMismatch k) k := by
  have hlogged : onlyCompares s ((s.setF .IO_STAT_MISMATCH k).log 0x06 0x01 Initiator.hw [k, b2n (s.fio k).cmdOn]) k :=
    ⟨changesOnly_regs (changesOnly_wr (changesOnly_refl s _) 1 (List.mem_cons_self ..)) rfl, rfl⟩
  exact onlyCompares_trans hlogged (State.ioIrq_onlyCompares ..)

theorem State.ioLimit_onlyCompares (s : State) (k : Nat) (on : Bool) : onlyCompares s (s.ioLimit k on) k := by
  have hput : onlyCompares s (s.putF .IO_STAT_LIMIT on k) k := ⟨changesOnly_wr (changesOnly_refl s _) _ (by simp), rfl⟩
  unfold State.ioLimit State.when
  split
  · exact onlyCompares_trans hput (State.ioIrq_onlyCompares ..)
  · exact hput

theorem State.rd_ioLimit (s : State) (k : Nat) (on : Bool) {f : Fld} (i : Nat) (hf : f ≠ .IO_STAT_LIMIT) :
    (s.ioLimit k on).rd f i = s.rd f i := by
  unfold State.ioLimit State.when
  split <;> simp [hf]

theorem State.ioCompare_onlyCompares (s : State) (k : Nat) : onlyCompares s (s.ioCompare k) k := by
  have hclear : onlyCompares s ((s.clrF .IO_STAT_MISMATCH k).clrF .IO_STAT_LIMIT k) k :=
    ⟨changesOnly_wr (changesOnly_wr (changesOnly_refl s _) _ (by simp)) _ (by simp), rfl⟩
  have hset (c : Bool) : onlyCompares s (if c then s else s.setMismatch k) k :=
    onlyCompares_ite (onlyCompares_refl s k) (s.setMismatch_onlyCompares k)
  unfold State.ioCompare
  exact onlyCompares_ite (onlyCompares_refl s k)
    (onlyCompares_ite hclear (onlyCompares_trans (hset _) (State.ioLimit_onlyCompares ..)))

@[simp] theorem State.rd_ioCompare (s : State) (k : Nat) {f : Fld} (i : Nat) (hm : f ≠ .IO_STAT_MISMATCH)
    (hl : f ≠ .IO_STAT_LIMIT) : (s.ioCompare k).rd f i = s.rd f i :=
  (s.ioCompare_onlyCompares k).1 f i (by simp [hm, hl])

theorem State.ioCompare_io (s : State) (k : Nat) : (s.ioCompare k).io = s.io := by
  rw [(s.ioCompare_onlyCompares k).2]

/-- A level other than the commanded one, on a unit that drives the channel, sets MISMATCH. -/
theorem State.rd_ioCompare_mismatch (hmode : s.rd .IO_CFG_MODE k = 2) (hhold : (s.fio k).hold = false)
    (hact : s.flag .SL_WD_STAT_ACT (ioDieOf k) = true) (hlevel : s.flag .IO_STAT_LEVEL k = !(s.fio k).cmdOn)
    (hclear : s.flag .IO_STAT_MISMATCH k = false) : (s.ioCompare k).rd .IO_STAT_MISMATCH k = 1 := by
  obtain ⟨u, hu⟩ : ∃ u, u = s.setMismatch k := ⟨_, rfl⟩
  have hcmp : s.ioCompare k = u.ioLimit k ((u.fio k).cmdOn && u.flag .IO_STAT_DRIVE k) := by
    unfold State.ioCompare
    rw [if_neg (by simp [hmode, hhold, hact]), if_neg (by simp [hlevel]), hclear, hu]
    rfl
  rw [hcmp, State.rd_ioLimit _ _ _ _ (by decide)]
  simp [hu, State.setMismatch]

/-- A write of one bit of a field changes registers alone. -/
theorem State.putBit_eq (s : State) (f : Fld) (n : Nat) (b : Bool) (i : Nat) :
    s.putBit f n b i = { s with regs := (s.putBit f n b i).regs } := by
  unfold State.putBit
  dsimp only
  split <;> rfl

/-! ## An output command at the die (R201, R203, R204) -/

/-- The commanded state with OUT, IO_OUT and SRC, before the stage follows; a change of it holds the readback. -/
def State.ioCommanded (s : State) (k : Nat) (on : Bool) : State :=
  (((s.setIo k { s.fio k with cmdOn := on, hold := (s.fio k).hold || (s.fio k).cmdOn != on }).putF .IO_STAT_OUT on k).putBit .IO_OUT
    (k % 12) on (ioDieOf k)).wr .IO_STAT_SRC 0 k

theorem State.ioSet_eq (s : State) (k : Nat) (on : Bool) :
    s.ioSet k (b2n on) 0 = ((s.ioCommanded k on).ioRefresh k).ioCompare k := by
  cases on <;> rfl

theorem State.fio_ioCommanded (s : State) (k : Nat) (on : Bool) :
    (s.ioCommanded k on).fio k = { s.fio k with cmdOn := on, hold := (s.fio k).hold || (s.fio k).cmdOn != on } := by
  refine (State.fio_of_io ?_ k).trans (s.fio_setIo_same k _)
  simp [State.ioCommanded]

theorem State.rd_ioCommanded (s : State) (k : Nat) (on : Bool) {f : Fld} (i : Nat)
    (hf : f ∉ [Fld.IO_STAT_OUT, .IO_OUT, .IO_STAT_SRC]) : (s.ioCommanded k on).rd f i = s.rd f i := by
  simp only [List.mem_cons, List.not_mem_nil, or_false, not_or] at hf
  obtain ⟨hout, hio, hsrc⟩ := hf
  simp [State.ioCommanded, hout, hio, hsrc]

theorem State.ioCommanded_eq (s : State) (k : Nat) (on : Bool) :
    s.ioCommanded k on = { s with regs := (s.ioCommanded k on).regs, io := (s.ioCommanded k on).io } := by
  unfold State.ioCommanded
  rw [State.putBit_eq]
  rfl

/-- Whether the commanded stage conducts. -/
theorem State.stageOn_ioCommanded (s : State) (k : Nat) (on : Bool) :
    (s.ioCommanded k on).stageOn k = (on && s.rd .IO_CFG_MODE k != 0 && !s.gated (ioDieOf k)) := by
  have hgate : (s.ioCommanded k on).gated (ioDieOf k) = s.gated (ioDieOf k) := by
    refine State.gated_congr ?_ ?_
    · rw [State.ioCommanded_eq]
    · simp [State.rd_ioCommanded]
  rw [State.stageOn, State.fio_ioCommanded, State.rd_ioCommanded _ _ _ _ (by decide), hgate]

/-- A command that the die takes: the commanded state, OUT and SRC follow it, and the stage drives where it is commanded on and
neither the gate nor an overtemperature holds it. -/
theorem State.ioSet_result (hcool : on = true → (s.fio k).hot = false) :
    ((s.ioSet k (b2n on) 0).fio k).cmdOn = on ∧ (s.ioSet k (b2n on) 0).rd .IO_STAT_OUT k = b2n on ∧
      (s.ioSet k (b2n on) 0).rd .IO_STAT_SRC k = 0 ∧ (s.ioSet k (b2n on) 0).rd .IO_STAT_DRIVE k =
        b2n (on && s.rd .IO_CFG_MODE k != 0 && !s.gated (ioDieOf k) && !s.flag .IO_STAT_OTP k) := by
  obtain ⟨u, hu⟩ : ∃ u, u = s.ioCommanded k on := ⟨_, rfl⟩
  have hstage : u.stageOn k = (on && s.rd .IO_CFG_MODE k != 0 && !s.gated (ioDieOf k)) := hu ▸ s.stageOn_ioCommanded k on
  have hotp : u.flag .IO_STAT_OTP k = s.flag .IO_STAT_OTP k := by simp [hu, State.flag, State.rd_ioCommanded]
  have hnotHot : (u.stageOn k && (u.fio k).hot && !u.flag .IO_STAT_OTP k) = false := by
    cases on
    · simp [hstage]
    · simp [hu, State.fio_ioCommanded, hcool rfl]
  have hset : s.ioSet k (b2n on) 0 = (u.showDrive k (u.stageOn k && !u.flag .IO_STAT_OTP k)).ioCompare k := by
    rw [State.ioSet_eq, ← hu, State.ioRefresh_cool hnotHot]
  rw [hset]
  refine ⟨?_, ?_, ?_, ?_⟩
  · rw [State.fio_of_io (State.ioCompare_io ..)]
    exact congrArg Io.cmdOn (hu ▸ s.fio_ioCommanded k on)
  · cases on <;> simp [hu, State.ioCommanded, b2n]
  · simp [hu, State.ioCommanded]
  · simp [hstage, hotp]

theorem State.ioSet_frame (s : State) (k : Nat) (on : Bool) : s.ioSet k (b2n on) 0 = { s with
    regs := (s.ioSet k (b2n on) 0).regs, io := (s.ioSet k (b2n on) 0).io, irqs := (s.ioSet k (b2n on) 0).irqs,
    eseq := (s.ioSet k (b2n on) 0).eseq, elog := (s.ioSet k (b2n on) 0).elog } := by
  rw [State.ioSet_eq, (State.ioCompare_onlyCompares _ k).2, State.ioRefresh_eq, State.ioCommanded_eq]

/-- A refused command ends with REFUSED and WHY. -/
theorem State.ioApply_refused {a src : Nat} (hw : s.ioRefusal k a src = w) (hne : w ≠ 0) :
    s.ioApply k a src = (s.setF .IO_STAT_REFUSED k).wr .IO_STAT_WHY w k := by
  simp only [State.ioApply, hw]
  exact if_pos hne

theorem State.ioApply_taken {a src : Nat} (hw : s.ioRefusal k a src = 0) : s.ioApply k a src = s.ioSet k a src := by
  simp only [State.ioApply, hw]
  rfl

/-- A command that is not refused finds the channel in a mode with an output. -/
theorem State.mode_of_ioRefusal {a src : Nat} (hw : s.ioRefusal k a src = 0) : s.rd .IO_CFG_MODE k ≠ 0 := by
  intro hmode
  rw [State.ioRefusal, if_pos hmode] at hw
  omega

/-- The codes of a refusal fit WHY. -/
theorem State.ioRefusal_lt (s : State) (k a src : Nat) : s.ioRefusal k a src < 4 := by
  simp only [State.ioRefusal]
  split
  · omega
  split
  · omega
  split <;> omega

/-! ## An output command on its way (R201, R307, R341, R342) -/

/-- The state in which the die takes an output command: it returns nothing, its decision is recorded, and its write is on the
way. -/
def State.ioPosted (s : State) (who : Initiator) (k a : Nat) : State :=
  ((s.answer .none).decision 1 [2, k, a, 0, 0]).sent (ioDieOf k) (ioOffset k) who

theorem State.ioPosted_eq (s : State) (who : Initiator) (k a : Nat) : s.ioPosted who k a = { s with
    regs := (s.ioPosted who k a).regs, resp := (s.ioPosted who k a).resp, braid := (s.ioPosted who k a).braid,
    ferry := (s.ioPosted who k a).ferry } := by
  unfold State.ioPosted
  rw [State.sent_eq, State.decision_eq]

@[simp] theorem State.rd_ioPosted (s : State) (who : Initiator) (k a : Nat) {f : Fld} (i : Nat)
    (hf : f ∉ mirrorFields.map Prod.fst) : (s.ioPosted who k a).rd f i = s.rd f i := by
  have hsent : (s.ioPosted who k a).regs = ((s.answer .none).decision 1 [2, k, a, 0, 0]).regs := by
    unfold State.ioPosted
    rw [State.sent_eq]
  rw [State.rd_of_regs hsent]
  exact State.decision_changesOnly (s.answer .none) 1 _ f i fun h => hf (List.mem_map_of_mem (f := Prod.fst) h)

theorem State.ioRefusal_ioPosted (s : State) (who : Initiator) (k a a' src : Nat) :
    (s.ioPosted who k a).ioRefusal k a' src = s.ioRefusal k a' src := by
  simp [State.ioRefusal, State.flag, mirrorFields]

theorem State.gated_ioPosted (s : State) (who : Initiator) (k a g : Nat) : (s.ioPosted who k a).gated g = s.gated g := by
  refine State.gated_congr ?_ ?_
  · rw [State.ioPosted_eq]
  · simp [mirrorFields]

/-- A command of an owner to a die in reach is applied there. -/
theorem State.ioCmd_eq {a : Nat} (hreach : s.dieReach (ioDieOf k) = true) (hown : owns (s.worldOf who) (s.ioWorld k) = true) :
    (s.answer .none).ioCmd who k a 0 = (s.ioPosted who k a).ioApply k a 0 := by
  have hreach' : ((s.answer .none).decision 1 [2, k, a, 0, 0]).dieReach (ioDieOf k) = true := by
    rw [State.decision_eq]
    exact hreach
  have hown' : owns ((s.ioPosted who k a).worldOf who) ((s.ioPosted who k a).ioWorld k) = true := by
    simpa [State.worldOf, State.ioWorld, mirrorFields] using hown
  simp only [State.ioCmd, State.toDie, hreach', if_true]
  exact if_neg (by simpa [State.ioPosted] using hown')

/-- FIELD_OUTPUT_ON and FIELD_OUTPUT_OFF by a master that runs. -/
theorem exec_fieldOutput (hk : k < 48) (hr : s.masterRuns who = true) :
    exec (if on then .fieldOutputOn who k else .fieldOutputOff who k) s = .next ((s.answer .none).ioCmd who k (b2n on) 0) := by
  have hmod : k % 48 = k := Nat.mod_eq_of_lt hk
  cases on
  · simp [exec, execFieldOutputOff, State.asMaster_runs hr, hmod, b2n]
  · simp [exec, execFieldOutputOn, State.asMaster_runs hr, hmod, b2n]

/-- A command that the die takes, from the master to the stage. -/
theorem fieldOutput_taken (hk : k < 48) (hreach : s.dieReach (ioDieOf k) = true)
    (hown : owns (s.worldOf who) (s.ioWorld k) = true) (hw : s.ioRefusal k (b2n on) 0 = 0)
    (hcool : on = true → (s.fio k).hot = false) (hr : s.masterRuns who = true) :
    ∃ t, exec (if on then .fieldOutputOn who k else .fieldOutputOff who k) s = .next t ∧ (t.fio k).cmdOn = on ∧
      t.rd .IO_STAT_OUT k = b2n on ∧ t.rd .IO_STAT_SRC k = 0 ∧
      t.rd .IO_STAT_DRIVE k = b2n (on && s.rd .IO_CFG_MODE k != 0 && !s.gated (ioDieOf k) && !s.flag .IO_STAT_OTP k) ∧
      t = { s with
        regs := t.regs, io := t.io, irqs := t.irqs, eseq := t.eseq, elog := t.elog, braid := t.braid, resp := t.resp,
        ferry := t.ferry } := by
  obtain ⟨u, hu⟩ : ∃ u, u = s.ioPosted who k (b2n on) := ⟨_, rfl⟩
  have hcool' : on = true → (u.fio k).hot = false := by
    rw [State.fio_of_io (show u.io = s.io by rw [hu, State.ioPosted_eq])]
    exact hcool
  have hcmd : (s.answer .none).ioCmd who k (b2n on) 0 = u.ioSet k (b2n on) 0 := by
    rw [State.ioCmd_eq hreach hown, State.ioApply_taken ((s.ioRefusal_ioPosted ..).trans hw), hu]
  obtain ⟨hon, hout, hsrc, hdrive⟩ := State.ioSet_result hcool'
  refine ⟨_, (exec_fieldOutput hk hr).trans (congrArg _ hcmd), hon, hout, hsrc, hdrive.trans ?_, ?_⟩
  · rw [hu, State.gated_ioPosted, State.flag, State.rd_ioPosted, State.rd_ioPosted] <;> decide
  · rw [State.ioSet_frame, hu, State.ioPosted_eq]

/-- A command that the die refuses (R201, R203, R204). -/
theorem fieldOutput_refused (hk : k < 48) (hreach : s.dieReach (ioDieOf k) = true)
    (hown : owns (s.worldOf who) (s.ioWorld k) = true) (hw : s.ioRefusal k (b2n on) 0 = w) (hne : w ≠ 0)
    (hr : s.masterRuns who = true) :
    ∃ t, exec (if on then .fieldOutputOn who k else .fieldOutputOff who k) s = .next t ∧ t.rd .IO_STAT_REFUSED k = 1 ∧
      t.rd .IO_STAT_WHY k = w ∧ t.io = s.io := by
  have hcmd := (State.ioCmd_eq hreach hown).trans (State.ioApply_refused ((s.ioRefusal_ioPosted who k _ _ _).trans hw) hne)
  have hlt : w < 4 := hw ▸ s.ioRefusal_lt ..
  refine ⟨_, (exec_fieldOutput hk hr).trans (congrArg _ hcmd), ?_, ?_, ?_⟩
  · simp
  · simp [Nat.mod_eq_of_lt hlt]
  · rw [State.wr_io, State.wr_io, State.ioPosted_eq]

/-! ## The junction and the readback of a channel (R200, R202) -/

theorem exec_readbackHoldEnd (hk : k < 48) : exec (.readbackHoldEnd k) s =
    .next ((s.setIo k { s.fio k with hold := false }).ioCompare k) := by
  simp only [exec, execReadbackHoldEnd, Nat.mod_eq_of_lt hk]

theorem exec_fieldOutputOvertemp (hk : k < 48) : exec (.fieldOutputOvertemp k) s =
    .next ((s.setIo k { s.fio k with hot := true }).ioRefresh k) := by
  simp only [exec, execFieldOutputOvertemp, Nat.mod_eq_of_lt hk]

theorem exec_fieldOutputOtpRecover (hk : k < 48) : exec (.fieldOutputOtpRecover k) s =
    .next (((s.setIo k { s.fio k with hot := false }).clrF .IO_STAT_OTP k).ioRefresh k) := by
  simp only [exec, execFieldOutputOtpRecover, Nat.mod_eq_of_lt hk]

/-- The hold of a readback that differs ends on the unit that drives the channel. -/
theorem readbackHoldEnd_differs (hk : k < 48) (hmode : s.rd .IO_CFG_MODE k = 2)
    (hact : s.flag .SL_WD_STAT_ACT (ioDieOf k) = true) (hlevel : s.flag .IO_STAT_LEVEL k = !(s.fio k).cmdOn)
    (hclear : s.flag .IO_STAT_MISMATCH k = false) : ∃ t, exec (.readbackHoldEnd k) s = .next t ∧ (t.fio k).hold = false ∧
      t.rd .IO_STAT_MISMATCH k = 1 ∧ changesOnly s t [(.IO_STAT_MISMATCH, k), (.IO_STAT_LIMIT, k)] ∧
      t = { s with regs := t.regs, io := t.io, irqs := t.irqs, eseq := t.eseq, elog := t.elog } := by
  obtain ⟨u, hu⟩ : ∃ u, u = s.setIo k { s.fio k with hold := false } := ⟨_, rfl⟩
  have hfio : u.fio k = { s.fio k with hold := false } := hu ▸ s.fio_setIo_same k _
  obtain ⟨hframe, heq⟩ := u.ioCompare_onlyCompares k
  refine ⟨u.ioCompare k, hu ▸ exec_readbackHoldEnd hk, ?_, State.rd_ioCompare_mismatch ?_ ?_ ?_ ?_ ?_, ?_, ?_⟩
  · rw [State.fio_of_io (u.ioCompare_io k), hfio]
  · exact hu ▸ hmode
  · rw [hfio]
  · exact hu ▸ hact
  · rw [hfio]
    exact hu ▸ hlevel
  · exact hu ▸ hclear
  · exact changesOnly_trans (changesOnly_regs (changesOnly_refl s _) (by rw [hu])) hframe
  · refine heq.trans ?_
    rw [u.ioCompare_io, hu]

/-- A stage that conducts turns off with OTP. -/
theorem fieldOutputOvertemp_conducting (hk : k < 48) (hcmd : (s.fio k).cmdOn = true) (hmode : s.rd .IO_CFG_MODE k ≠ 0)
    (hgate : s.gated (ioDieOf k) = false) (hotp : s.flag .IO_STAT_OTP k = false) : ∃ t,
      exec (.fieldOutputOvertemp k) s = .next t ∧ t.rd .IO_STAT_OTP k = 1 ∧ t.rd .IO_STAT_OTPEVT k = 1 ∧
      t.rd .IO_STAT_DRIVE k = 0 ∧ t.rd .IO_OTPCNT k = min (s.rd .IO_OTPCNT k + 1) (2 ^ (Fld.info .IO_OTPCNT).width - 1) ∧
      (t.fio k).cmdOn = (s.fio k).cmdOn ∧ changesOnly s t [(.IO_STAT_OTP, k), (.IO_STAT_OTPEVT, k), (.IO_STAT_DRIVE, k),
        (.IO_STAT_LIMIT, k), (.IO_OTPCNT, k)] ∧ t = { s with regs := t.regs, io := t.io, irqs := t.irqs } := by
  obtain ⟨u, hu⟩ : ∃ u, u = s.setIo k { s.fio k with hot := true } := ⟨_, rfl⟩
  have hfio : u.fio k = { s.fio k with hot := true } := hu ▸ s.fio_setIo_same k _
  have hgate' : u.gated (ioDieOf k) = false := hu ▸ hgate
  have hmode' : u.rd .IO_CFG_MODE k ≠ 0 := hu ▸ hmode
  have hstage : u.stageOn k = true := by simp [State.stageOn, hfio, hcmd, hmode', hgate']
  have hturn : u.ioRefresh k = (u.ioOverTemp k).showDrive k false := State.ioRefresh_hot hstage (by rw [hfio]) (hu ▸ hotp)
  refine ⟨u.ioRefresh k, hu ▸ exec_fieldOutputOvertemp hk, ?_, ?_, ?_, ?_, ?_, ?_, ?_⟩
  · simp [hturn]
  · simp [hturn, State.ioOverTemp]
  · simp [hturn]
  · have hcount : u.rd .IO_OTPCNT k = s.rd .IO_OTPCNT k := by simp [hu]
    simp [hturn, State.ioOverTemp, State.rd_inc_same, hcount]
  · rw [State.fio_of_io (u.ioRefresh_io k), hfio]
  · have hregs : u.regs = s.regs := by rw [hu]
    have hover := changesOnly_trans (changesOnly_regs (changesOnly_refl s _) hregs) (u.ioOverTemp_changesOnly k)
    rw [hturn]
    exact changesOnly_trans (changesOnly_mono hover (by simp))
      (changesOnly_mono ((u.ioOverTemp k).showDrive_changesOnly k false) (by simp))
  · rw [State.ioRefresh_eq, hu]

/-- A stage that does not conduct keeps its OTP; only the junction is hot. -/
theorem fieldOutputOvertemp_idle (hk : k < 48)
    (hoff : (s.fio k).cmdOn = false ∨ s.rd .IO_CFG_MODE k = 0 ∨ s.gated (ioDieOf k) = true) : ∃ t,
      exec (.fieldOutputOvertemp k) s = .next t ∧ t.fio k = { s.fio k with hot := true } ∧ t.rd .IO_STAT_DRIVE k = 0 ∧
      changesOnly s t [(.IO_STAT_DRIVE, k), (.IO_STAT_LIMIT, k)] ∧ t = { s with regs := t.regs, io := t.io } := by
  obtain ⟨u, hu⟩ : ∃ u, u = s.setIo k { s.fio k with hot := true } := ⟨_, rfl⟩
  have hfio : u.fio k = { s.fio k with hot := true } := hu ▸ s.fio_setIo_same k _
  have hstage : u.stageOn k = false := by
    have hoff' : (s.fio k).cmdOn = false ∨ u.rd .IO_CFG_MODE k = 0 ∨ u.gated (ioDieOf k) = true := hu ▸ hoff
    rw [State.stageOn, hfio]
    rcases hoff' with h | h | h <;> simp [h]
  have hexec : exec (.fieldOutputOvertemp k) s = .next (u.showDrive k false) := by
    rw [exec_fieldOutputOvertemp hk, ← hu, State.ioRefresh_cool (by simp [hstage]), hstage]
    rfl
  refine ⟨_, hexec, hfio, by simp, ?_, ?_⟩
  · exact changesOnly_trans (changesOnly_regs (changesOnly_refl s _) (by rw [hu])) (u.showDrive_changesOnly k false)
  · rw [State.showDrive_eq, hu]

/-- OTP clears, and a stage that is commanded on and not gated drives again. -/
theorem fieldOutputOtpRecover_result (hk : k < 48) : ∃ t, exec (.fieldOutputOtpRecover k) s = .next t ∧
    t.rd .IO_STAT_OTP k = 0 ∧ (t.fio k).hot = false ∧ (t.fio k).cmdOn = (s.fio k).cmdOn ∧
    t.rd .IO_STAT_DRIVE k = b2n ((s.fio k).cmdOn && s.rd .IO_CFG_MODE k != 0 && !s.gated (ioDieOf k)) ∧
    changesOnly s t [(.IO_STAT_OTP, k), (.IO_STAT_DRIVE, k), (.IO_STAT_LIMIT, k)] ∧
    t = { s with regs := t.regs, io := t.io } := by
  obtain ⟨u, hu⟩ : ∃ u, u = (s.setIo k { s.fio k with hot := false }).clrF .IO_STAT_OTP k := ⟨_, rfl⟩
  have hfio : u.fio k = { s.fio k with hot := false } := hu ▸ s.fio_setIo_same k _
  have hotp : u.flag .IO_STAT_OTP k = false := by simp [hu]
  have hstage : u.stageOn k = ((s.fio k).cmdOn && s.rd .IO_CFG_MODE k != 0 && !s.gated (ioDieOf k)) := by
    have hgate : u.gated (ioDieOf k) = s.gated (ioDieOf k) := State.gated_congr (by rw [hu]; rfl) (by simp [hu])
    have hmode : u.rd .IO_CFG_MODE k = s.rd .IO_CFG_MODE k := by simp [hu]
    rw [State.stageOn, hfio, hgate, hmode]
  have hexec : exec (.fieldOutputOtpRecover k) s = .next (u.showDrive k (u.stageOn k)) := by
    rw [exec_fieldOutputOtpRecover hk, ← hu, State.ioRefresh_cool (by simp [hfio]), hotp, Bool.not_false, Bool.and_true]
  have hu' : changesOnly s u [(.IO_STAT_OTP, k), (.IO_STAT_DRIVE, k), (.IO_STAT_LIMIT, k)] :=
    hu ▸ changesOnly_wr (changesOnly_regs (changesOnly_refl s _) rfl) 0 (by simp)
  refine ⟨_, hexec, by simp [hu], congrArg Io.hot hfio, (congrArg Io.cmdOn hfio).trans rfl, by simp [hstage], ?_, ?_⟩
  · exact changesOnly_trans hu' (changesOnly_mono (u.showDrive_changesOnly k _) (by simp))
  · rw [hu]
    rfl

/-- Settles O28, clause by clause. -/
theorem fieldOutputsCommandsAndReadback : Obligations.FieldOutputsCommandsAndReadback := by
  unfold Obligations.FieldOutputsCommandsAndReadback
  refine ⟨?_, ?_, fun s who k w b => fieldOutput_refused, fun s k => readbackHoldEnd_differs,
    fun s k => fieldOutputOvertemp_conducting, fun s k => fieldOutputOvertemp_idle, fun s k => fieldOutputOtpRecover_result⟩
  · intro s who k hk hreach hown hw hr
    exact fieldOutput_taken (on := false) hk hreach hown hw (by simp) hr
  · intro s who k hk hreach hown hw hhot hotp hgate hr
    obtain ⟨t, hexec, hon, hout, hsrc, hdrive, hframe⟩ := fieldOutput_taken (on := true) hk hreach hown hw (fun _ => hhot) hr
    refine ⟨t, hexec, hon, hout, hsrc, ?_, hframe⟩
    have hmode : (s.rd .IO_CFG_MODE k != 0) = true := bne_iff_ne.mpr (State.mode_of_ioRefusal hw)
    rwa [hmode, hgate, hotp] at hdrive

end Sys2Proof.Machine
end

section
/-!
PROOFS of O42 and O45 (Braid, the safety pairs and memory errors). Each statement fails in the frame of one clause: the command
changes a part of the state that the frame leaves out. A lemma per command says which part that is, and a concrete state meets the
clause's hypotheses.
-/
namespace Sys2Proof.Machine

variable {s : State} {who : Initiator} {h : Heartbeat} {a m : Nat}

/-! ## O42: a heartbeat of a partner whose claim does not read asserted (R42, R294, R295) -/

/-- The end of fencing clears FENCING and no other field (R296), and uses no free value. -/
theorem State.stopFence_frame (s : State) :
    changesOnly s s.stopFence [(.BR_STAT_FENCING, 0)] ∧ s.stopFence.free = s.free := by
  unfold State.stopFence
  refine List.foldlRecOn (motive := fun t : State => changesOnly s t [(.BR_STAT_FENCING, 0)] ∧ t.free = s.free) _ _ ?_ ?_
  · exact ⟨changesOnly_wr_self, s.wr_free ..⟩
  · rintro t ⟨hregs, hfree⟩ k -
    split
    · exact ⟨hregs, hfree⟩
    · exact ⟨changesOnly_regs hregs rfl, hfree⟩

/-- A frame heard on P9 writes P9OK, may stop fencing (R294, R296), and uses no free value. -/
theorem State.pathHeard_frame (s : State) :
    changesOnly s (s.pathHeard false) [(.BR_STAT_P9OK, 0), (.BR_STAT_FENCING, 0)] ∧ (s.pathHeard false).free = s.free := by
  obtain ⟨u, hu⟩ : ∃ u, u = ({ s with braid := { s.braid with p9Miss := 0 } } : State).setF .BR_STAT_P9OK := ⟨_, rfl⟩
  have hregs : changesOnly s u [(.BR_STAT_P9OK, 0), (.BR_STAT_FENCING, 0)] :=
    hu ▸ changesOnly_wr (changesOnly_regs (changesOnly_refl s _) rfl) 1 (by simp)
  have hfree : u.free = s.free := by rw [hu]; rfl
  obtain ⟨hstop, hstopFree⟩ := u.stopFence_frame
  simp only [State.pathHeard, Bool.false_eq_true, if_false, ← hu]
  split
  · exact ⟨changesOnly_regs hregs rfl, hfree⟩
  split
  · exact ⟨changesOnly_regs hregs rfl, hfree⟩
  split
  · exact ⟨changesOnly_trans hregs (changesOnly_mono hstop (by simp)), hstopFree.trans hfree⟩
  · exact ⟨hregs, hfree⟩

/-- While PCLAIM reads 0, whether edges have come on ACT_CLAIM_IN is a free value, which is used up (R42, log entry 42). -/
theorem State.claimEdges_free (hp : s.flag .BR_STAT_PCLAIM = false) : s.claimEdges.free = s.free + 1 := by
  unfold State.claimEdges
  rw [hp]
  cases bit s.fresh 0 <;> rfl

theorem State.rd_claimEdges (s : State) {f : Fld} (i : Nat) (hf : f ≠ .BR_STAT_PCLAIM) : s.claimEdges.rd f i = s.rd f i := by
  unfold State.claimEdges
  split
  · rfl
  split
  · exact (State.rd_wr_field _ _ _ _ hf).trans (State.rd_of_regs rfl f i)
  · rfl

/-- A stale unit that hears an ACTIVE partner notes what the frame tells, and then looks at the claim line: where PCLAIM reads 0, that
uses a free value. -/
theorem State.beat_free_of_stale (hst : s.brState = 2) (hact : h.state = 5) (hy : h.yield = false)
    (hp : s.flag .BR_STAT_PCLAIM = false) : (s.beat h).free = s.free + 1 := by
  obtain ⟨hpath, hpathFree⟩ := s.pathHeard_frame
  unfold State.beat
  extract_lets _ s1 s2 s3 noted _ edges
  have hfree : noted.free = s.free := hpathFree
  have hstate : noted.rd .BR_STAT_STATE = 2 := by
    simpa [noted, s3, s2, s1] using (hpath .BR_STAT_STATE 0 (by decide)).trans hst
  have hclaim : noted.rd .BR_STAT_PCLAIM = s.rd .BR_STAT_PCLAIM := by
    simpa [noted, s3, s2, s1] using hpath .BR_STAT_PCLAIM 0 (by decide)
  have hedges : edges = ({ noted with braid := { noted.braid with yieldSeen := 0 } } : State).claimEdges :=
    if_pos (by simp [hact, hy])
  have hstale : edges.brState = 2 := by
    rw [hedges, State.brState, State.rd_claimEdges _ _ (by decide), State.rd_with_braid, hstate]
  rw [hstale]
  change edges.free = s.free + 1
  rw [hedges, State.claimEdges_free, hfree]
  rw [State.flag, State.rd_with_braid, hclaim]
  exact hp

theorem exec_heartbeatReceive_some (hpair : s.pairMode = true) (ha : s.awake = true) :
    exec (.heartbeatReceive (some h)) s = .next (s.beat h) := by
  simp only [exec, execHeartbeatReceive, State.running_awake ha, hpair]
  rfl

/-- A stale unit of a pair, which has heard nothing yet of its partner's claim. -/
def staleState : State := (State.reset.wr .BR_CTL_MODE 1).wr .BR_STAT_STATE 2

/-- Refutes O42 by its fourth clause. A stale unit hears a heartbeat of an ACTIVE partner while PCLAIM reads 0: the model answers the
open question of the claim line with a free value (R42, log entry 42), and the count of free values used moves on from 0. The
frame of the clause lets registers, Braid and the CAN channels change and nothing else. -/
theorem not_heartbeatsMissesAndPresence : ¬ Obligations.HeartbeatsMissesAndPresence := by
  unfold Obligations.HeartbeatsMissesAndPresence
  rintro ⟨-, -, -, hframe, -⟩
  obtain ⟨t, ht, -, -, -, -, -, -, hrest⟩ := hframe staleState { state := 5 } (by decide) (by decide) (by decide)
  rw [exec_heartbeatReceive_some (by decide) (by decide)] at ht
  obtain rfl : staleState.beat { state := 5 } = t := by injection ht
  have hkept : (staleState.beat { state := 5 }).free = staleState.free := (congrArg State.free hrest :)
  have hused : (staleState.beat { state := 5 }).free = staleState.free + 1 :=
    State.beat_free_of_stale (by decide) rfl rfl (by decide)
  omega

/-! ## O45: an uncorrectable error met by the object engine (R337, R424) -/

/-- An uncorrectable error met by the object engine (master 0x12) ends its request (R424). -/
theorem exec_uncorrectableError_objectEngine (hw : who.master = 0x12) (hr : s.masterRuns who = true) :
    ∃ t, exec (.uncorrectableError who a m) s = .next t ∧ t.od.memError = true := by
  simp only [exec, execUncorrectableError, State.asMaster_runs hr, hw]
  exact ⟨_, rfl, rfl⟩

/-- Refutes O45 by its seventh clause: the object engine (master 0x12) is a master that runs, and the error that its access meets
ends its request (R424). The frame of the clause does not let the object dictionary change, where that stands, and no hypothesis
leaves out that master. -/
theorem not_pairsMemoryErrorsAndFerry : ¬ Obligations.PairsMemoryErrorsAndFerry := by
  unfold Obligations.PairsMemoryErrorsAndFerry
  rintro ⟨-, -, -, -, -, -, herror, -⟩
  have hruns : State.reset.masterRuns ⟨0x12, .safety⟩ = true := by decide
  obtain ⟨t, ht, -, -, -, -, -, -, -, -, -, hrest⟩ :=
    herror State.reset ⟨0x12, .safety⟩ 0 0 (by decide) (by decide) (by decide) hruns
  obtain ⟨u, hu, hended⟩ := exec_uncorrectableError_objectEngine (a := 0) (m := 0) rfl hruns
  obtain rfl : u = t := by
    rw [hu] at ht
    injection ht
  have hkept : u.od = State.reset.od := (congrArg State.od hrest :)
  rw [hkept] at hended
  exact absurd hended (by decide)

end Sys2Proof.Machine
end
